-- ==== Sys2Proof/Word.lean ====
section
/-! DEFINITION. The one machine word of the two hall links: the byte of a frame. Everything else the FX640 holds is a number
with a stated range, a name, or a list, and is typed so. -/

namespace Sys2Proof

/-- One byte of a frame, or the data value of one received character (R158, R161). -/
abbrev Byte := BitVec 8

end Sys2Proof
end

