-- ==== Sys2Proof/Config.lean ====
section
/-! DEFINITION. What the manual leaves to the installation, and the one value it leaves open: the straps sampled before
`State.reset` (log entry 1) and the byte that an ill-formed escape leaves in a frame (log entry 2). -/

namespace Sys2Proof.Config

/-- The frame byte that stands for a character which follows ESC and is none of A1H to A4H. R160 marks the frame as having a
character error and does not say which value the frame byte takes; it matters only at the place of the length byte. A free
value: it has no body (log entry 2, DESIGN CHOICE). -/
opaque illEscapedByte : Byte → Byte

/-- The node address straps ADS7..ADS0 of the reset that `State.reset` stands for (log entry 1, DESIGN CHOICE). -/
def resetAds : BitVec 8 := 0

/-- The port A rate straps of the reset that `State.reset` stands for (log entry 1, DESIGN CHOICE). -/
def resetRsa : BitVec 2 := 0

/-- The port B rate straps of the reset that `State.reset` stands for (log entry 1, DESIGN CHOICE). -/
def resetRsb : BitVec 2 := 0

end Sys2Proof.Config
end

