-- ==== Sys2Proof/Syntax.lean ====
section
/-! DEFINITION. The commands and events of the FX640: one constructor of `Instr` per row of spec/opcode_table.json, in the
table's order, with the operands that say what arrives from outside (log entry 4 says how each kind of row gets its operands). -/

namespace Sys2Proof

/-- The two link ports (section 1.1 of 00_scope.md). -/
inductive Port where
  | A
  | B
deriving DecidableEq, Repr

/-- The port a forwarded frame leaves on. -/
def Port.other : Port → Port
  | .A => .B
  | .B => .A

/-- One character on a line: its 11 bits in the order in which they are sent, the first in bit 0: the start bit, eight data bits
with the least significant first, the even parity bit, the stop bit (R158). A bit is 1 at the idle level (log entry 23). -/
abbrev RxChar := BitVec 11

/-- A TIME frame that completes reception on port A without error, its SOF included (R47). -/
structure TimeArrival where
  dest : Byte
  src : Byte
  seq : Byte
  payload : List Byte
deriving DecidableEq, Repr

/-- The steps of the part: the rows of spec/opcode_table.json. `src` is the source address of the CMD frame that carries a
management command, `index` the two-byte entry index, `entry` the definition bytes that follow it. -/
inductive Instr where
  /-- COLD_RESET (R186): RESETN returns high, or power-on completes, with these strap levels. -/
  | coldReset (ads : BitVec 8) (rsa rsb : BitVec 2)
  /-- LOCAL_TICK (R46). -/
  | localTick
  /-- FRAME_RECEIVED (R164): the characters after SOF, through the last one of the frame. -/
  | frameReceived (port : Port) (chars : List RxChar)
  /-- FRAME_ABANDONED (R160): the characters after SOF, through the one that abandons the frame. -/
  | frameAbandoned (port : Port) (chars : List RxChar)
  /-- PAUSE_RECEIVED (R167). -/
  | pauseReceived (port : Port)
  /-- RESUME_RECEIVED (R167). -/
  | resumeReceived (port : Port)
  /-- PAUSE_SELF_RESUME_EXPIRY (R167). -/
  | pauseSelfResumeExpiry (port : Port)
  /-- CONTROL_BYTE_SENT (R159). -/
  | controlByteSent (port : Port)
  /-- TRANSMIT_END (R168). -/
  | transmitEnd (port : Port)
  /-- TRIP_HANDOVER (R136). -/
  | tripHandover
  /-- PHASE_HANDOVER (R74). -/
  | phaseHandover
  /-- WINDOW_HANDOVER (R73). -/
  | windowHandover
  /-- PASS_THROUGH_HANDOVER (R170) on the port that sends the frame. -/
  | passThroughHandover (port : Port)
  /-- EVENT_HANDOVER (R155). -/
  | eventHandover
  /-- REPLY_HANDOVER (R169). -/
  | replyHandover
  /-- SCAN_FRAME (R29); the TIME frames that complete reception before the frame is finished stand in `State.arriving` (R49). -/
  | scanFrame
  /-- TIME_FRAME (R47): a TIME frame completes reception on port A without error and is applied. -/
  | timeFrame (dest src seq : Byte) (payload : List Byte)
  /-- SYNC_SUPERVISION_EXPIRY (R50). -/
  | syncSupervisionExpiry
  /-- MODULE_SUPERVISION_EXPIRY (R39). -/
  | moduleSupervisionExpiry (m : Fin 16)
  /-- CHATTER_DECAY_EXPIRY (R13). -/
  | chatterDecayExpiry
  /-- SETTLE_EXPIRY (R89). -/
  | settleExpiry (g : Fin 32)
  /-- WINDOW_REFRESH_EXPIRY (R73). -/
  | windowRefreshExpiry
  /-- PHASE_INTERVAL_EXPIRY (R74). -/
  | phaseIntervalExpiry
  /-- LAMP_TEST_LIMIT_EXPIRY (R76). -/
  | lampTestLimitExpiry
  /-- ELEMENT_DELAY_EXPIRY (R112). -/
  | elementDelayExpiry (e : Fin 64)
  /-- CONFIRM_DEADLINE_EXPIRY (R139). -/
  | confirmDeadlineExpiry (k : Fin 8)
  /-- TRIP_REFRESH_EXPIRY (R135). -/
  | tripRefreshExpiry
  /-- BATCH_TIMER_EXPIRY (R154). -/
  | batchTimerExpiry
  /-- CONFIRM_FRAME (R137). -/
  | confirmFrame
  /-- BUTTON_ACK (R93). -/
  | buttonAck
  /-- BUTTON_RESET (R93). -/
  | buttonReset
  /-- BUTTON_SILENCE (R93). -/
  | buttonSilence
  /-- BUTTON_TEST_ON (R93). -/
  | buttonTestOn
  /-- BUTTON_TEST_OFF (R93). -/
  | buttonTestOff
  /-- BUTTON_IGNORED (R93). -/
  | buttonIgnored
  /-- CMD_FRAME (R172). -/
  | cmdFrame
  /-- CMD_UNKNOWN (R173): a CMD whose payload is empty or begins with an unlisted command code. -/
  | cmdUnknown (src : Byte) (payload : List Byte)
  /-- READ_ENTRY (R175). -/
  | readEntry (src table : Byte) (index : BitVec 16)
  /-- READ_STATE (R175). -/
  | readState (src table : Byte) (index : BitVec 16)
  /-- WRITE_SETTINGS (R177). -/
  | writeSettings (src : Byte) (index : BitVec 16) (entry : List Byte)
  /-- CLEAR_SETTINGS (R177). -/
  | clearSettings (src : Byte) (index : BitVec 16)
  /-- WRITE_MODULE (R27). -/
  | writeModule (src : Byte) (index : BitVec 16) (entry : List Byte)
  /-- CLEAR_MODULE (R28). -/
  | clearModule (src : Byte) (index : BitVec 16)
  /-- WRITE_POINT (R18). -/
  | writePoint (src : Byte) (index : BitVec 16) (entry : List Byte)
  /-- CLEAR_POINT (R21). -/
  | clearPoint (src : Byte) (index : BitVec 16)
  /-- WRITE_WINDOW (R59). -/
  | writeWindow (src : Byte) (index : BitVec 16) (entry : List Byte)
  /-- CLEAR_WINDOW (R59). -/
  | clearWindow (src : Byte) (index : BitVec 16)
  /-- WRITE_DRIVER (R71). -/
  | writeDriver (src : Byte) (index : BitVec 16) (entry : List Byte)
  /-- CLEAR_DRIVER (R71). -/
  | clearDriver (src : Byte) (index : BitVec 16)
  /-- WRITE_GROUP (R83). -/
  | writeGroup (src : Byte) (index : BitVec 16) (entry : List Byte)
  /-- CLEAR_GROUP (R83). -/
  | clearGroup (src : Byte) (index : BitVec 16)
  /-- WRITE_HORN (R95). -/
  | writeHorn (src : Byte) (index : BitVec 16) (entry : List Byte)
  /-- CLEAR_HORN (R95). -/
  | clearHorn (src : Byte) (index : BitVec 16)
  /-- WRITE_PATTERN (R70). -/
  | writePattern (src : Byte) (index : BitVec 16) (entry : List Byte)
  /-- CLEAR_PATTERN (R70). -/
  | clearPattern (src : Byte) (index : BitVec 16)
  /-- WRITE_ELEMENT (R115). -/
  | writeElement (src : Byte) (index : BitVec 16) (entry : List Byte)
  /-- CLEAR_ELEMENT (R116). -/
  | clearElement (src : Byte) (index : BitVec 16)
  /-- WRITE_OUTPUT (R126). -/
  | writeOutput (src : Byte) (index : BitVec 16) (entry : List Byte)
  /-- CLEAR_OUTPUT (R126). -/
  | clearOutput (src : Byte) (index : BitVec 16)
  /-- WRITE_CHANNEL (R129). -/
  | writeChannel (src : Byte) (index : BitVec 16) (entry : List Byte)
  /-- CLEAR_CHANNEL (R129). -/
  | clearChannel (src : Byte) (index : BitVec 16)
  /-- SET_MODE_RUN (R181). -/
  | setModeRun (src : Byte)
  /-- SET_MODE_TEST (R182). -/
  | setModeTest (src : Byte)
  /-- SET_MODE_CONFIGURING (R183). -/
  | setModeConfiguring (src : Byte)
  /-- FREEZE_MATRIX (R184). -/
  | freezeMatrix (src : Byte)
  /-- ANNUNCIATION_RESTART (R185). -/
  | annunciationRestart (src : Byte)
  /-- GROUP_ACK (R94). -/
  | groupAck (src group : Byte)
  /-- GROUP_RESET (R94). -/
  | groupReset (src group : Byte)
  /-- HORN_SILENCE (R94). -/
  | hornSilence (src horn : Byte)
  /-- LAMP_TEST_ON (R94). -/
  | lampTestOn (src : Byte)
  /-- LAMP_TEST_OFF (R94). -/
  | lampTestOff (src : Byte)
  /-- LOCKOUT_RESET (R133). -/
  | lockoutReset (src channel : Byte)
  /-- FORCE_ELEMENT_ON (R119). -/
  | forceElementOn (src element : Byte)
  /-- FORCE_ELEMENT_OFF (R119). -/
  | forceElementOff (src element : Byte)
  /-- READ_STATUS (R178) with its clear-counters flag. -/
  | readStatus (src flag : Byte)
  /-- SOF_RECEIVED (R160). -/
  | sofReceived (port : Port)
  /-- RESETN_HELD_LOW (R186). -/
  | resetnHeldLow
deriving DecidableEq, Repr

end Sys2Proof
end

