-- ==== Sys2Proof/Decode.lean ====
section
/-! DEFINITION. The command that a table word spells. spec/opcode_table.json gives no row any bits, so no word spells a command. -/

namespace Sys2Proof

/-- The command whose table bits are `w`: none, since no row of spec/opcode_table.json has bits (log entry 3). -/
def decodeTableWord (nbits w : Nat) : Option Instr :=
  match nbits, w with
  | _, _ => none

end Sys2Proof
end

