-- ==== Sys2Proof/Machine/Table.lean ====
section
/-! DEFINITION. A table of the part with `n` entries, held as the list of the entries that differ from the table's initial entry,
by rising index. The default entry `d` is a parameter of every operation, so an unlisted index reads as it. -/

namespace Sys2Proof.Machine

/-- A table of `n` entries: the entries that differ from the initial one, each with its index. -/
abbrev Table (n : Nat) (α : Type) := List (Fin n × α)

/-- The entry at index `i`; `d` where none is listed. -/
def Table.get {n : Nat} {α : Type} (d : α) : Table n α → Fin n → α
  | [], _ => d
  | (j, v) :: t, i => if i = j then v else Table.get d t i

/-- Put the entry `(i, v)` before the first listed entry of a greater index. -/
def Table.insertCell {n : Nat} {α : Type} (i : Fin n) (v : α) : Table n α → Table n α
  | [] => [(i, v)]
  | (j, w) :: t => if i < j then (i, v) :: (j, w) :: t else (j, w) :: Table.insertCell i v t

/-- Replace the entry at index `i`; writing `d` removes the listed entry, which keeps the canonical form. -/
def Table.set {n : Nat} {α : Type} [DecidableEq α] (d : α) (t : Table n α) (i : Fin n) (v : α) : Table n α :=
  let rest := t.filter (fun c => decide (c.1 ≠ i))
  if v = d then rest else Table.insertCell i v rest

/-- The listed indices, in the order of the list. -/
def Table.keys {n : Nat} {α : Type} (t : Table n α) : List (Fin n) :=
  t.map (fun c => c.1)

/-- Apply `f` to every listed entry; `f` is to leave the initial entry as it is. An entry that becomes initial is listed no more. -/
def Table.mapCells {n : Nat} {α : Type} [DecidableEq α] (d : α) (f : α → α) (t : Table n α) : Table n α :=
  t.filterMap (fun c => if f c.2 = d then none else some (c.1, f c.2))

/-- The table whose entry at every index `i` is `f i`. -/
def Table.ofFn {n : Nat} {α : Type} [DecidableEq α] (d : α) (f : Fin n → α) : Table n α :=
  (List.finRange n).filterMap (fun i => if f i = d then none else some (i, f i))

/-- The canonical form: indices strictly rising, and no entry equal to what an unlisted index reads as. -/
def Table.wf {n : Nat} {α : Type} [DecidableEq α] (d : α) (t : Table n α) : Bool :=
  decide (t.Pairwise (fun a b => a.1 < b.1)) && t.all (fun c => decide (c.2 ≠ d))

end Sys2Proof.Machine
end

