-- ==== Sys2Proof/Machine/Frames.lean ====
section
/-! DEFINITION. Bytes and frames of the hall link: byte order, the CRC, the escaping of a sent frame, the receiver's treatment of
characters, and the frame envelope (R159 to R163). -/

namespace Sys2Proof.Machine

/-- The number that a field's bytes carry, most significant byte first (R161, R163). -/
def natOfBytes (bs : List Byte) : Nat :=
  bs.foldl (fun n b => n * 256 + b.toNat) 0

/-- The low byte of a number. -/
def lowByte (n : Nat) : Byte := BitVec.ofNat 8 n

/-- A number as a field of `k` bytes, most significant byte first (R161, R163). -/
def bytesOfNat : Nat → Nat → List Byte
  | 0, _ => []
  | k + 1, n => bytesOfNat k (n / 256) ++ [lowByte n]

/-- 01H for yes and 00H for no, as every two-valued field is coded. -/
def boolByte (b : Bool) : Byte := if b then 1 else 0

/-- The reserved bytes of both links (section 9.2). -/
def sofByte : Byte := 0xE1
def escByte : Byte := 0xE2
def pauseByte : Byte := 0xE3
def resumeByte : Byte := 0xE4

/-- The frame kind codes (section 9.4). -/
def kindScan : Byte := 0x11
def kindTime : Byte := 0x21
def kindCmd : Byte := 0x31
def kindReply : Byte := 0x32
def kindEvent : Byte := 0x41
def kindWindow : Byte := 0x51
def kindPhase : Byte := 0x52
def kindButton : Byte := 0x53
def kindTrip : Byte := 0x61
def kindConfirm : Byte := 0x62

/-- The destination address of a broadcast (section 3.3). -/
def broadcast : Byte := 255

/-- The command codes that R173 lists. -/
def commandCodes : List Byte :=
  [0x01, 0x02, 0x03, 0x04, 0x10, 0x11, 0x12, 0x20, 0x21, 0x22, 0x23, 0x30, 0x31, 0x40]

/-- A frame, unescaped: the envelope of R161. The length byte is the payload's length. -/
structure Frame where
  dest : Byte
  src : Byte
  kind : Byte
  seq : Byte
  payload : List Byte
  crc : BitVec 16
deriving DecidableEq, Repr

/-- One shift of the CRC register (R162). -/
def crcShift (reg : BitVec 16) : BitVec 16 :=
  if reg.msb then (reg <<< 1) ^^^ 0x1021 else reg <<< 1

/-- The CRC register after `k` shifts. -/
def crcShifts : Nat → BitVec 16 → BitVec 16
  | 0, reg => reg
  | k + 1, reg => crcShifts k (crcShift reg)

/-- Take one byte into the CRC register (R162). -/
def crcByte (reg : BitVec 16) (b : Byte) : BitVec 16 :=
  crcShifts 8 (reg ^^^ ((b.setWidth 16) <<< 8))

/-- The CRC over a list of unescaped bytes: polynomial 1021H, initial value FFFFH, no final XOR (R162). -/
def crcOf (bs : List Byte) : BitVec 16 :=
  bs.foldl crcByte 0xFFFF

/-- The unescaped bytes from the destination through the last payload byte, over which the CRC is taken (R161, R162). -/
def Frame.checked (f : Frame) : List Byte :=
  [f.dest, f.src, f.kind, f.seq, lowByte f.payload.length] ++ f.payload

/-- The CRC's two bytes, high byte first (R161). -/
def crcBytes (c : BitVec 16) : List Byte :=
  [(c >>> 8).setWidth 8, c.setWidth 8]

/-- Every frame byte after SOF: destination through the second CRC byte (R159). -/
def Frame.bytes (f : Frame) : List Byte :=
  f.checked ++ crcBytes f.crc

/-- A frame with its CRC computed (R162). -/
def mkFrame (dest src kind seq : Byte) (payload : List Byte) : Frame :=
  let f : Frame := { dest := dest, src := src, kind := kind, seq := seq, payload := payload, crc := 0 }
  { f with crc := crcOf f.checked }

/-- The received CRC agrees with the computed one (R162). -/
def Frame.crcGood (f : Frame) : Bool := decide (crcOf f.checked = f.crc)

/-- A byte of the four reserved values (section 9.2). -/
def reserved (b : Byte) : Bool :=
  b == sofByte || b == escByte || b == pauseByte || b == resumeByte

/-- One frame byte as it is sent (R159). -/
def escaped (b : Byte) : List Byte :=
  if reserved b then [escByte, b ^^^ 0x40] else [b]

/-! ### Characters (R158) -/

/-- The even parity bit of a byte: with it, the ones among the nine bits are even in number (R158). -/
def evenParity (b : Byte) : Bool := ((List.finRange 8).filter (fun i => b.getLsbD i.val)).length % 2 == 1

/-- The character that sends a byte: start bit, data bits, even parity bit, stop bit (R158, log entry 23). -/
def sentChar (b : Byte) : RxChar :=
  1#1 ++ BitVec.ofBool (evenParity b) ++ b ++ 0#1

end Sys2Proof.Machine

namespace Sys2Proof

/-- The data value of a character (R158). -/
def RxChar.data (c : RxChar) : Byte := c.extractLsb' 1 8

/-- A character begins with a start bit, off the idle level (R158, log entry 23). -/
def RxChar.started (c : RxChar) : Bool := !c.getLsbD 0

/-- A character in error: wrong parity, or a stop bit that is not at the idle level (R158). -/
def RxChar.inError (c : RxChar) : Bool := (c.getLsbD 9 != Machine.evenParity c.data) || !c.getLsbD 10

end Sys2Proof

namespace Sys2Proof.Machine

/-- The characters of a frame on the transmit line: SOF, then every frame byte, escaped (R158, R159). -/
def Frame.wire (f : Frame) : List RxChar :=
  (sofByte :: f.bytes.flatMap escaped).map sentChar

/-- A frame in reception: the frame bytes so far, an ESC that waits for its character, a character error (R160). -/
structure RxPartial where
  bytes : List Byte
  esc : Bool
  err : Bool
deriving DecidableEq, Repr

/-- How a reception ends (R160). -/
inductive RxEnd where
  /-- the frame's last byte has been received; `err` says that a character error marks it -/
  | completed (bytes : List Byte) (err : Bool)
  /-- a length byte above 200 -/
  | abandonedByLength
  /-- an SOF within the frame -/
  | abandonedBySof
deriving DecidableEq, Repr

/-- What one character does to a frame in reception. -/
inductive RxNext where
  | going (p : RxPartial)
  | ended (e : RxEnd)
deriving DecidableEq, Repr

/-- Take the next frame byte: the fifth is the length; a length above 200 abandons the frame, and after the payload and the two
CRC bytes the reception is complete (R160). -/
def RxPartial.takeByte (p : RxPartial) (b : Byte) : RxNext :=
  let bytes := p.bytes ++ [b]
  if bytes.length = 5 ∧ 200 < b.toNat then .ended .abandonedByLength
  else if 7 ≤ bytes.length ∧ bytes.length = 7 + (bytes.getD 4 0).toNat then .ended (.completed bytes p.err)
  else .going { p with bytes := bytes, esc := false }

/-- One character within a frame (R160). A control byte is removed from the stream and an ESC before it still applies. Any
character after ESC other than A1H to A4H marks the frame and stands as one frame byte of an unstated value (log entry 2). -/
def RxPartial.char (p : RxPartial) (c : RxChar) : RxNext :=
  if c.inError then ({ p with err := true } : RxPartial).takeByte c.data
  else if c.data = pauseByte ∨ c.data = resumeByte then .going p
  else if p.esc then
    if reserved (c.data ^^^ 0x40) then p.takeByte (c.data ^^^ 0x40)
    else ({ p with err := true } : RxPartial).takeByte (Config.illEscapedByte c.data)
  else if c.data = sofByte then .ended .abandonedBySof
  else if c.data = escByte then .going { p with esc := true }
  else p.takeByte c.data

/-- The receiver over the characters of a reception; an answer only where each begins with a start bit, and the last one, and no
earlier one, ends it. -/
def deframeFrom (p : RxPartial) : List RxChar → Option RxEnd
  | [] => none
  | c :: cs =>
    if c.started then
      match p.char c with
      | .going q => deframeFrom q cs
      | .ended e => if cs.isEmpty then some e else none
    else none

/-- The receiver from just after SOF. -/
def deframe (cs : List RxChar) : Option RxEnd :=
  deframeFrom { bytes := [], esc := false, err := false } cs

/-- Read the envelope of R161 from the bytes of a completed frame. -/
def frameOfBytes : List Byte → Option Frame
  | dest :: src :: kind :: seq :: _ :: rest =>
    let n := rest.length - 2
    some { dest := dest, src := src, kind := kind, seq := seq, payload := rest.take n,
           crc := BitVec.ofNat 16 (natOfBytes (rest.drop n)) }
  | _ => none

/-- The line characters of a frame without error, after its SOF: what a partner sends. -/
def Frame.chars (f : Frame) : List RxChar :=
  (f.bytes.flatMap escaped).map sentChar

end Sys2Proof.Machine
end

