-- ==== Sys2Proof/Machine/State.lean ====
section
/-! DEFINITION. The state of the FX640: everything spec/ gives the part to hold, block by block, and its value after cold reset. -/

namespace Sys2Proof.Machine

/-- A timer (R45): `none` is stopped, `some n` has `n` local ticks still to come before its expiry, and `some 0` has counted its
last tick and its expiry is due to be taken (log entry 6). -/
abbrev Timer := Option Nat

/-! ### The Link Unit (chapter 9) -/

/-- A port's receiver (R160). -/
inductive RxState where
  | betweenFrames
  | withinFrame
deriving DecidableEq, Repr

/-- A control byte (section 9.2). -/
inductive Control where
  | pause
  | resume
deriving DecidableEq, Repr

/-- What an arbiter last chose between the frames of the part (EVENT on port A, WINDOW on port B) and pass-through (R169, R170). -/
inductive Alternation where
  | passThrough
  | own
deriving DecidableEq, Repr

/-- A frame holding a place in a receive buffer (R164, R165): its receipt time on port A (R51), whether it awaits forwarding to the
other port, and whether it is now being sent there. -/
structure Held where
  frame : Frame
  trx : Option Nat
  forward : Bool
  sending : Bool
deriving DecidableEq, Repr

/-- The frame a transmitter is sending (R168), the characters it puts on the line (R159), and whether it is a forwarded frame. -/
structure Tx where
  frame : Frame
  wire : List RxChar
  forwarded : Bool
deriving DecidableEq, Repr

/-- One link port: R158 to R171. -/
structure PortState where
  /-- rate straps as sampled (R158) -/
  rate : BitVec 2 := 0
  rx : RxState := .betweenFrames
  /-- the receive buffer, in the order in which reception completed -/
  buf : List Held := []
  pauseAsserted : Bool := false
  /-- the control byte due to be sent (R159) -/
  control : Option Control := none
  /-- the control byte last placed on the transmit line: the model's own field, the outside's view of R159 -/
  onLine : Option Control := none
  /-- the transmitter is paused by the line (R167) -/
  paused : Bool := false
  selfResume : Timer := none
  tx : Option Tx := none
  txSeq : Nat := 0
  alt : Alternation := .passThrough
  charErrors : Nat := 0
  crcErrors : Nat := 0
  lengthErrors : Nat := 0
  overruns : Nat := 0
deriving DecidableEq, Repr

/-! ### Scan Intake (chapter 2) -/

/-- A module's definition while it is enabled (R25). -/
structure ModuleDef where
  address : Nat
  channels : Nat
  supervision : Nat
  window : Option (Fin 192)
deriving DecidableEq, Repr

/-- R26. -/
inductive ModuleState where
  | unseen
  | live
  | silent
deriving DecidableEq, Repr

/-- One entry of the module table (R25, R26); `defn` is `none` while enabled is no. -/
structure InputModule where
  defn : Option ModuleDef := none
  state : ModuleState := .unseen
  lastSeq : Option Nat := none
  supervision : Timer := none
  floor : Nat := 0
  ignored : Nat := 0
  duplicates : Nat := 0
  malformed : Nat := 0
deriving DecidableEq, Repr

/-! ### The Time Base (chapter 3) -/

/-- R50. -/
inductive TimeQuality where
  | unset
  | synced
  | free
deriving DecidableEq, Repr

/-- The local ticks since cold reset, station time, hold remainder, time quality and sync supervision timer (R44 to R50). -/
structure TimeBase where
  ticks : Nat := 0
  station : Nat := 0
  hold : Nat := 0
  quality : TimeQuality := .unset
  sync : Timer := none
deriving DecidableEq, Repr

/-! ### The Event Queue (chapter 8) -/

/-- The class of a record (R146). -/
inductive RecClass where
  | alarm
  | trip
deriving DecidableEq, Repr

/-- The record kinds of section 8.2. -/
inductive RecordKind where
  | pointAlarm
  | pointNormal
  | pointQuality
  | chatterOn
  | chatterOff
  | groupAck
  | groupReset
  | firstOut
  | hornSilence
  | elementPickup
  | elementOperate
  | elementRelease
  | elementDropout
  | channelTrip
  | channelLockout
  | channelNormal
  | confirmMissing
  | confirmRestored
  | moduleSilent
  | moduleLive
  | moduleGap
  | modeChange
  | timeStep
  | restart
  | queueOverflow
deriving DecidableEq, Repr

/-- A record in the queue (R146), with its class, which is not sent, and the local tick count at its acceptance, from which the
head record's wait is counted (R154). -/
structure Record where
  seq : Nat
  kind : RecordKind
  cls : RecClass
  quality : TimeQuality
  adjusted : Bool
  approx : Bool
  test : Bool
  time : Nat
  subject : Nat
  value : Nat
  extra : Nat
  acceptedAt : Nat
deriving DecidableEq, Repr

/-- The Event Queue (R145, R150, R154): records with the head first, dropped count, next record sequence number, batch timer, and
whether the head record has waited long enough. -/
structure EventQueue where
  records : List Record := []
  dropped : Nat := 0
  nextSeq : Nat := 0
  batch : Timer := none
  headWaited : Bool := false
deriving DecidableEq, Repr

/-! ### The Point Unit (chapter 1) -/

/-- R1. -/
inductive Polarity where
  | alarmOnClosed
  | alarmOnOpen
deriving DecidableEq, Repr

/-- R1. -/
inductive PointKind where
  | maintained
  | momentary
deriving DecidableEq, Repr

/-- R2. -/
inductive Condition where
  | normal
  | alarm
deriving DecidableEq, Repr

/-- R2. -/
inductive Quality where
  | good
  | bad
deriving DecidableEq, Repr

/-- A point's definition while defined is yes (R1). -/
structure PointDef where
  polarity : Polarity
  kind : PointKind
  window : Option (Fin 192)
  chatterLimit : Nat
  inhibited : Bool
  cls : RecClass
deriving DecidableEq, Repr

/-- One entry of the point table (R1, R2); a contact of 1 (closed) is `true`. -/
structure Point where
  defn : Option PointDef := none
  contact : Bool := false
  condition : Condition := .normal
  quality : Quality := .bad
  announced : Condition := .normal
  chatter : Nat := 0
  suppressed : Bool := false
  lastEvent : Nat := 0
deriving DecidableEq, Repr

/-! ### The Annunciation Unit (chapters 4 and 5) -/

/-- R57. -/
inductive SequenceType where
  | manualReset
  | autoReset
deriving DecidableEq, Repr

/-- R63. -/
inductive WindowState where
  | dark
  | fast
  | steady
  | slow
deriving DecidableEq, Repr

/-- A displayed pattern (R58). -/
inductive Shown where
  | off
  | on
  | fast
  | slow
  | first
deriving DecidableEq, Repr

/-- A window's definition while defined is yes (R57). -/
structure WindowDef where
  group : Fin 32
  sequence : SequenceType
  eligible : Bool
deriving DecidableEq, Repr

/-- One entry of the window table (R57, R58). -/
structure Window where
  defn : Option WindowDef := none
  state : WindowState := .dark
  count : Nat := 0
  mark : Bool := false
  shown : Shown := .off
deriving DecidableEq, Repr

/-- A group's definition while defined is yes (R81). -/
structure GroupDef where
  horn : Option (Fin 4)
  firstOut : Bool
  settle : Nat
deriving DecidableEq, Repr

/-- R82. -/
inductive GroupState where
  | armed
  | provisional
  | captured
deriving DecidableEq, Repr

/-- One entry of the group table (R81, R82). -/
structure Group where
  defn : Option GroupDef := none
  state : GroupState := .armed
  foWindow : Option (Fin 192) := none
  foPoint : Option (Fin 1024) := none
  captured : Nat := 0
  settle : Timer := none
deriving DecidableEq, Repr

/-- R95. -/
inductive Sound where
  | continuous
  | pulsed
deriving DecidableEq, Repr

/-- R95. -/
inductive HornState where
  | quiet
  | sounding
  | silenced
deriving DecidableEq, Repr

/-- One entry of the horn table (R95). -/
structure Horn where
  sound : Sound := .continuous
  state : HornState := .quiet
  fastCount : Nat := 0
deriving DecidableEq, Repr

/-- One entry of the pattern table, in units of 10 ms (R70). -/
structure PatternEntry where
  period : Nat
  onTime : Nat
deriving DecidableEq, Repr

/-- The Annunciation Unit. A driver's image is the displayed patterns of its 32 windows (R72) and has no field of its own. -/
structure Annunciator where
  windows : Table 192 Window := []
  /-- link addresses of the drivers (R71) -/
  drivers : Table 6 (Option Nat) := []
  /-- drivers due a WINDOW frame, in the order in which they joined (R72) -/
  waiting : List (Fin 6) := []
  groups : Table 32 Group := []
  horns : Table 4 Horn := []
  /-- FAST, SLOW, FIRST, HORN (R70) -/
  patterns : Vector PatternEntry 4 :=
    #v[{ period := 50, onTime := 25 }, { period := 200, onTime := 100 }, { period := 25, onTime := 12 },
       { period := 100, onTime := 50 }]
  lampTest : Bool := false
  lampTimer : Timer := none
  refresh : Timer := some 250
  phase : Timer := some 1000
  /-- a PHASE frame is on wait (R74) -/
  phaseWaiting : Bool := false
deriving DecidableEq, Repr

/-! ### The Trip Matrix (chapter 6) -/

/-- R100. -/
inductive Sense where
  | onAlarm
  | onNormal
deriving DecidableEq, Repr

/-- R100. -/
inductive Policy where
  | badCounts
  | badIgnored
  | badHolds
deriving DecidableEq, Repr

/-- R100. -/
inductive DelayMode where
  | instant
  | onDelay
  | offDelay
  | pulse
deriving DecidableEq, Repr

/-- One input of an element (R100). -/
structure ElementInput where
  point : Fin 1024
  weight : Nat
  sense : Sense
deriving DecidableEq, Repr

/-- An element's definition while defined is yes (R100). -/
structure ElementDef where
  inputs : List ElementInput
  pickup : Nat
  dropout : Nat
  policy : Policy
  mode : DelayMode
  delay : Nat
  targets : List (Fin 16)
deriving DecidableEq, Repr

/-- What a busy element holds for later (R117): the pending flag's three values. -/
inductive Pending where
  | none
  | definition (d : ElementDef)
  | clear
deriving DecidableEq, Repr

/-- R101. -/
inductive ElementState where
  | idle
  | timing
  | operated
  | holding
  | spent
deriving DecidableEq, Repr

/-- One entry of the element table (R100, R101). The output follows from the state (R113) and has no field of its own. -/
structure Element where
  defn : Option ElementDef := .none
  pending : Pending := .none
  state : ElementState := .idle
  forced : Bool := false
  sum : Nat := 0
  timer : Timer := .none
  /-- each input's contribution, in input order -/
  contrib : List Bool := []
  /-- each input's held contribution, in input order -/
  held : List Bool := []
deriving DecidableEq, Repr

/-! ### The Channel Unit (chapter 7) -/

/-- R125; `running n` has `n` local ticks to come, and `running 0` is due to expire. -/
inductive Deadline where
  | stopped
  | running (ticks : Nat)
  | passed
deriving DecidableEq, Repr

/-- One entry of the output module table (R124, R125). -/
structure OutputModule where
  address : Option Nat := none
  timeout : Nat := 20
  awaitedSeq : Option Nat := none
  deadline : Deadline := .stopped
  /-- output numbers and commanded values of the last TRIP frame, in its order -/
  awaited : List (Fin 16 × Bool) := []
  stray : Nat := 0
  malformed : Nat := 0
deriving DecidableEq, Repr

/-- A channel's definition while defined is yes (R127). -/
structure ChannelDef where
  outputModule : Fin 8
  output : Fin 16
  lockout : Bool
  window : Option (Fin 192)
deriving DecidableEq, Repr

/-- R128. -/
inductive ChannelState where
  | normal
  | tripped
  | locked
deriving DecidableEq, Repr

/-- R128. -/
inductive Confirmation where
  | confirmed
  | awaiting
  | missing
deriving DecidableEq, Repr

/-- One entry of the channel table (R127, R128). The output follows from the state and has no field of its own. -/
structure Channel where
  defn : Option ChannelDef := none
  state : ChannelState := .normal
  demand : Nat := 0
  confirmation : Confirmation := .confirmed
  commanded : Bool := false
deriving DecidableEq, Repr

/-- The Channel Unit: both tables, the TRIP waiting list and refresh timer (R135), and the backup lines (R141; `true` is asserted,
the pin driven low). -/
structure ChannelUnit where
  channels : Table 16 Channel := []
  outputs : Table 8 OutputModule := []
  waiting : List (Fin 8) := []
  refresh : Timer := some 200
  bkt0 : Bool := false
  bkt1 : Bool := false
deriving DecidableEq, Repr

/-! ### The Command Unit (chapter 10) -/

/-- The operating modes (section 10.5). -/
inductive Mode where
  | configuring
  | run
  | test
deriving DecidableEq, Repr

/-- The settings record (R176). -/
structure Settings where
  gateway : Nat := 1
  chatterInterval : Nat := 1000
  highA : Nat := 6
  lowA : Nat := 3
  highB : Nat := 6
  lowB : Nat := 3
  batchLevel : Nat := 4
  batchTime : Nat := 20
  syncLimit : Nat := 60
  systemWindow : Option (Fin 192) := none
deriving DecidableEq, Repr

/-- The REPLY that waits at the port A arbiter (R172). -/
structure Reply where
  dest : Byte
  payload : List Byte
deriving DecidableEq, Repr

/-! ### The part -/

/-- The whole part, and the commands that wait to be taken, first in, first out. -/
structure State where
  /-- RESETN is held low (R186) -/
  resetLow : Bool := false
  /-- the node address as sampled (R186) -/
  node : Nat := 239
  portA : PortState := {}
  portB : PortState := {}
  /-- unknown-source count (R30) -/
  unknownSource : Nat := 0
  /-- ignored-button count (R93) -/
  ignoredButtons : Nat := 0
  /-- unknown-confirm count (R137) -/
  unknownConfirms : Nat := 0
  time : TimeBase := {}
  modules : Table 16 InputModule := []
  points : Table 1024 Point := []
  /-- the chatter decay timer (R13) -/
  decay : Timer := none
  ann : Annunciator := {}
  elements : Table 64 Element := []
  trip : ChannelUnit := {}
  events : EventQueue := {}
  mode : Mode := .configuring
  /-- the freeze latch (R184) -/
  frozen : Bool := false
  settings : Settings := {}
  /-- the REPLY that waits, at most one (R172) -/
  reply : Option Reply := none
  /-- an input, the model's own field: the TIME frames that complete reception while the next SCAN frame is begun and not finished, at
  place `i`, in order, those that are taken just before its `i`th report (R49, log entry 14) -/
  arriving : List (List TimeArrival) := []
  /-- the commands that wait (log entry 7) -/
  pending : List Instr := []
deriving DecidableEq, Repr

/-- Why the machine stops with a fault. No step of the part stops it, so there is no reason: every meaning answers a next state. -/
inductive Fault where
deriving DecidableEq, Repr

/-- Why a command has no meaning. -/
inductive Refusal where
  /-- Raised by exec for a row that has no meaning yet; safe: it stops where the part goes on. No arm of this model uses it. -/
  | notModelled (mnemonic : String)
deriving DecidableEq, Repr

/-- The node address that the straps give: 0 and 240..255 are taken as 239 (R186). -/
def State.strapAddress (ads : BitVec 8) : Nat :=
  if ads.toNat = 0 ∨ 240 ≤ ads.toNat then 239 else ads.toNat

/-- Every state of the part at its cold-reset value, with the straps as sampled (R186). The field defaults of this file's structures
are the cold-reset values, each stated by the rule its structure cites. -/
def State.coldReset (ads : BitVec 8) (rsa rsb : BitVec 2) : State :=
  { node := State.strapAddress ads, portA := { rate := rsa }, portB := { rate := rsb } }

/-- The part right after cold reset, with the straps of log entry 1. -/
def State.reset : State :=
  State.coldReset Config.resetAds Config.resetRsa Config.resetRsb

end Sys2Proof.Machine
end

