-- ==== Sys2Proof/Machine/Ops.lean ====
section
/-! DEFINITION. The named operations over the state that every block uses: one reader and one writer per table, timers, saturating
counters, and the form of a step. -/

namespace Sys2Proof.Machine

/-- Change the entry at index `i`. -/
def Table.modify {n : Nat} {α : Type} [DecidableEq α] (d : α) (t : Table n α) (i : Fin n) (f : α → α) : Table n α :=
  Table.set d t i (f (Table.get d t i))

/-! ### Table entries -/

/-- The entry of point `p` (R1, R2). -/
def State.point (s : State) (p : Fin 1024) : Point := Table.get {} s.points p

def State.setPoint (s : State) (p : Fin 1024) (v : Point) : State :=
  { s with points := Table.set {} s.points p v }

/-- The entry of module `m` (R25, R26). -/
def State.inputModule (s : State) (m : Fin 16) : InputModule := Table.get {} s.modules m

def State.setInputModule (s : State) (m : Fin 16) (v : InputModule) : State :=
  { s with modules := Table.set {} s.modules m v }

/-- The entry of window `w` (R57, R58). -/
def State.window (s : State) (w : Fin 192) : Window := Table.get {} s.ann.windows w

def State.setWindow (s : State) (w : Fin 192) (v : Window) : State :=
  { s with ann := { s.ann with windows := Table.set {} s.ann.windows w v } }

/-- The link address of driver `d` (R71). -/
def State.driver (s : State) (d : Fin 6) : Option Nat := Table.get none s.ann.drivers d

def State.setDriver (s : State) (d : Fin 6) (v : Option Nat) : State :=
  { s with ann := { s.ann with drivers := Table.set none s.ann.drivers d v } }

/-- The entry of group `g` (R81, R82). -/
def State.group (s : State) (g : Fin 32) : Group := Table.get {} s.ann.groups g

def State.setGroup (s : State) (g : Fin 32) (v : Group) : State :=
  { s with ann := { s.ann with groups := Table.set {} s.ann.groups g v } }

/-- The entry of horn `h` (R95). -/
def State.horn (s : State) (h : Fin 4) : Horn := Table.get {} s.ann.horns h

def State.setHorn (s : State) (h : Fin 4) (v : Horn) : State :=
  { s with ann := { s.ann with horns := Table.set {} s.ann.horns h v } }

/-- The entry of element `e` (R100, R101). -/
def State.element (s : State) (e : Fin 64) : Element := Table.get {} s.elements e

def State.setElement (s : State) (e : Fin 64) (v : Element) : State :=
  { s with elements := Table.set {} s.elements e v }

/-- The entry of channel `c` (R127, R128). -/
def State.channel (s : State) (c : Fin 16) : Channel := Table.get {} s.trip.channels c

def State.setChannel (s : State) (c : Fin 16) (v : Channel) : State :=
  { s with trip := { s.trip with channels := Table.set {} s.trip.channels c v } }

/-- The entry of output module `k` (R124, R125). -/
def State.outputModule (s : State) (k : Fin 8) : OutputModule := Table.get {} s.trip.outputs k

def State.setOutputModule (s : State) (k : Fin 8) (v : OutputModule) : State :=
  { s with trip := { s.trip with outputs := Table.set {} s.trip.outputs k v } }

/-! ### Ports -/

/-- The state of a link port. -/
def State.port (s : State) : Port → PortState
  | .A => s.portA
  | .B => s.portB

def State.setPort (s : State) (p : Port) (v : PortState) : State :=
  match p with
  | .A => { s with portA := v }
  | .B => { s with portB := v }

/-! ### Iterating over a table -/

/-- Apply a step for each index of a list, in order. -/
def State.each {ι : Type} (is : List ι) (f : ι → State → State) (s : State) : State :=
  is.foldl (fun t i => f i t) s

/-- The defined points, ascending. -/
def State.definedPoints (s : State) : List (Fin 1024) :=
  (Table.keys s.points).filter (fun p => (s.point p).defn.isSome)

/-- The enabled modules, ascending. -/
def State.enabledModules (s : State) : List (Fin 16) :=
  (Table.keys s.modules).filter (fun m => (s.inputModule m).defn.isSome)

/-- The defined windows, ascending. -/
def State.definedWindows (s : State) : List (Fin 192) :=
  (Table.keys s.ann.windows).filter (fun w => (s.window w).defn.isSome)

/-- The defined elements, ascending. -/
def State.definedElements (s : State) : List (Fin 64) :=
  (Table.keys s.elements).filter (fun e => (s.element e).defn.isSome)

/-- The defined channels, ascending. -/
def State.definedChannels (s : State) : List (Fin 16) :=
  (Table.keys s.trip.channels).filter (fun c => (s.channel c).defn.isSome)

/-! ### Timers and counters -/

/-- One local tick of a timer (R45). A timer whose expiry is due keeps it due. -/
def Timer.tick : Timer → Timer
  | none => none
  | some n => some (n - 1)

/-- The timer has counted its last tick and its expiry is due. -/
def Timer.due (t : Timer) : Bool := decide (t = some 0)

/-- One local tick of a confirm deadline (R125, R45). -/
def Deadline.tick : Deadline → Deadline
  | .running n => .running (n - 1)
  | d => d

/-- A counter that saturates at 65535 (section 3.1). -/
def saturate (n : Nat) : Nat := min (n + 1) 65535

/-- The greatest station time, 2^48 − 1 (section 3.2). -/
def stationMax : Nat := 2 ^ 48 - 1

/-! ### Steps -/

/-- A step of the part: taken unless RESETN is held low, while the part takes nothing (R186, log entry 5). -/
def running (s : State) (f : State → State) : Host.Outcome State Fault Refusal :=
  .next (if s.resetLow then s else f s)

end Sys2Proof.Machine
end

