-- ==== Sys2Proof/Machine/Flags.lean ====
section
/-! DEFINITION. Codes: status codes, the code bytes of every named value, and the flags byte of a record. -/

namespace Sys2Proof.Machine

/-- The status codes of a REPLY (section 3.4). -/
inductive Status where
  | ok
  | unknown
  | length
  | range
  | wrongMode
  | frozen
  | inUse
  | stillActive
  | inconsistent
  | full
  | pending
deriving DecidableEq, Repr

/-- Section 3.4. -/
def Status.code : Status → Byte
  | .ok => 0x00
  | .unknown => 0x01
  | .length => 0x02
  | .range => 0x03
  | .wrongMode => 0x04
  | .frozen => 0x05
  | .inUse => 0x06
  | .stillActive => 0x07
  | .inconsistent => 0x08
  | .full => 0x09
  | .pending => 0x0A

/-- Section 10.5. -/
def Mode.code : Mode → Nat
  | .configuring => 0
  | .run => 1
  | .test => 2

/-- R50. -/
def TimeQuality.code : TimeQuality → Nat
  | .unset => 0
  | .synced => 1
  | .free => 2

/-- R26. -/
def ModuleState.code : ModuleState → Nat
  | .unseen => 0
  | .live => 1
  | .silent => 2

/-- R2. -/
def Condition.code : Condition → Nat
  | .normal => 0
  | .alarm => 1

/-- R2. -/
def Quality.code : Quality → Nat
  | .good => 0
  | .bad => 1

/-- R1. -/
def RecClass.code : RecClass → Nat
  | .alarm => 0
  | .trip => 1

/-- R1. -/
def Polarity.code : Polarity → Nat
  | .alarmOnClosed => 0
  | .alarmOnOpen => 1

/-- R1. -/
def PointKind.code : PointKind → Nat
  | .maintained => 0
  | .momentary => 1

/-- R57. -/
def SequenceType.code : SequenceType → Nat
  | .manualReset => 0
  | .autoReset => 1

/-- R58. -/
def WindowState.code : WindowState → Nat
  | .dark => 0
  | .fast => 1
  | .steady => 2
  | .slow => 3

/-- R58; the same codes stand in the WINDOW frame (section 9.4). -/
def Shown.code : Shown → Nat
  | .off => 0
  | .on => 1
  | .fast => 2
  | .slow => 3
  | .first => 4

/-- R82. -/
def GroupState.code : GroupState → Nat
  | .armed => 0
  | .provisional => 1
  | .captured => 2

/-- R95. -/
def Sound.code : Sound → Nat
  | .continuous => 0
  | .pulsed => 1

/-- R95. -/
def HornState.code : HornState → Nat
  | .quiet => 0
  | .sounding => 1
  | .silenced => 2

/-- R100. -/
def Sense.code : Sense → Nat
  | .onAlarm => 0
  | .onNormal => 1

/-- R100. -/
def Policy.code : Policy → Nat
  | .badCounts => 0
  | .badIgnored => 1
  | .badHolds => 2

/-- R100. -/
def DelayMode.code : DelayMode → Nat
  | .instant => 0
  | .onDelay => 1
  | .offDelay => 2
  | .pulse => 3

/-- The pending flag (R100). -/
def Pending.code : Pending → Nat
  | .none => 0
  | .definition _ => 1
  | .clear => 2

/-- R101. -/
def ElementState.code : ElementState → Nat
  | .idle => 0
  | .timing => 1
  | .operated => 2
  | .holding => 3
  | .spent => 4

/-- R125. -/
def Deadline.code : Deadline → Nat
  | .stopped => 0
  | .running _ => 1
  | .passed => 2

/-- R125: 0 unless RUNNING. -/
def Deadline.remaining : Deadline → Nat
  | .running n => n
  | _ => 0

/-- R128. -/
def ChannelState.code : ChannelState → Nat
  | .normal => 0
  | .tripped => 1
  | .locked => 2

/-- R128. -/
def Confirmation.code : Confirmation → Nat
  | .confirmed => 0
  | .awaiting => 1
  | .missing => 2

/-- The kind codes of section 8.2. -/
def RecordKind.code : RecordKind → Byte
  | .pointAlarm => 0x01
  | .pointNormal => 0x02
  | .pointQuality => 0x03
  | .chatterOn => 0x04
  | .chatterOff => 0x05
  | .groupAck => 0x10
  | .groupReset => 0x11
  | .firstOut => 0x12
  | .hornSilence => 0x13
  | .elementPickup => 0x20
  | .elementOperate => 0x21
  | .elementRelease => 0x22
  | .elementDropout => 0x23
  | .channelTrip => 0x30
  | .channelLockout => 0x31
  | .channelNormal => 0x32
  | .confirmMissing => 0x33
  | .confirmRestored => 0x34
  | .moduleSilent => 0x40
  | .moduleLive => 0x41
  | .moduleGap => 0x42
  | .modeChange => 0x50
  | .timeStep => 0x51
  | .restart => 0x52
  | .queueOverflow => 0x53

/-- A channel's output is asserted in TRIPPED and LOCKED (R128). -/
def ChannelState.asserted : ChannelState → Bool
  | .normal => false
  | .tripped => true
  | .locked => true

/-- An element's output is asserted in OPERATED and HOLDING (R101, R113). -/
def ElementState.asserted : ElementState → Bool
  | .idle => false
  | .timing => false
  | .operated => true
  | .holding => true
  | .spent => false

/-- The contact state that is the alarm contact state (R1): closed for ALARM_ON_CLOSED, open for ALARM_ON_OPEN. -/
def Polarity.alarmContact : Polarity → Bool
  | .alarmOnClosed => true
  | .alarmOnOpen => false

/-- The flags byte of a record (section 9.4): quality in bits 0 and 1, ADJUSTED bit 2, APPROX bit 3, TEST bit 4. -/
def Record.flags (r : Record) : Nat :=
  r.quality.code + (if r.adjusted then 4 else 0) + (if r.approx then 8 else 0) + (if r.test then 16 else 0)

/-- The 15 bytes of a record in an EVENT frame (R146, section 9.4). -/
def Record.bytes (r : Record) : List Byte :=
  bytesOfNat 2 r.seq ++ [r.kind.code, lowByte r.flags] ++ bytesOfNat 6 r.time ++ bytesOfNat 2 r.subject ++
    [lowByte r.value] ++ bytesOfNat 2 r.extra

/-- The outside's view of a backup pin, BKT0 or BKT1: open-drain, driven low while asserted (section 7.6). -/
def State.bktDrivenLow (s : State) (k : Fin 2) : Bool :=
  if k = 0 then s.trip.bkt0 else s.trip.bkt1

/-- The bit rate a port's straps set, in kbit/s (R158). -/
def PortState.kbitPerSecond (p : PortState) : Nat := 250 * 2 ^ p.rate.toNat

end Sys2Proof.Machine
end

