-- ==== Sys2Proof/Machine/EventQueue.lean ====
section
/-! DEFINITION. The Event Queue (chapter 8): acceptance and refusal of records, the head record's wait, and the overflow record. -/

namespace Sys2Proof.Machine

/-- What an offering block supplies of a record (R146). -/
structure Offer where
  kind : RecordKind
  cls : RecClass
  time : Nat
  subject : Nat
  value : Nat := 0
  extra : Nat := 0
  adjusted : Bool := false
  approx : Bool := false
deriving DecidableEq, Repr

/-- The subject of a record without one (R146). -/
def noSubject : Nat := 0xFFFF

/-- The capacity a class may fill (R149). -/
def classLimit : RecClass → Nat
  | .alarm => 480
  | .trip => 512

/-- Start the head record's wait, less the whole ticks it has already been held; stop it while the queue is empty (R154). -/
def startBatch (s : State) : State :=
  match s.events.records with
  | [] => { s with events := { s.events with batch := none, headWaited := false } }
  | r :: _ =>
    let left := s.settings.batchTime - (s.time.ticks - r.acceptedAt)
    if left = 0 then { s with events := { s.events with batch := none, headWaited := true } }
    else { s with events := { s.events with batch := some left, headWaited := false } }

/-- The record that acceptance completes (R147): sequence number, time quality and TEST flag as they stand. -/
def completeRecord (o : Offer) (s : State) : Record :=
  { seq := s.events.nextSeq, kind := o.kind, cls := o.cls, quality := s.time.quality, adjusted := o.adjusted,
    approx := o.approx, test := decide (s.mode = .test), time := o.time, subject := o.subject, value := o.value,
    extra := o.extra, acceptedAt := s.time.ticks }

/-- Accept a record (R147): it joins the tail; into an empty queue it becomes the head, and its wait starts (R154). -/
def acceptRecord (o : Offer) (s : State) : State :=
  let t := { s with events := { s.events with records := s.events.records ++ [completeRecord o s],
                                              nextSeq := (s.events.nextSeq + 1) % 65536 } }
  if s.events.records.isEmpty then startBatch t else t

/-- Refuse a record: it is counted (R149, R150). -/
def refuseRecord (s : State) : State :=
  { s with events := { s.events with dropped := saturate s.events.dropped } }

/-- Offer a record: discarded in CONFIGURING (R157), else accepted or refused by class and held count (R149). -/
def offer (o : Offer) (s : State) : State :=
  if s.mode = .configuring then s
  else if s.events.records.length < classLimit o.cls then acceptRecord o s
  else refuseRecord s

/-- Offer a record that carries the station time as it is queued (R55). -/
def offerNow (kind : RecordKind) (cls : RecClass) (subject value extra : Nat) (s : State) : State :=
  offer { kind := kind, cls := cls, time := s.time.station, subject := subject, value := value, extra := extra } s

/-- Queue QUEUE_OVERFLOW with the dropped count, which returns to 0, when the queue has room below the alarm reservation
(R151, R157); never in CONFIGURING. -/
def queueOverflow (s : State) : State :=
  if s.mode ≠ .configuring ∧ 0 < s.events.dropped ∧ s.events.records.length < 480 then
    let t := acceptRecord { kind := .queueOverflow, cls := .trip, time := s.time.station, subject := noSubject,
                            extra := s.events.dropped } s
    { t with events := { t.events with dropped := 0 } }
  else s

/-- The queue is due (R154). -/
def queueDue (s : State) : Bool :=
  !s.events.records.isEmpty && (decide (s.settings.batchLevel ≤ s.events.records.length) || s.events.headWaited)

/-- The payload of the EVENT frame on offer: the up to 8 head records, oldest first (R155, section 9.4). -/
def eventPayload (s : State) : List Byte :=
  let rs := s.events.records.take 8
  lowByte rs.length :: rs.flatMap Record.bytes

/-- The placed records leave the queue, an overflow record is queued if the removal calls for one, and the head's wait starts
(R155 steps 3 to 5). -/
def removeEvents (s : State) : State :=
  startBatch (queueOverflow { s with events := { s.events with records := s.events.records.drop 8 } })

/-- BATCH_TIMER_EXPIRY (R154): the head record has waited long enough. -/
def batchExpiry (s : State) : State :=
  if Timer.due s.events.batch then { s with events := { s.events with batch := none, headWaited := true } } else s

/-- BATCH_TIMER_EXPIRY: taken when the batch timer's expiry is due (R154). -/
def execBatchTimerExpiry (s : State) : Host.Outcome State Fault Refusal :=
  running s batchExpiry

end Sys2Proof.Machine
end

