-- ==== Sys2Proof/Machine/Link.lean ====
section
/-! DEFINITION. The Link Unit (chapter 9): receive buffers and flow control, pause and resume, the transmitters and their arbiters,
and the handovers of REPLY, EVENT and forwarded frames. -/

namespace Sys2Proof.Machine

/-! ### Receive buffers and flow control -/

/-- The high and low marks of a port (R166, R176). -/
def State.marks (s : State) : Port → Nat × Nat
  | .A => (s.settings.highA, s.settings.lowA)
  | .B => (s.settings.highB, s.settings.lowB)

/-- Make a control byte due on a port; it replaces one that waits (R159). -/
def PortState.due (p : PortState) (c : Control) : PortState := { p with control := some c }

/-- The judgement of R166 against the marks. -/
def PortState.judge (high low : Nat) (p : PortState) : PortState :=
  if !p.pauseAsserted && decide (high ≤ p.buf.length) then { p.due .pause with pauseAsserted := true }
  else if p.pauseAsserted && decide (p.buf.length ≤ low) then { p.due .resume with pauseAsserted := false }
  else p

/-- Judge a port's flow control (R166). -/
def judgeFlow (p : Port) (s : State) : State :=
  s.setPort p ((s.port p).judge (s.marks p).1 (s.marks p).2)

/-- While pause asserted is yes, a frame that completes makes a further PAUSE due (R166). -/
def furtherPause (p : Port) (s : State) : State :=
  if (s.port p).pauseAsserted then s.setPort p ((s.port p).due .pause) else s

/-- An accepted frame takes a place (R164), and the change of the held count is judged (R166). -/
def takePlace (p : Port) (h : Held) (s : State) : State :=
  let t := furtherPause p s
  judgeFlow p (t.setPort p { t.port p with buf := (t.port p).buf ++ [h] })

/-- The first held frame that `sel` picks gives up its place (R165), and the change is judged (R166). -/
def givePlace (p : Port) (sel : Held → Bool) (s : State) : State :=
  judgeFlow p (s.setPort p { s.port p with buf := (s.port p).buf.eraseP sel })

/-- A frame of a kind that waits for its owning block. -/
def Held.owned (kind : Byte) (h : Held) : Bool := !h.forward && decide (h.frame.kind = kind)

/-- The oldest frame of a kind that its owning block has not taken: blocks take their frames in the order in which reception
completed, independently of one another (R164). -/
def State.nextOwned (s : State) (p : Port) (kind : Byte) : Option Held :=
  (s.port p).buf.find? (Held.owned kind)

/-- A frame that awaits forwarding and is not being sent. -/
def Held.awaitsForward (h : Held) : Bool := h.forward && !h.sending

/-- The first frame in the pass-through order of port `p`: received on the other port, in the order of reception (R164). -/
def State.passThrough (s : State) (p : Port) : Option Held :=
  (s.port p.other).buf.find? Held.awaitsForward

/-! ### Pause and resume (R167) -/

/-- PAUSE received: the transmitter is paused, and its self-resume timer starts or restarts with 500 ms. -/
def pauseReceived (p : Port) (s : State) : State :=
  s.setPort p { s.port p with paused := true, selfResume := some 500 }

/-- RESUME received: the transmitter is not paused and the timer stops; nothing changes while it is not paused. -/
def resumeReceived (p : Port) (s : State) : State :=
  if (s.port p).paused then s.setPort p { s.port p with paused := false, selfResume := none } else s

/-- The self-resume timer expires: the transmitter becomes not paused. -/
def selfResumeExpiry (p : Port) (s : State) : State :=
  if Timer.due (s.port p).selfResume then s.setPort p { s.port p with paused := false, selfResume := none } else s

/-- A control byte that is due is placed on the transmit line (R159). -/
def controlByteSent (p : Port) (s : State) : State :=
  match (s.port p).control with
  | some c => s.setPort p { s.port p with control := none, onLine := some c }
  | none => s

/-! ### Transmitters and arbiters (R168 to R170) -/

/-- Hand a frame to a port's transmitter; its characters are those of R159. -/
def startTx (p : Port) (f : Frame) (forwarded : Bool) (s : State) : State :=
  s.setPort p { s.port p with tx := some { frame := f, wire := f.wire, forwarded := forwarded } }

/-- A frame that the part originates on a port: node address as source, the port's transmit sequence number, its CRC (R161, R168). -/
def State.buildFrame (s : State) (p : Port) (dest kind : Byte) (payload : List Byte) : Frame :=
  mkFrame dest (lowByte s.node) kind (lowByte (s.port p).txSeq) payload

/-- Hand over a frame that the part originates: it takes the transmit sequence number, which advances by 1, from 255 to 0 (R168). -/
def originate (p : Port) (dest kind : Byte) (payload : List Byte) (s : State) : State :=
  let f := s.buildFrame p dest kind payload
  let t := startTx p f false s
  t.setPort p { t.port p with txSeq := ((t.port p).txSeq + 1) % 256 }

/-- What the port A arbiter may choose (R169). -/
inductive ChoiceA where
  | reply
  | event
  | passThrough
deriving DecidableEq, Repr

/-- What the port B arbiter may choose (R170). -/
inductive ChoiceB where
  | trip
  | phase
  | window
  | passThrough
deriving DecidableEq, Repr

/-- The port A arbiter's choice; none while the transmitter is busy or paused, or nothing waits (R168, R169). -/
def State.arbiterA (s : State) : Option ChoiceA :=
  if s.portA.tx.isSome || s.portA.paused then none
  else if s.reply.isSome then some .reply
  else if queueDue s && (s.passThrough .A).isSome then
    match s.portA.alt with
    | .passThrough => some .event
    | .own => some .passThrough
  else if queueDue s then some .event
  else if (s.passThrough .A).isSome then some .passThrough
  else none

/-- The port B arbiter's choice: TRIP even while paused; none while the transmitter is busy (R168, R170). -/
def State.arbiterB (s : State) : Option ChoiceB :=
  if s.portB.tx.isSome then none
  else if !s.trip.waiting.isEmpty then some .trip
  else if s.portB.paused then none
  else if s.ann.phaseWaiting then some .phase
  else if !s.ann.waiting.isEmpty && (s.passThrough .B).isSome then
    match s.portB.alt with
    | .passThrough => some .window
    | .own => some .passThrough
  else if !s.ann.waiting.isEmpty then some .window
  else if (s.passThrough .B).isSome then some .passThrough
  else none

/-- The arbiter of port `p` chooses the first frame in its pass-through order. -/
def State.choosesPassThrough (s : State) : Port → Bool
  | .A => decide (s.arbiterA = some .passThrough)
  | .B => decide (s.arbiterB = some .passThrough)

/-- An arbiter's alternation state takes its latest choice (R169, R170). -/
def setAlternation (p : Port) (a : Alternation) (s : State) : State :=
  s.setPort p { s.port p with alt := a }

/-- Mark the first frame that awaits forwarding as being sent. -/
def markSending : List Held → List Held
  | [] => []
  | h :: t => if h.awaitsForward then { h with sending := true } :: t else h :: markSending t

/-- The chosen forwarded frame is sent with its envelope, payload and CRC unchanged and takes no number; it keeps its place in the
other port's buffer (R165, R168). -/
def passThroughHandover (p : Port) (s : State) : State :=
  if s.choosesPassThrough p then
    match s.passThrough p with
    | some h =>
      let t := startTx p h.frame true (setAlternation p .passThrough s)
      t.setPort p.other { t.port p.other with buf := markSending (t.port p.other).buf }
    | none => s
  else s

/-- The last character of a frame is sent (R168): the transmitter is free, and a forwarded frame gives up its place (R165). -/
def transmitEnd (p : Port) (s : State) : State :=
  match (s.port p).tx with
  | some tx =>
    let t := s.setPort p { s.port p with tx := none }
    if tx.forwarded then givePlace p.other Held.sending t else t
  | none => s

/-- The waiting REPLY is handed over (R168, R169, R172). -/
def replyHandover (s : State) : State :=
  if s.arbiterA = some .reply then
    match s.reply with
    | some r => { originate .A r.dest kindReply r.payload s with reply := none }
    | none => s
  else s

/-- The EVENT frame on offer is built and handed over (R155). -/
def eventHandover (s : State) : State :=
  if s.arbiterA = some .event then
    removeEvents (setAlternation .A .own (originate .A (lowByte s.settings.gateway) kindEvent (eventPayload s) s))
  else s

/-! ### The rows of the Link Unit -/

/-- PAUSE_RECEIVED (R167). -/
def execPauseReceived (p : Port) (s : State) : Host.Outcome State Fault Refusal :=
  running s (pauseReceived p)

/-- RESUME_RECEIVED (R167). -/
def execResumeReceived (p : Port) (s : State) : Host.Outcome State Fault Refusal :=
  running s (resumeReceived p)

/-- PAUSE_SELF_RESUME_EXPIRY (R167). -/
def execPauseSelfResumeExpiry (p : Port) (s : State) : Host.Outcome State Fault Refusal :=
  running s (selfResumeExpiry p)

/-- CONTROL_BYTE_SENT (R159). -/
def execControlByteSent (p : Port) (s : State) : Host.Outcome State Fault Refusal :=
  running s (controlByteSent p)

/-- TRANSMIT_END (R168). -/
def execTransmitEnd (p : Port) (s : State) : Host.Outcome State Fault Refusal :=
  running s (transmitEnd p)

/-- PASS_THROUGH_HANDOVER (R169, R170). -/
def execPassThroughHandover (p : Port) (s : State) : Host.Outcome State Fault Refusal :=
  running s (passThroughHandover p)

/-- REPLY_HANDOVER (R169). -/
def execReplyHandover (s : State) : Host.Outcome State Fault Refusal :=
  running s replyHandover

/-- EVENT_HANDOVER (R155). -/
def execEventHandover (s : State) : Host.Outcome State Fault Refusal :=
  running s eventHandover

/-- SOF_RECEIVED (R160): the receiver is within a frame. -/
def execSofReceived (p : Port) (s : State) : Host.Outcome State Fault Refusal :=
  running s (fun s => s.setPort p { s.port p with rx := .withinFrame })

/-- FRAME_ABANDONED (R160): a length byte above 200 is counted and the receiver is between frames; an SOF is not counted and begins
the next frame. The row does not occur between frames, or on characters that abandon nothing (log entry 5). -/
def frameAbandoned (p : Port) (chars : List RxChar) (s : State) : State :=
  if (s.port p).rx = .withinFrame then
    match deframe chars with
    | some .abandonedByLength =>
      s.setPort p { s.port p with rx := .betweenFrames, lengthErrors := saturate (s.port p).lengthErrors }
    | some .abandonedBySof => s.setPort p { s.port p with rx := .withinFrame }
    | _ => s
  else s

/-- FRAME_ABANDONED (R160). -/
def execFrameAbandoned (p : Port) (chars : List RxChar) (s : State) : Host.Outcome State Fault Refusal :=
  running s (frameAbandoned p chars)

/-- RESETN_HELD_LOW (R186): any transmission is ended, both transmit lines are idle, both backup lines are released, and nothing is
taken until COLD_RESET. -/
def resetnHeldLow (s : State) : State :=
  { s with resetLow := true, portA := { s.portA with tx := none }, portB := { s.portB with tx := none },
           trip := { s.trip with bkt0 := false, bkt1 := false } }

/-- RESETN_HELD_LOW (R186). -/
def execResetnHeldLow (s : State) : Host.Outcome State Fault Refusal :=
  .next (resetnHeldLow s)

/-- COLD_RESET (R186): the straps are sampled and every state of the part takes its cold-reset value; the inputs of the
model, the commands that wait and the TIME frames that arrive, are the senders' and stay. -/
def execColdReset (ads : BitVec 8) (rsa rsb : BitVec 2) (s : State) : Host.Outcome State Fault Refusal :=
  .next { State.coldReset ads rsa rsb with arriving := s.arriving, pending := s.pending }

end Sys2Proof.Machine
end

