-- ==== Sys2Proof/Machine/Annunciation.lean ====
section
/-! DEFINITION. The Annunciation Unit (chapters 4 and 5): the window sequence, first-out, horns, displayed patterns, lamp test, and the
WINDOW and PHASE frames. -/

namespace Sys2Proof.Machine

/-! ### Displayed patterns, drivers and their waiting list (R69, R72) -/

/-- The driver of window `w`: w div 32 (section 3.3). -/
def driverOf (w : Fin 192) : Fin 6 := ⟨w.val / 32, by omega⟩

/-- The pattern that a window's state and mark call for (R69 case 4). -/
def Window.pattern (v : Window) : Shown :=
  match v.state with
  | .dark => .off
  | .fast => if v.mark then .first else .fast
  | .steady => if v.mark then .first else .on
  | .slow => .slow

/-- The displayed pattern derived for window `w` (R69). -/
def derivedPattern (s : State) (w : Fin 192) : Shown :=
  if s.ann.lampTest then .on
  else if s.mode = .configuring then .off
  else
    match (s.window w).defn with
    | none => .off
    | some _ => (s.window w).pattern

/-- A driver with a present address joins the waiting list, once (R72). -/
def joinDriver (d : Fin 6) (s : State) : State :=
  if (s.driver d).isSome ∧ d ∉ s.ann.waiting then
    { s with ann := { s.ann with waiting := s.ann.waiting ++ [d] } }
  else s

/-- Derive a window's pattern again; a change is held and puts the window's driver on the waiting list (R69, R72). -/
def redisplay (w : Fin 192) (s : State) : State :=
  if derivedPattern s w = (s.window w).shown then s
  else joinDriver (driverOf w) (s.setWindow w { s.window w with shown := derivedPattern s w })

/-- Two windows whose patterns may change at one event, in ascending number, so that their drivers join in ascending number (R72). -/
def redisplayBoth (u w : Fin 192) (s : State) : State :=
  if u < w then redisplay w (redisplay u s) else redisplay u (redisplay w s)

/-- Derive every window's pattern again as one event: the drivers of changed windows join in ascending number (R69, R72). -/
def redisplayAll (s : State) : State :=
  let changed := (List.finRange 6).filter (fun d =>
    (List.finRange 192).any (fun w => decide (driverOf w = d) && decide (derivedPattern s w ≠ (s.window w).shown)))
  let windows := Table.ofFn {} (fun w => { s.window w with shown := derivedPattern s w })
  State.each changed joinDriver { s with ann := { s.ann with windows := windows } }

/-! ### Horns (R95 to R97) -/

/-- A PHASE frame is put on wait; at most one waits (R74). -/
def phaseOnWait (s : State) : State := { s with ann := { s.ann with phaseWaiting := true } }

/-- Set a horn; a change of its state puts a PHASE frame on wait (R95). -/
def putHorn (h : Fin 4) (v : Horn) (s : State) : State :=
  if (s.horn h).state = v.state then s.setHorn h v else phaseOnWait (s.setHorn h v)

/-- A window of the horn's groups enters FAST (R95). -/
def hornEnter (h : Option (Fin 4)) (s : State) : State :=
  match h with
  | some h => putHorn h { s.horn h with state := .sounding, fastCount := (s.horn h).fastCount + 1 } s
  | none => s

/-- A window of the horn's groups leaves FAST; at count 0 the horn falls QUIET (R95). -/
def hornExit (h : Option (Fin 4)) (s : State) : State :=
  match h with
  | some h =>
    let n := (s.horn h).fastCount - 1
    putHorn h { s.horn h with state := if n = 0 then .quiet else (s.horn h).state, fastCount := n } s
  | none => s

/-- The horn of a group, where both are there. -/
def hornOfGroup (s : State) (g : Fin 32) : Option (Fin 4) :=
  match (s.group g).defn with
  | some d => d.horn
  | none => none

/-- The horn that a window hands its changes to (R68). -/
def hornOfWindow (s : State) (w : Fin 192) : Option (Fin 4) :=
  match (s.window w).defn with
  | some d => hornOfGroup s d.group
  | none => none

/-- A horn's output byte (R97). -/
def Horn.output (h : Horn) : Byte :=
  match h.state, h.sound with
  | .sounding, .continuous => 0x01
  | .sounding, .pulsed => 0x02
  | _, _ => 0x00

/-- SILENCE of a horn (R96). -/
def silenceHorn (h : Fin 4) (s : State) : State :=
  if (s.horn h).state = .sounding then
    offerNow .hornSilence .alarm h.val 0 0 (putHorn h { s.horn h with state := .silenced } s)
  else s

/-! ### First-out (R82, R85 to R90) -/

/-- Set or clear a window's first-out mark. -/
def setMark (w : Fin 192) (m : Bool) (s : State) : State := s.setWindow w { s.window w with mark := m }

/-- Clear the mark of a first-out window, where there is one. -/
def unmark (w : Option (Fin 192)) (s : State) : State :=
  match w with
  | some u => setMark u false s
  | none => s

/-- A group returns to ARMED: mark cleared, window and point absent, settle timer stopped, captured event time kept (R90). -/
def rearm (g : Fin 32) (s : State) : State :=
  let t := unmark (s.group g).foWindow s
  t.setGroup g { t.group g with state := .armed, foWindow := none, foPoint := none, settle := none }

/-- The FIRST_OUT record of a group (R89). -/
def offerFirstOut (g : Fin 32) (s : State) : State :=
  offer { kind := .firstOut, cls := .alarm, time := (s.group g).captured, subject := g.val,
          extra := match (s.group g).foPoint with
            | some p => p.val
            | none => 0xFFFF } s

/-- Record an offer as the group's first-out, moving the mark to its window (R86, R87). -/
def recordFirstOut (g : Fin 32) (w : Fin 192) (p : Fin 1024) (t : Nat) (s : State) : State :=
  let t1 := setMark w true (unmark (s.group g).foWindow s)
  t1.setGroup g { t1.group g with foWindow := some w, foPoint := some p, captured := t }

/-- A group takes an offer of window `w`, point `p` and event time `t` (R86 to R88). -/
def takeOffer (g : Fin 32) (w : Fin 192) (p : Fin 1024) (t : Nat) (s : State) : State :=
  match (s.group g).state with
  | .armed =>
    let s1 := recordFirstOut g w p t s
    match (s.group g).defn with
    | some d =>
      if d.settle = 0 then offerFirstOut g (s1.setGroup g { s1.group g with state := .captured })
      else s1.setGroup g { s1.group g with state := .provisional, settle := some d.settle }
    | none => s
  | .provisional =>
    let c := (s.group g).captured
    match (s.group g).foWindow with
    | some u => if t < c ∨ (t = c ∧ w < u) then recordFirstOut g w p t s else s
    | none => s
  | .captured => s

/-- Offer a capturing activation of window `w` to its group, when the window is eligible and the group first-out enabled (R68,
R85). -/
def offerActivation (w : Fin 192) (p : Fin 1024) (t : Nat) (s : State) : State :=
  match (s.window w).defn with
  | some d =>
    match (s.group d.group).defn with
    | some gd => if d.eligible && gd.firstOut then takeOffer d.group w p t s else s
    | none => s
  | none => s

/-- A window has reached DARK: if it is its group's first-out window, the group rearms (R68, R90). -/
def reachedDark (w : Fin 192) (s : State) : State :=
  match (s.window w).defn with
  | some d => if (s.group d.group).foWindow = some w then rearm d.group s else s
  | none => s

/-- SETTLE_EXPIRY: a PROVISIONAL group becomes CAPTURED and offers FIRST_OUT (R89). -/
def settleExpiry (g : Fin 32) (s : State) : State :=
  if Timer.due (s.group g).settle ∧ (s.group g).state = .provisional then
    offerFirstOut g (s.setGroup g { s.group g with state := .captured, settle := none })
  else s

/-! ### The window sequence (R61 to R68) -/

/-- A window's sequence runs: it is defined and the mode is RUN or TEST (R62, R63). -/
def sequenceRuns (s : State) (w : Fin 192) : Bool :=
  decide (s.mode ≠ .configuring) && (s.window w).defn.isSome

/-- A window enters FAST unless it is FAST, and hands the entry to its horn (R64, R68). -/
def enterFast (w : Fin 192) (s : State) : State :=
  if (s.window w).state = .fast then s
  else hornEnter (hornOfWindow s w) (s.setWindow w { s.window w with state := .fast })

/-- A window leaves FAST for another state, hands the exit to its horn, and rearms its group on reaching DARK (R66, R68). -/
def leaveFast (w : Fin 192) (next : WindowState) (s : State) : State :=
  let t := hornExit (hornOfWindow s w) (s.setWindow w { s.window w with state := next })
  if next = .dark then reachedDark w t else t

/-- A window that is not FAST goes DARK, and its group rearms where it was the first-out window (R65, R67, R68). -/
def goDark (w : Fin 192) (s : State) : State :=
  reachedDark w (s.setWindow w { s.window w with state := .dark })

/-- Adjust a window's active count for an activation or a clear (R61). -/
def countActivation (w : Fin 192) (s : State) : State := s.setWindow w { s.window w with count := (s.window w).count + 1 }
def countClear (w : Fin 192) (s : State) : State := s.setWindow w { s.window w with count := (s.window w).count - 1 }

/-- An activation reaches a window (R62, R64, R68): `capture` holds the point and event time of a capturing activation and is `none`
for a standing one. -/
def activate (w : Fin 192) (capture : Option (Fin 1024 × Nat)) (s : State) : State :=
  let t := countActivation w s
  if sequenceRuns t w then
    let fo := match (t.window w).defn with
      | some d => (t.group d.group).foWindow
      | none => none
    let t1 := enterFast w t
    let t2 := match capture with
      | some (p, time) => offerActivation w p time t1
      | none => t1
    redisplayBoth (fo.getD w) w t2
  else redisplay w t

/-- A clear reaches a window (R62, R65, R68). -/
def clearSource (w : Fin 192) (s : State) : State :=
  let t := countClear w s
  if sequenceRuns t w && decide ((t.window w).count = 0) && decide ((t.window w).state = .steady) then
    match (t.window w).defn with
    | some d =>
      match d.sequence with
      | .manualReset => redisplay w (t.setWindow w { t.window w with state := .slow })
      | .autoReset => redisplay w (goDark w t)
    | none => redisplay w t
  else redisplay w t

/-- Deliver an activation or a clear to a window, where one is named. -/
def activateAt (w : Option (Fin 192)) (capture : Option (Fin 1024 × Nat)) (s : State) : State :=
  match w with
  | some w => activate w capture s
  | none => s
def clearAt (w : Option (Fin 192)) (s : State) : State :=
  match w with
  | some w => clearSource w s
  | none => s

/-- The ACK of its group reaches a window (R66). -/
def ackWindow (w : Fin 192) (s : State) : State :=
  if (s.window w).state = .fast then
    match (s.window w).defn with
    | some d =>
      redisplay w (leaveFast w
        (if 0 < (s.window w).count then .steady
         else match d.sequence with
          | .manualReset => .slow
          | .autoReset => .dark) s)
    | none => s
  else s

/-- The RESET of its group reaches a window (R67). -/
def resetWindow (w : Fin 192) (s : State) : State :=
  if (s.window w).state = .slow then redisplay w (goDark w s) else s

/-- The defined windows of a group, ascending (section 5.1). -/
def windowsOf (s : State) (g : Fin 32) : List (Fin 192) :=
  s.definedWindows.filter (fun w =>
    match (s.window w).defn with
    | some d => decide (d.group = g)
    | none => false)

/-- ACK of a group with its origin, 0 panel and 1 command (R91); in CONFIGURING no window moves and no record is offered. -/
def ackGroup (g : Fin 32) (origin : Nat) (s : State) : State :=
  if s.mode = .configuring then s
  else offerNow .groupAck .alarm g.val 0 origin (State.each (windowsOf s g) ackWindow s)

/-- RESET of a group (R92). -/
def resetGroup (g : Fin 32) (s : State) : State :=
  if s.mode = .configuring then s
  else offerNow .groupReset .alarm g.val 0 0 (State.each (windowsOf s g) resetWindow s)

/-! ### Lamp test (R76) -/

/-- A lamp-test on request. -/
def lampOn (s : State) : State :=
  if s.ann.lampTest then s
  else phaseOnWait (redisplayAll { s with ann := { s.ann with lampTest := true, lampTimer := some 60000 } })

/-- Lamp test ends, with its timer stopped. -/
def lampOff (s : State) : State :=
  if s.ann.lampTest then
    phaseOnWait (redisplayAll { s with ann := { s.ann with lampTest := false, lampTimer := none } })
  else s

/-- LAMP_TEST_LIMIT_EXPIRY. -/
def lampLimitExpiry (s : State) : State :=
  if Timer.due s.ann.lampTimer then lampOff s else s

/-! ### WINDOW and PHASE frames (R72 to R75) -/

/-- The window at lamp position `i` of driver `d` (section 3.3). -/
def lampWindow (d : Fin 6) (i : Fin 32) : Fin 192 := ⟨d.val * 32 + i.val, by omega⟩

/-- A driver's image as the 16-byte WINDOW payload: even position in bits 7 to 4, odd position in bits 3 to 0 (section 9.4). -/
def imageBytes (s : State) (d : Fin 6) : List Byte :=
  (List.finRange 16).map (fun i =>
    lowByte ((s.window (lampWindow d ⟨2 * i.val, by omega⟩)).shown.code * 16 +
      (s.window (lampWindow d ⟨2 * i.val + 1, by omega⟩)).shown.code))

/-- WINDOW_REFRESH_EXPIRY: every driver with a present address joins the waiting list, and the timer restarts (R73). -/
def windowRefreshExpiry (s : State) : State :=
  if Timer.due s.ann.refresh then
    State.each (List.finRange 6) joinDriver { s with ann := { s.ann with refresh := some 250 } }
  else s

/-- PHASE_INTERVAL_EXPIRY: a PHASE frame is put on wait, and the timer restarts (R74). -/
def phaseIntervalExpiry (s : State) : State :=
  if Timer.due s.ann.phase then phaseOnWait { s with ann := { s.ann with phase := some 1000 } } else s

/-- The WINDOW frame for the driver at the head of the waiting list is built and handed over (R73). -/
def windowHandover (s : State) : State :=
  if s.arbiterB = some .window then
    match s.ann.waiting with
    | d :: rest =>
      match s.driver d with
      | some a =>
        let t := setAlternation .B .own (originate .B (lowByte a) kindWindow (imageBytes s d) s)
        { t with ann := { t.ann with waiting := rest } }
      | none => s
    | [] => s
  else s

/-- The PHASE payload: four patterns, four horn outputs, the lamp-test flag (R75, section 9.4). -/
def phasePayload (s : State) : List Byte :=
  s.ann.patterns.toList.flatMap (fun e => [lowByte e.period, lowByte e.onTime]) ++
    (List.finRange 4).map (fun h => (s.horn h).output) ++ [boolByte s.ann.lampTest]

/-- The PHASE frame is built and handed over, and none waits until the next event (R74). -/
def phaseHandover (s : State) : State :=
  if s.arbiterB = some .phase then
    let t := originate .B broadcast kindPhase (phasePayload s) s
    { t with ann := { t.ann with phaseWaiting := false } }
  else s

/-! ### Whole-unit changes (R77, R79, R80, R98, R99) -/

/-- Every horn becomes QUIET with FAST count 0 (R98, R99). -/
def quietHorns (s : State) : State :=
  State.each (List.finRange 4) (fun h s => putHorn h { s.horn h with state := .quiet, fastCount := 0 } s) s

/-- Every group returns to ARMED (R90). -/
def rearmAll (s : State) : State :=
  State.each (Table.keys s.ann.groups) rearm s

/-- Lamp test ends without deriving the patterns, for an event that derives them all itself; its end puts a PHASE frame on wait
(R74, R76). -/
def lampEnds (s : State) : State :=
  if s.ann.lampTest then phaseOnWait { s with ann := { s.ann with lampTest := false, lampTimer := none } } else s

/-- Set every listed window's sequence state and clear its mark. -/
def setWindowStates (f : Window → WindowState) (s : State) : State :=
  { s with ann := { s.ann with
      windows := Table.ofFn {} (fun w => { s.window w with state := f (s.window w), mark := false }) } }

/-- The Annunciation Unit's entry into CONFIGURING (R77, R98); the mode is CONFIGURING already (R183). A PHASE frame is put on wait
only where a horn changed or a lamp test ended (log entry 13, DEDUCED). -/
def annEnterConfiguring (s : State) : State :=
  redisplayAll (lampEnds (quietHorns (rearmAll (setWindowStates (fun _ => .dark) s))))

/-- The Annunciation Unit's entry into RUN from CONFIGURING (R79): each entry into FAST is handed to its horn. -/
def annEnterRun (s : State) : State :=
  redisplayAll (State.each s.definedWindows (fun w s => if 0 < (s.window w).count then enterFast w s else s) s)

/-- The Annunciation Unit's part of an annunciation restart (R80 steps 2 to 4). -/
def annRestart (s : State) : State :=
  phaseOnWait (redisplayAll (lampEnds (quietHorns (rearmAll
    (setWindowStates (fun v => if v.defn.isSome ∧ 0 < v.count then .steady else .dark) s)))))

/-! ### Buttons (R93) -/

/-- What a BUTTON frame's payload asks for (R93). -/
inductive ButtonAct where
  | ack (g : Fin 32)
  | reset (g : Fin 32)
  | silence (h : Fin 4)
  | testOn
  | testOff
  | ignored
deriving DecidableEq, Repr

/-- A defined group by its number, or none. -/
def State.definedGroup (s : State) (target : Byte) : Option (Fin 32) :=
  if h : target.toNat < 32 then
    if (s.group ⟨target.toNat, h⟩).defn.isSome then some ⟨target.toNat, h⟩ else none
  else none

/-- A horn by its number, or none. -/
def hornNumber (target : Byte) : Option (Fin 4) :=
  if h : target.toNat < 4 then some ⟨target.toNat, h⟩ else none

/-- Read a BUTTON payload (R93). -/
def buttonAct (s : State) (payload : List Byte) : ButtonAct :=
  match payload with
  | [kind, target] =>
    if kind = 0x01 then
      match s.definedGroup target with
      | some g => .ack g
      | none => .ignored
    else if kind = 0x02 then
      match s.definedGroup target with
      | some g => .reset g
      | none => .ignored
    else if kind = 0x03 then
      match hornNumber target with
      | some h => .silence h
      | none => .ignored
    else if kind = 0x04 then .testOn
    else if kind = 0x05 then .testOff
    else .ignored
  | _ => .ignored

/-- What the next BUTTON frame in the port B receive buffer asks for. -/
def State.nextButton (s : State) : Option ButtonAct :=
  match s.nextOwned .B kindButton with
  | some h => some (buttonAct s h.frame.payload)
  | none => none

/-- Take the next BUTTON frame whole: act on it, and it gives up its place (R93, R165). -/
def takeButton (act : State → State) (s : State) : State :=
  givePlace .B (Held.owned kindButton) (act s)

/-- An ignored BUTTON frame is counted (R93). -/
def countIgnoredButton (s : State) : State := { s with ignoredButtons := saturate s.ignoredButtons }

/-- BUTTON_ACK: the next BUTTON frame is an ACK of a defined group. -/
def buttonAck (s : State) : State :=
  match s.nextButton with
  | some (.ack g) => takeButton (ackGroup g 0) s
  | _ => s

/-- BUTTON_RESET: the next BUTTON frame is a RESET of a defined group. -/
def buttonReset (s : State) : State :=
  match s.nextButton with
  | some (.reset g) => takeButton (resetGroup g) s
  | _ => s

/-- BUTTON_SILENCE: the next BUTTON frame silences a horn. -/
def buttonSilence (s : State) : State :=
  match s.nextButton with
  | some (.silence h) => takeButton (silenceHorn h) s
  | _ => s

/-- BUTTON_TEST_ON: the next BUTTON frame requests lamp test on. -/
def buttonTestOn (s : State) : State :=
  match s.nextButton with
  | some .testOn => takeButton lampOn s
  | _ => s

/-- BUTTON_TEST_OFF: the next BUTTON frame requests lamp test off. -/
def buttonTestOff (s : State) : State :=
  match s.nextButton with
  | some .testOff => takeButton lampOff s
  | _ => s

/-- BUTTON_IGNORED: the next BUTTON frame is ignored and counted. -/
def buttonIgnored (s : State) : State :=
  match s.nextButton with
  | some .ignored => takeButton countIgnoredButton s
  | _ => s

/-! ### The rows of the Annunciation Unit -/

/-- PHASE_HANDOVER (R74). -/
def execPhaseHandover (s : State) : Host.Outcome State Fault Refusal :=
  running s phaseHandover

/-- WINDOW_HANDOVER (R73). -/
def execWindowHandover (s : State) : Host.Outcome State Fault Refusal :=
  running s windowHandover

/-- SETTLE_EXPIRY (R89). -/
def execSettleExpiry (g : Fin 32) (s : State) : Host.Outcome State Fault Refusal :=
  running s (settleExpiry g)

/-- WINDOW_REFRESH_EXPIRY (R73). -/
def execWindowRefreshExpiry (s : State) : Host.Outcome State Fault Refusal :=
  running s windowRefreshExpiry

/-- PHASE_INTERVAL_EXPIRY (R74). -/
def execPhaseIntervalExpiry (s : State) : Host.Outcome State Fault Refusal :=
  running s phaseIntervalExpiry

/-- LAMP_TEST_LIMIT_EXPIRY (R76). -/
def execLampTestLimitExpiry (s : State) : Host.Outcome State Fault Refusal :=
  running s lampLimitExpiry

/-- BUTTON_ACK (R93). -/
def execButtonAck (s : State) : Host.Outcome State Fault Refusal :=
  running s buttonAck

/-- BUTTON_RESET (R93). -/
def execButtonReset (s : State) : Host.Outcome State Fault Refusal :=
  running s buttonReset

/-- BUTTON_SILENCE (R93). -/
def execButtonSilence (s : State) : Host.Outcome State Fault Refusal :=
  running s buttonSilence

/-- BUTTON_TEST_ON (R93). -/
def execButtonTestOn (s : State) : Host.Outcome State Fault Refusal :=
  running s buttonTestOn

/-- BUTTON_TEST_OFF (R93). -/
def execButtonTestOff (s : State) : Host.Outcome State Fault Refusal :=
  running s buttonTestOff

/-- BUTTON_IGNORED (R93). -/
def execButtonIgnored (s : State) : Host.Outcome State Fault Refusal :=
  running s buttonIgnored

end Sys2Proof.Machine
end

