-- ==== Sys2Proof/Machine/Channels.lean ====
section
/-! DEFINITION. The Channel Unit (chapter 7): demand and channel states, TRIP frames, output confirmation and the backup lines. -/

namespace Sys2Proof.Machine

/-! ### Hosted channels and the TRIP waiting list (R135) -/

/-- The defined channel that is output `o` of module `k`, where there is one. -/
def channelAt (s : State) (k : Fin 8) (o : Fin 16) : Option (Fin 16) :=
  s.definedChannels.find? (fun c =>
    match (s.channel c).defn with
    | some d => decide (d.outputModule = k ∧ d.output = o)
    | none => false)

/-- The defined channels that name module `k`. -/
def hostedBy (s : State) (k : Fin 8) : List (Fin 16) :=
  s.definedChannels.filter (fun c =>
    match (s.channel c).defn with
    | some d => decide (d.outputModule = k)
    | none => false)

/-- A module joins the TRIP waiting list, once, provided its address is present and it hosts a defined channel (R135). -/
def joinTrip (k : Fin 8) (s : State) : State :=
  if (s.outputModule k).address.isSome ∧ hostedBy s k ≠ [] ∧ k ∉ s.trip.waiting then
    { s with trip := { s.trip with waiting := s.trip.waiting ++ [k] } }
  else s

/-- A module is taken off the TRIP waiting list (R126, R130). -/
def leaveTrip (k : Fin 8) (s : State) : State :=
  { s with trip := { s.trip with waiting := s.trip.waiting.filter (fun j => decide (j ≠ k)) } }

/-- Every module that qualifies joins the waiting list, ascending (R135, R142, R143). -/
def joinTripAll (s : State) : State := State.each (List.finRange 8) joinTrip s

/-- TRIP_REFRESH_EXPIRY: the qualifying modules join, and the timer restarts (R135). -/
def tripRefreshExpiry (s : State) : State :=
  if Timer.due s.trip.refresh then joinTripAll { s with trip := { s.trip with refresh := some 200 } } else s

/-! ### Backup lines (R141) -/

/-- The half of the hall a channel belongs to (section 3.3). -/
def halfOf (c : Fin 16) : Fin 2 := ⟨c.val / 8, by omega⟩

/-- The condition of backup line `k`: RUN, and a channel of the half is asserted and MISSING (R141). -/
def lineCondition (s : State) (k : Fin 2) : Bool :=
  decide (s.mode = .run) &&
    (Table.keys s.trip.channels).any (fun c =>
      decide (halfOf c = k) && (s.channel c).state.asserted && decide ((s.channel c).confirmation = .missing))

/-- Judge a backup line again (R141). -/
def judgeLine (k : Fin 2) (s : State) : State :=
  if k = 0 then { s with trip := { s.trip with bkt0 := lineCondition s 0 } }
  else { s with trip := { s.trip with bkt1 := lineCondition s 1 } }

/-- Judge both backup lines again, as a change of operating mode does (R141). -/
def judgeLines (s : State) : State := judgeLine 1 (judgeLine 0 s)

/-! ### Confirmation (R138 to R140) -/

/-- A channel record (R134). -/
def channelRecord (kind : RecordKind) (c : Fin 16) (s : State) : State := offerNow kind .trip c.val 0 0 s

/-- A channel's confirmation becomes MISSING: CONFIRM_MISSING, an activation of the system window, and its line is judged (R134,
R140, R141). A channel already MISSING stays as it is. -/
def becomeMissing (c : Fin 16) (s : State) : State :=
  if (s.channel c).confirmation = .missing then s
  else
    let t := channelRecord .confirmMissing c (s.setChannel c { s.channel c with confirmation := .missing })
    judgeLine (halfOf c) (activateAt t.settings.systemWindow none t)

/-- A channel's confirmation becomes CONFIRMED. One that was MISSING clears the system window and has its line judged, with
CONFIRM_RESTORED where a matching CONFIRM is the cause (R134, R140, R141). -/
def becomeConfirmed (byMatch : Bool) (c : Fin 16) (s : State) : State :=
  let t := s.setChannel c { s.channel c with confirmation := .confirmed }
  if (s.channel c).confirmation = .missing then
    let t1 := if byMatch then channelRecord .confirmRestored c t else t
    judgeLine (halfOf c) (clearAt t1.settings.systemWindow t1)
  else t

/-! ### Demand and channel states (R131, R132) -/

/-- What a change of a channel's output brings: its module joins the TRIP list, its window takes an activation or a clear, and its
line is judged (R132). -/
def outputChanged (c : Fin 16) (asserted : Bool) (s : State) : State :=
  match (s.channel c).defn with
  | some d =>
    let t := joinTrip d.outputModule s
    judgeLine (halfOf c) (if asserted then activateAt d.window none t else clearAt d.window t)
  | none => s

/-- Gain of demand (R132). -/
def gainDemand (c : Fin 16) (s : State) : State :=
  match (s.channel c).state with
  | .normal =>
    outputChanged c true (channelRecord .channelTrip c (s.setChannel c { s.channel c with state := .tripped }))
  | .tripped => s
  | .locked => channelRecord .channelTrip c (s.setChannel c { s.channel c with state := .tripped })

/-- Loss of demand (R132). -/
def loseDemand (c : Fin 16) (s : State) : State :=
  match (s.channel c).state, (s.channel c).defn with
  | .tripped, some d =>
    if d.lockout then channelRecord .channelLockout c (s.setChannel c { s.channel c with state := .locked })
    else outputChanged c false (channelRecord .channelNormal c (s.setChannel c { s.channel c with state := .normal }))
  | _, _ => s

/-- How the Channel Unit takes a delivery: with R132, or within the exit from TEST to RUN, where only the count follows (R131). -/
inductive Taking where
  | moves
  | countsOnly
deriving DecidableEq, Repr

/-- A change of an element's output reaches a target channel (R131). -/
def deliverDemand (taking : Taking) (asserted : Bool) (c : Fin 16) (s : State) : State :=
  let n := (s.channel c).demand
  let t := s.setChannel c { s.channel c with demand := if asserted then n + 1 else n - 1 }
  if taking = .countsOnly ∨ (t.channel c).defn = none then t
  else if asserted ∧ n = 0 then gainDemand c t
  else if ¬ asserted ∧ n = 1 then loseDemand c t
  else t

/-! ### TRIP frames (R136) -/

/-- The output numbers and values that a module's TRIP frame carries: each defined channel it hosts, in ascending output number. -/
def tripPairs (s : State) (k : Fin 8) : List (Fin 16 × Bool) :=
  (List.finRange 16).filterMap (fun o =>
    match channelAt s k o with
    | some c => some (o, (s.channel c).state.asserted)
    | none => none)

/-- The TRIP payload: flags with TEST in bit 0, the count, and the pairs (section 9.4). -/
def tripPayload (s : State) (k : Fin 8) : List Byte :=
  let ps := tripPairs s k
  [boolByte (decide (s.mode = .test)), lowByte ps.length] ++ ps.flatMap (fun p => [lowByte p.1.val, boolByte p.2])

/-- The confirm deadline at a hand-over: started if STOPPED, otherwise as it stands (R136 step 3). -/
def Deadline.atHandover (timeout : Nat) : Deadline → Deadline
  | .stopped => .running timeout
  | .running n => .running n
  | .passed => .passed

/-- One listed channel at a hand-over: commanded takes the value sent, and a CONFIRMED one becomes AWAITING, or MISSING where the
deadline is PASSED (R136 steps 1 and 4). -/
def commandChannel (passed : Bool) (c : Fin 16) (v : Bool) (s : State) : State :=
  let t := s.setChannel c { s.channel c with commanded := v }
  if passed then becomeMissing c t
  else if (t.channel c).confirmation = .confirmed then
    t.setChannel c { t.channel c with confirmation := .awaiting }
  else t

/-- Record the frame handed to module `k` for confirmation (R136). -/
def recordCommand (k : Fin 8) (seq : Nat) (pairs : List (Fin 16 × Bool)) (s : State) : State :=
  let m := s.outputModule k
  let dl := m.deadline.atHandover m.timeout
  let t := s.setOutputModule k { m with awaitedSeq := some seq, awaited := pairs, deadline := dl }
  State.each pairs (fun p s =>
    match channelAt s k p.1 with
    | some c => commandChannel (decide (dl = .passed)) c p.2 s
    | none => s) t

/-- The TRIP frame for the head of the waiting list is built, handed over and recorded for confirmation (R136). -/
def tripHandover (s : State) : State :=
  if s.arbiterB = some .trip then
    match s.trip.waiting with
    | k :: rest =>
      match (s.outputModule k).address with
      | some a =>
        let pairs := tripPairs s k
        let seq := s.portB.txSeq
        let t := originate .B (lowByte a) kindTrip (tripPayload s k) s
        recordCommand k seq pairs { t with trip := { t.trip with waiting := rest } }
      | none => s
    | [] => s
  else s

/-! ### CONFIRM frames (R137, R138) and the deadline (R139) -/

/-- The pairs of a CONFIRM payload, after its two leading bytes. -/
def confirmPairs : List Byte → List (Byte × Byte)
  | o :: v :: t => (o, v) :: confirmPairs t
  | _ => []

/-- A well-formed CONFIRM payload: its echoed sequence and its pairs; none for a malformed one (R137). -/
def parseConfirm (payload : List Byte) : Option (Nat × List (Byte × Byte)) :=
  match payload with
  | seq :: count :: rest =>
    if rest.length = 2 * count.toNat ∧ count.toNat ≤ 16 ∧ (confirmPairs rest).all (fun p => p.2 == 0x00 || p.2 == 0x01)
    then some (seq.toNat, confirmPairs rest) else none
  | _ => none

/-- The state that a CONFIRM reports for output `o`: the last pair that names it (R138). -/
def reported (pairs : List (Byte × Byte)) (o : Fin 16) : Option Bool :=
  match pairs.reverse.find? (fun p => decide (p.1.toNat = o.val)) with
  | some p => some (p.2 == 0x01)
  | none => none

/-- Judge one channel of the awaited list by a matching CONFIRM (R138). -/
def judgeConfirm (k : Fin 8) (pairs : List (Byte × Byte)) (p : Fin 16 × Bool) (s : State) : State :=
  match channelAt s k p.1 with
  | some c => if reported pairs p.1 = some p.2 then becomeConfirmed true c s else becomeMissing c s
  | none => s

/-- A well-formed CONFIRM from module `k` (R138). -/
def matchConfirm (k : Fin 8) (seq : Nat) (pairs : List (Byte × Byte)) (s : State) : State :=
  let m := s.outputModule k
  if m.awaitedSeq = some seq then
    State.each m.awaited (judgeConfirm k pairs)
      (s.setOutputModule k { m with awaitedSeq := none, awaited := [], deadline := .stopped })
  else s.setOutputModule k { m with stray := saturate m.stray }

/-- The present output module with a link address (R137). -/
def outputModuleAt (s : State) (src : Byte) : Option (Fin 8) :=
  (List.finRange 8).find? (fun k => decide ((s.outputModule k).address = some src.toNat))

/-- A CONFIRM whose source is no present module, or that arrives on port A, is counted (R137). -/
def countUnknownConfirm (s : State) : State := { s with unknownConfirms := saturate s.unknownConfirms }

/-- What a CONFIRM frame does (R137, R138). -/
def handleConfirm (f : Frame) (s : State) : State :=
  match outputModuleAt s f.src with
  | none => countUnknownConfirm s
  | some k =>
    match parseConfirm f.payload with
    | none => s.setOutputModule k { s.outputModule k with malformed := saturate (s.outputModule k).malformed }
    | some (seq, pairs) => matchConfirm k seq pairs s

/-- CONFIRM_FRAME: take the next CONFIRM frame of the port B receive buffer (R137, R165). -/
def confirmFrame (s : State) : State :=
  match s.nextOwned .B kindConfirm with
  | some h => givePlace .B (Held.owned kindConfirm) (handleConfirm h.frame s)
  | none => s

/-- One channel of the awaited list at the expiry of its module's deadline (R139). -/
def expireChannel (k : Fin 8) (p : Fin 16 × Bool) (s : State) : State :=
  match channelAt s k p.1 with
  | some c => if (s.channel c).confirmation = .awaiting then becomeMissing c s else s
  | none => s

/-- CONFIRM_DEADLINE_EXPIRY (R139). -/
def deadlineExpiry (k : Fin 8) (s : State) : State :=
  if (s.outputModule k).deadline = .running 0 then
    State.each (s.outputModule k).awaited (expireChannel k)
      (s.setOutputModule k { s.outputModule k with deadline := .passed })
  else s

/-! ### Leaving TEST (R143) -/

/-- One channel at the exit from TEST to RUN (R143 steps 1 to 3). -/
def exitChannel (c : Fin 16) (s : State) : State :=
  let before := (s.channel c).state.asserted
  let t := if 0 < (s.channel c).demand
    then channelRecord .channelTrip c (s.setChannel c { s.channel c with state := .tripped })
    else s.setChannel c { s.channel c with state := .normal }
  let after := (t.channel c).state.asserted
  match (t.channel c).defn with
  | some d =>
    if before = after then t
    else if after then activateAt d.window none t else clearAt d.window t
  | none => t

/-- The Channel Unit's exit from TEST to RUN (R143). -/
def exitTest (s : State) : State :=
  judgeLines (joinTripAll (State.each s.definedChannels exitChannel s))

/-- Some channel output is asserted (R179). -/
def anyAsserted (s : State) : Bool :=
  (Table.keys s.trip.channels).any (fun c => (s.channel c).state.asserted)

/-! ### The rows of the Channel Unit -/

/-- TRIP_HANDOVER (R136). -/
def execTripHandover (s : State) : Host.Outcome State Fault Refusal :=
  running s tripHandover

/-- CONFIRM_FRAME (R137). -/
def execConfirmFrame (s : State) : Host.Outcome State Fault Refusal :=
  running s confirmFrame

/-- CONFIRM_DEADLINE_EXPIRY (R139). -/
def execConfirmDeadlineExpiry (k : Fin 8) (s : State) : Host.Outcome State Fault Refusal :=
  running s (deadlineExpiry k)

/-- TRIP_REFRESH_EXPIRY (R135). -/
def execTripRefreshExpiry (s : State) : Host.Outcome State Fault Refusal :=
  running s tripRefreshExpiry

end Sys2Proof.Machine
end

