-- ==== Sys2Proof/Machine/Elements.lean ====
section
/-! DEFINITION. The Trip Matrix (chapter 6): contributions and the vote, the delay modes, output deliveries, and the installation of
definitions. -/

namespace Sys2Proof.Machine

/-! ### Contributions and the vote (R102 to R104) -/

/-- The condition that a sense looks for (R102). -/
def Sense.condition : Sense → Condition
  | .onAlarm => .alarm
  | .onNormal => .normal

/-- Whether an input is active, from its point, the quality policy and its held contribution (R102). -/
def contribution (policy : Policy) (i : ElementInput) (v : Point) (held : Bool) : Bool :=
  match v.quality with
  | .good => decide (v.condition = i.sense.condition)
  | .bad =>
    match policy with
    | .badCounts => true
    | .badIgnored => false
    | .badHolds => held

/-- An input's contribution and held contribution, computed anew: a GOOD point's contribution is held (R103). -/
def computeInput (policy : Policy) (i : ElementInput) (v : Point) (held : Bool) : Bool × Bool :=
  let c := contribution policy i v held
  (c, if v.quality = .good then c else held)

/-- The total of the weights of the active inputs (R104). -/
def voteSum (inputs : List ElementInput) (contrib : List Bool) : Nat :=
  ((inputs.zip contrib).map (fun x => if x.2 then x.1.weight else 0)).sum

/-- An element's inputs with their contributions and held contributions, in input order. -/
def Element.inputStates (d : ElementDef) (el : Element) : List (ElementInput × Bool × Bool) :=
  d.inputs.zip (el.contrib.zip el.held)

/-- Put contributions into an element, with the sum that follows from them. -/
def Element.withInputs (d : ElementDef) (xs : List (Bool × Bool)) (el : Element) : Element :=
  { el with contrib := xs.map (fun x => x.1), held := xs.map (fun x => x.2),
            sum := voteSum d.inputs (xs.map (fun x => x.1)) }

/-- Recompute the inputs on point `p` and the sum (R105 steps 1 and 2). -/
def Element.refresh (d : ElementDef) (p : Fin 1024) (v : Point) (el : Element) : Element :=
  el.withInputs d ((el.inputStates d).map (fun x =>
    if x.1.point = p then computeInput d.policy x.1 v x.2.2 else x.2))

/-- The picked test (R104). -/
def Element.picked (d : ElementDef) (el : Element) : Bool := decide (d.pickup ≤ el.sum) || el.forced

/-- The dropped test (R104). -/
def Element.dropped (d : ElementDef) (el : Element) : Bool := decide (el.sum ≤ d.dropout) && !el.forced

/-! ### The delay modes (R107 to R112) -/

/-- A move of an element: its next state, the delay timer after it, and the records it offers, in order. -/
structure Move where
  state : ElementState
  timer : Timer
  records : List RecordKind
deriving DecidableEq, Repr

/-- The Picked columns of R107 to R110, with the delay count `n`. -/
def pickedMove (mode : DelayMode) (n : Nat) (st : ElementState) : Option Move :=
  match mode, st with
  | .instant, .idle => some { state := .operated, timer := none, records := [.elementPickup, .elementOperate] }
  | .onDelay, .idle =>
    if 0 < n then some { state := .timing, timer := some n, records := [.elementPickup] }
    else some { state := .operated, timer := none, records := [.elementPickup, .elementOperate] }
  | .offDelay, .idle => some { state := .operated, timer := none, records := [.elementPickup, .elementOperate] }
  | .offDelay, .holding => some { state := .operated, timer := none, records := [] }
  | .pulse, .idle => some { state := .operated, timer := some n, records := [.elementPickup, .elementOperate] }
  | _, _ => none

/-- The Dropped columns of R107 to R110, with the delay count `n`. -/
def droppedMove (mode : DelayMode) (n : Nat) (st : ElementState) : Option Move :=
  match mode, st with
  | .instant, .operated => some { state := .idle, timer := none, records := [.elementRelease] }
  | .onDelay, .timing => some { state := .idle, timer := none, records := [.elementDropout] }
  | .onDelay, .operated => some { state := .idle, timer := none, records := [.elementRelease] }
  | .offDelay, .operated =>
    if 0 < n then some { state := .holding, timer := some n, records := [] }
    else some { state := .idle, timer := none, records := [.elementRelease] }
  | .pulse, .spent => some { state := .idle, timer := none, records := [] }
  | _, _ => none

/-- The Expiry columns of R108 to R110; a PULSE element goes IDLE when `rest` holds: dropped, or something pending (R110). -/
def expiryMove (mode : DelayMode) (rest : Bool) (st : ElementState) : Option Move :=
  match mode, st with
  | .onDelay, .timing => some { state := .operated, timer := none, records := [.elementOperate] }
  | .offDelay, .holding => some { state := .idle, timer := none, records := [.elementRelease] }
  | .pulse, .operated =>
    some { state := if rest then .idle else .spent, timer := none, records := [.elementRelease] }
  | _, _ => none

/-- The move that an evaluation makes, by the test that holds (R106). -/
def Element.nextMove (d : ElementDef) (el : Element) : Option Move :=
  if el.picked d then pickedMove d.mode d.delay el.state
  else if el.dropped d then droppedMove d.mode d.delay el.state
  else none

/-! ### Moves, output and records (R111, R113, R114) -/

/-- Make a move: the state and timer, then the records with the sum as value, then a change of output to each target in list order
(R111, R113, R114). -/
def performMove (taking : Taking) (e : Fin 64) (d : ElementDef) (mv : Move) (s : State) : State :=
  let el := s.element e
  let t := State.each mv.records (fun k s => offerNow k .trip e.val el.sum 0 s)
    (s.setElement e { el with state := mv.state, timer := mv.timer })
  if el.state.asserted = mv.state.asserted then t
  else State.each d.targets (deliverDemand taking mv.state.asserted) t

/-! ### Installation (R103, R116, R118) -/

/-- The held contribution that an input of a new definition starts from: that of an equal input of the definition it replaces, or
inactive; a GOOD point's is then computed (R103). -/
def inheritedHeld (old : Option ElementDef) (el : Element) (i : ElementInput) : Bool :=
  match old with
  | some d =>
    match (el.inputStates d).find? (fun x => decide (x.1.point = i.point ∧ x.1.sense = i.sense)) with
    | some x => x.2.2
    | none => false
  | none => false

/-- Install a definition as the active one and recompute the sum; nothing is pending after it (R103, R116, R118). -/
def installDefinition (e : Fin 64) (d : ElementDef) (s : State) : State :=
  let el := s.element e
  let xs := d.inputs.map (fun i => computeInput d.policy i (s.point i.point) (inheritedHeld el.defn el i))
  s.setElement e ({ el with defn := some d, pending := .none }.withInputs d xs)

/-- Make an element undefined, its dynamic fields at the initial values of R101 (R116, R118). -/
def undefineElement (e : Fin 64) (s : State) : State := s.setElement e {}

/-! ### Evaluation (R105, R106) -/

/-- One move of an element by its tests, with no installation after it. -/
def evaluateOnce (taking : Taking) (e : Fin 64) (s : State) : State :=
  match (s.element e).defn with
  | some d =>
    match (s.element e).nextMove d with
    | some mv => performMove taking e d mv s
    | none => s
  | none => s

/-- After a move that reached IDLE: what is pending is installed, and a definition is evaluated at once (R118). -/
def installPending (taking : Taking) (e : Fin 64) (s : State) : State :=
  match (s.element e).pending with
  | .none => s
  | .definition d => evaluateOnce taking e (installDefinition e d s)
  | .clear => undefineElement e s

/-- Make a move, and install what is pending where it reached IDLE (R106, R118). -/
def moveAndInstall (taking : Taking) (e : Fin 64) (d : ElementDef) (mv : Move) (s : State) : State :=
  let t := performMove taking e d mv s
  if mv.state = .idle then installPending taking e t else t

/-- Evaluate an element (R106). -/
def evaluateElement (taking : Taking) (e : Fin 64) (s : State) : State :=
  match (s.element e).defn with
  | some d =>
    match (s.element e).nextMove d with
    | some mv => moveAndInstall taking e d mv s
    | none => s
  | none => s

/-- A definition lists a point. -/
def ElementDef.lists (d : ElementDef) (p : Fin 1024) : Bool := d.inputs.any (fun i => decide (i.point = p))

/-- One element takes a delivery of point `p`: inputs, sum, and in RUN and TEST an evaluation (R105). -/
def elementTakes (p : Fin 1024) (e : Fin 64) (s : State) : State :=
  match (s.element e).defn with
  | some d =>
    if d.lists p then
      let t := s.setElement e ((s.element e).refresh d p (s.point p))
      if t.mode = .configuring then t else evaluateElement .moves e t
    else s
  | none => s

/-- The Trip Matrix takes a condition or quality change of point `p`, in ascending element number (R105). -/
def tripDeliver (p : Fin 1024) (s : State) : State :=
  State.each s.definedElements (elementTakes p) s

/-- ELEMENT_DELAY_EXPIRY: the delay timer stops, and the element moves by the Expiry column (R106, R108 to R110, R112). -/
def elementDelayExpiry (e : Fin 64) (s : State) : State :=
  if Timer.due (s.element e).timer then
    let t := s.setElement e { s.element e with timer := none }
    match (t.element e).defn with
    | some d =>
      match expiryMove d.mode ((t.element e).dropped d || decide ((t.element e).pending ≠ .none)) (t.element e).state with
      | some mv => moveAndInstall .moves e d mv t
      | none => t
    | none => t
  else s

/-! ### Writing, clearing and forcing (R116, R117, R119) -/

/-- The element is in the middle of a protective action (R117). -/
def ElementState.busy : ElementState → Bool
  | .idle => false
  | .timing => true
  | .operated => true
  | .holding => true
  | .spent => false

/-- An accepted write takes effect: stored while the element is busy, else installed, with an evaluation in RUN and TEST (R116,
R117). -/
def applyElementWrite (e : Fin 64) (d : ElementDef) (s : State) : State :=
  if (s.element e).state.busy then s.setElement e { s.element e with pending := .definition d }
  else
    let t := installDefinition e d (s.setElement e { s.element e with state := .idle })
    if t.mode = .configuring then t else evaluateElement .moves e t

/-- An accepted clear takes effect: stored while the element is busy, else the element becomes undefined (R116, R117). -/
def applyElementClear (e : Fin 64) (s : State) : State :=
  if (s.element e).state.busy then s.setElement e { s.element e with pending := .clear }
  else undefineElement e s

/-- Set or clear the forced flag; a change is evaluated at once (R119). -/
def forceElement (taking : Taking) (on : Bool) (e : Fin 64) (s : State) : State :=
  if (s.element e).forced = on then s
  else evaluateElement taking e (s.setElement e { s.element e with forced := on })

/-! ### Across modes (R120 to R122) -/

/-- One element at entry into CONFIGURING (R121). -/
def elementToConfiguring (e : Fin 64) (s : State) : State :=
  let el := s.element e
  let at_rest := decide (el.state = .timing) || decide (el.state = .spent)
  let t := s.setElement e { el with state := if at_rest then .idle else el.state, timer := none, forced := false }
  match el.pending with
  | .none => t
  | .definition d => installDefinition e d t
  | .clear => undefineElement e t

/-- The Trip Matrix's entry into CONFIGURING (R121). -/
def elementsToConfiguring (s : State) : State := State.each (Table.keys s.elements) elementToConfiguring s

/-- The Trip Matrix's entry into RUN from CONFIGURING (R122). -/
def elementsToRun (s : State) : State := State.each s.definedElements (evaluateElement .moves) s

/-- Each forced flag is cleared at the exit from TEST to RUN, and its element evaluated, the channels taking only the counts (R120,
R131). -/
def clearForces (s : State) : State := State.each s.definedElements (forceElement .countsOnly false) s

/-! ### The row of the Trip Matrix -/

/-- ELEMENT_DELAY_EXPIRY (R112). -/
def execElementDelayExpiry (e : Fin 64) (s : State) : Host.Outcome State Fault Refusal :=
  running s (elementDelayExpiry e)

end Sys2Proof.Machine
end

