-- ==== Sys2Proof/Machine/Points.lean ====
section
/-! DEFINITION. The Point Unit (chapter 1): condition and quality, the announced condition, chatter, and the point's records. -/

namespace Sys2Proof.Machine

/-- A report's event time and flags (R52), as its transitions and its quality carry them. -/
structure Stamp where
  time : Nat
  adjusted : Bool
  approx : Bool
deriving DecidableEq, Repr

/-! ### Derivations (R3, R4, R8) -/

/-- The condition derived from a contact: MOMENTARY rests in NORMAL (R3, R4). -/
def PointDef.derive (d : PointDef) (contact : Bool) : Condition :=
  match d.kind with
  | .maintained => if contact = d.polarity.alarmContact then .alarm else .normal
  | .momentary => .normal

/-- The announced condition of a point with definition `d`, where a BAD point keeps `held` (R8). -/
def PointDef.announce (d : PointDef) (v : Point) (held : Condition) : Condition :=
  if d.inhibited then .normal
  else if v.suppressed then .alarm
  else if v.quality = .bad then held
  else v.condition

/-- How a change of an announced condition reaches the window (R9, R80): as a capturing activation, as a standing one, or within an
annunciation restart, where only the active count follows. -/
inductive Announcing where
  | capturing
  | standing
  | countOnly
deriving DecidableEq, Repr

/-- Deliver an activation or clear to a point's window (R9). -/
def deliverSource (how : Announcing) (p : Fin 1024) (window : Option (Fin 192)) (a : Condition) (s : State) : State :=
  match how, a with
  | .capturing, .alarm => activateAt window (some (p, (s.point p).lastEvent)) s
  | .standing, .alarm => activateAt window none s
  | .countOnly, .alarm =>
    match window with
    | some w => countActivation w s
    | none => s
  | .countOnly, .normal =>
    match window with
    | some w => countClear w s
    | none => s
  | _, .normal => clearAt window s

/-- Recompute the announced condition and deliver a change of it; not in CONFIGURING (R8, R9, R22). -/
def reannounce (how : Announcing) (p : Fin 1024) (s : State) : State :=
  match (s.point p).defn with
  | some d =>
    let a := d.announce (s.point p) (s.point p).announced
    if s.mode = .configuring ∨ a = (s.point p).announced then s
    else deliverSource how p d.window a (s.setPoint p { s.point p with announced := a })
  | none => s

/-! ### Records and chatter (R11, R12, R15, R16) -/

/-- POINT_ALARM for a change to ALARM, POINT_NORMAL for a change to NORMAL. -/
def conditionRecord : Condition → RecordKind
  | .alarm => .pointAlarm
  | .normal => .pointNormal

/-- Offer the point record of a condition change, judged on a suppressed field of `suppressed` (R15). -/
def offerPointRecord (p : Fin 1024) (d : PointDef) (c : Condition) (st : Stamp) (suppressed : Bool) (s : State) : State :=
  if (s.point p).quality = .good ∧ suppressed = false ∧ d.inhibited = false then
    offer { kind := conditionRecord c, cls := d.cls, time := st.time, subject := p.val, adjusted := st.adjusted,
            approx := st.approx } s
  else s

/-- Chatter is counted for a point of this definition in RUN and TEST (R11). -/
def PointDef.countable (d : PointDef) : Bool := !d.inhibited && decide (2 ≤ d.chatterLimit)

/-- Count a condition change for chatter; a point that reaches its limit becomes suppressed, with CHATTER_ON (R11, R12). -/
def countChatter (p : Fin 1024) (d : PointDef) (st : Stamp) (s : State) : State :=
  if s.mode = .configuring ∨ d.countable = false then s
  else
    let v := s.point p
    let n := min (v.chatter + 1) 15
    if v.suppressed = false ∧ d.chatterLimit ≤ n then
      offer { kind := .chatterOn, cls := .alarm, time := st.time, subject := p.val, adjusted := st.adjusted,
              approx := st.approx } (s.setPoint p { v with chatter := n, suppressed := true })
    else s.setPoint p { v with chatter := n }

/-! ### Transitions and quality (R4 to R7) -/

/-- A transition (R5). -/
structure Transition where
  contact : Bool
  stamp : Stamp
deriving DecidableEq, Repr

/-- A condition change from a transition: Trip Matrix, record, chatter unless it is a generated return, announced condition (R5
steps 3 to 6); that the records of the blocks stand in this order is log entry 8 (DESIGN CHOICE). -/
def conditionChange (p : Fin 1024) (d : PointDef) (c : Condition) (st : Stamp) (suppressed counted : Bool) (s : State) : State :=
  let t := tripDeliver p (s.setPoint p { s.point p with condition := c })
  let t1 := offerPointRecord p d c st suppressed t
  reannounce .capturing p (if counted then countChatter p d st t1 else t1)

/-- Apply a transition (R4, R5). The return of a MOMENTARY point has its record judged on the suppression before the transition (log
entry 9, DEDUCED). -/
def applyTransition (p : Fin 1024) (tr : Transition) (s : State) : State :=
  match (s.point p).defn with
  | none => s
  | some d =>
    if tr.contact = (s.point p).contact then s
    else
      let supp := (s.point p).suppressed
      let t := s.setPoint p { s.point p with contact := tr.contact, lastEvent := tr.stamp.time }
      match d.kind with
      | .maintained =>
        if d.derive tr.contact = (s.point p).condition then t
        else conditionChange p d (d.derive tr.contact) tr.stamp supp true t
      | .momentary =>
        if tr.contact = d.polarity.alarmContact then
          conditionChange p d .normal tr.stamp supp false (conditionChange p d .alarm tr.stamp supp true t)
        else t

/-- Deliver a quality; a change goes to the Trip Matrix, the announced condition is recomputed, and `record` says whether
POINT_QUALITY may follow (R6, R7), after the records of the Trip Matrix and the Channel Unit (log entry 8, DESIGN CHOICE). -/
def deliverQuality (p : Fin 1024) (q : Quality) (st : Stamp) (record : Bool) (s : State) : State :=
  match (s.point p).defn with
  | none => s
  | some d =>
    if q = (s.point p).quality then s
    else
      let t := reannounce .standing p (tripDeliver p (s.setPoint p { s.point p with quality := q }))
      if record && !d.inhibited then
        offer { kind := .pointQuality, cls := .alarm, time := st.time, subject := p.val, value := q.code,
                adjusted := st.adjusted, approx := st.approx } t
      else t

/-- The module that a point belongs to (section 1.1). -/
def moduleOf (p : Fin 1024) : Fin 16 := ⟨p.val / 64, by omega⟩

/-- The point of a module's channel (section 1.1). -/
def pointOf (m : Fin 16) (ch : Fin 64) : Fin 1024 := ⟨m.val * 64 + ch.val, by omega⟩

/-- A stamp for a change that is not taken from a report. -/
def State.unstamped (s : State) : Stamp := { time := s.time.station, adjusted := false, approx := false }

/-- Every GOOD defined point of a module becomes BAD, with no POINT_QUALITY record (R7, R28, R39); in ascending point number, which the
rules leave open (log entry 22, DESIGN CHOICE). -/
def modulePointsBad (m : Fin 16) (s : State) : State :=
  State.each (s.definedPoints.filter (fun p => decide (moduleOf p = m)))
    (fun p s => deliverQuality p .bad s.unstamped false s) s

/-! ### Chatter decay (R13, R14) -/

/-- One point at a decay expiry (R13, R14). -/
def decayPoint (p : Fin 1024) (s : State) : State :=
  let v := s.point p
  if v.chatter = 0 then s
  else if v.suppressed = true ∧ v.chatter = 1 then
    let t := s.setPoint p { v with chatter := 0, suppressed := false }
    reannounce .standing p (offerNow .chatterOff .alarm p.val v.condition.code 0 t)
  else s.setPoint p { v with chatter := v.chatter - 1 }

/-- CHATTER_DECAY_EXPIRY: every nonzero count falls by 1, ascending, and the timer restarts (R13, R14). -/
def chatterDecayExpiry (s : State) : State :=
  if Timer.due s.decay then
    State.each s.definedPoints decayPoint { s with decay := some s.settings.chatterInterval }
  else s

/-! ### Across modes and restart (R22 to R24) -/

/-- One point at entry into CONFIGURING (R22). -/
def pointToConfiguring (p : Fin 1024) (s : State) : State :=
  let v := s.point p
  let t := s.setPoint p { v with announced := .normal, chatter := 0, suppressed := false }
  match v.defn with
  | some d => if v.announced = .alarm then clearAt d.window t else t
  | none => t

/-- The Point Unit's entry into CONFIGURING (R22). -/
def pointsToConfiguring (s : State) : State :=
  State.each (Table.keys s.points) pointToConfiguring { s with decay := none }

/-- The Point Unit's entry into RUN from CONFIGURING (R23). -/
def pointsToRun (s : State) : State :=
  State.each s.definedPoints (reannounce .standing) { s with decay := some s.settings.chatterInterval }

/-- One point at an annunciation restart (R24, R80 step 1). -/
def pointRestart (p : Fin 1024) (s : State) : State :=
  reannounce .countOnly p (s.setPoint p { s.point p with chatter := 0, suppressed := false })

/-- The Point Unit's part of an annunciation restart (R24). -/
def pointsRestart (s : State) : State := State.each s.definedPoints pointRestart s

/-! ### Writing and clearing (R19 to R21) -/

/-- Install a definition, from the initial dynamic fields where the point was undefined (R19, R20 step 2). -/
def Point.install (d : PointDef) (v : Point) : Point :=
  match v.defn with
  | some _ => { v with defn := some d, announced := .normal, chatter := 0, suppressed := false }
  | none => { defn := some d }

/-- Derive the condition after a write; a change is delivered to the Trip Matrix and offered as a record, and not counted (R19, R20
step 3). -/
def deriveWritten (p : Fin 1024) (d : PointDef) (s : State) : State :=
  let c := d.derive (s.point p).contact
  if c = (s.point p).condition then s
  else
    let t := tripDeliver p (s.setPoint p { s.point p with condition := c })
    offerPointRecord p d c t.unstamped (t.point p).suppressed t

/-- Announce a written point anew, where `held` is the value it held before the write (R20 step 4). -/
def announceWritten (p : Fin 1024) (d : PointDef) (held : Condition) (s : State) : State :=
  let a := d.announce (s.point p) held
  let t := s.setPoint p { s.point p with announced := a }
  match a with
  | .alarm => activateAt d.window none t
  | .normal => t

/-- Clear the old window of a point whose announced condition is ALARM (R20 step 1, R21). -/
def removeContribution (p : Fin 1024) (s : State) : State :=
  match (s.point p).defn, (s.point p).announced with
  | some d, .alarm => clearAt d.window s
  | _, _ => s

/-- An accepted write of a point (R19 in CONFIGURING, R20 in RUN and TEST); its record stands after those of the Trip Matrix and the
Channel Unit (log entry 8, DESIGN CHOICE). -/
def applyPointWrite (p : Fin 1024) (d : PointDef) (s : State) : State :=
  let old := s.point p
  let held := match old.defn with
    | some _ => old.announced
    | none => .normal
  if s.mode = .configuring then deriveWritten p d (s.setPoint p (old.install d))
  else
    let t := (removeContribution p s).setPoint p (old.install d)
    announceWritten p d held (deriveWritten p d t)

/-- An accepted clear of a point (R21). -/
def applyPointClear (p : Fin 1024) (s : State) : State :=
  (if s.mode = .configuring then s else removeContribution p s).setPoint p {}

/-! ### The row of the Point Unit -/

/-- CHATTER_DECAY_EXPIRY (R13). -/
def execChatterDecayExpiry (s : State) : Host.Outcome State Fault Refusal :=
  running s chatterDecayExpiry

end Sys2Proof.Machine
end

