-- ==== Sys2Proof/Machine/TimeBase.lean ====
section
/-! DEFINITION. The Time Base (chapter 3): the local tick and every timer, station time, TIME values, time quality, and the stamping of
reports. -/

namespace Sys2Proof.Machine

/-! ### The local tick (R44 to R46) -/

/-- Station time and hold remainder at a local tick (R46). -/
def TimeBase.tick (t : TimeBase) : TimeBase :=
  { t with
    ticks := t.ticks + 1
    station := if t.hold = 0 then min (t.station + 10) stationMax else t.station
    hold := t.hold - 10
    sync := t.sync.tick }

/-- The self-resume timer of a port at a local tick. -/
def PortState.tick (p : PortState) : PortState := { p with selfResume := p.selfResume.tick }

/-- The timers of the Annunciation Unit at a local tick. -/
def Annunciator.tick (a : Annunciator) : Annunciator :=
  { a with
    groups := Table.mapCells {} (fun g => { g with settle := g.settle.tick }) a.groups
    lampTimer := a.lampTimer.tick
    refresh := a.refresh.tick
    phase := a.phase.tick }

/-- The timers of the Channel Unit at a local tick. -/
def ChannelUnit.tick (u : ChannelUnit) : ChannelUnit :=
  { u with
    outputs := Table.mapCells {} (fun m => { m with deadline := m.deadline.tick }) u.outputs
    refresh := u.refresh.tick }

/-- One local tick: station time and the hold remainder, and every timer of R44 (R44 to R46). -/
def localTick (s : State) : State :=
  { s with
    time := s.time.tick
    portA := s.portA.tick
    portB := s.portB.tick
    modules := Table.mapCells {} (fun m => { m with supervision := m.supervision.tick }) s.modules
    decay := s.decay.tick
    ann := s.ann.tick
    elements := Table.mapCells {} (fun e => { e with timer := e.timer.tick }) s.elements
    trip := s.trip.tick
    events := { s.events with batch := s.events.batch.tick } }

/-! ### TIME values and time quality (R47 to R50) -/

/-- An applied TIME frame makes the quality SYNCED and restarts the sync supervision timer (R50). -/
def refreshSync (s : State) : State :=
  { s with time := { s.time with quality := .synced, sync := some (s.settings.syncLimit * 1000) } }

/-- Lower a held receipt time that is later than `x` (R49 step 3). -/
def Held.lower (x : Nat) (h : Held) : Held := { h with trx := h.trx.map (fun t => min t x) }

/-- Station time, floors and receipt times at a backward step (R49 steps 1 to 3). -/
def stepBack (x : Nat) (s : State) : State :=
  { s with
    time := { s.time with station := x, hold := 0 }
    modules := Table.mapCells {} (fun m => { m with floor := 0 }) s.modules
    portA := { s.portA with buf := s.portA.buf.map (Held.lower x) } }

/-- Apply a TIME value: forward step, hold, or backward step with TIME_STEP (R48 to R50). -/
def applyTime (x : Nat) (s : State) : State :=
  let t := s.time.station
  if t ≤ x then refreshSync { s with time := { s.time with station := x, hold := 0 } }
  else if t - x ≤ 10000 then refreshSync { s with time := { s.time with hold := t - x } }
  else offerNow .timeStep .alarm noSubject 0 (min ((t - x) / 10) 65535) (refreshSync (stepBack x s))

/-- The Time Base takes a TIME frame's payload; one whose length is not 6 is discarded (R47). -/
def takeTime (payload : List Byte) (s : State) : State :=
  if payload.length = 6 then applyTime (natOfBytes payload) s else s

/-- SYNC_SUPERVISION_EXPIRY: the quality becomes FREE and the timer stops (R50). -/
def syncExpiry (s : State) : State :=
  if Timer.due s.time.sync then { s with time := { s.time with quality := .free, sync := none } } else s

/-! ### The event time of a report (R52) -/

/-- The unknown age. -/
def unknownAge : Nat := 65535

/-- The raw time of a report: its receipt time less its age, or the receipt time alone where the age is unknown (R52 steps 1 and
2). -/
def rawTime (trx age : Nat) : Nat := if age = unknownAge then trx else trx - age

/-- The event time and flags of a report, from receipt time, age and floor (R52). -/
def stampReport (trx age floor : Nat) : Stamp :=
  { time := max (rawTime trx age) floor
    adjusted := decide (age ≠ unknownAge ∧ trx < age) || decide (rawTime trx age < floor)
    approx := decide (age = unknownAge) }

/-! ### The rows of the Time Base -/

/-- LOCAL_TICK (R46). -/
def execLocalTick (s : State) : Host.Outcome State Fault Refusal :=
  running s localTick

/-- SYNC_SUPERVISION_EXPIRY (R50). -/
def execSyncSupervisionExpiry (s : State) : Host.Outcome State Fault Refusal :=
  running s syncExpiry

end Sys2Proof.Machine
end

