-- ==== Sys2Proof/Machine/Reception.lean ====
section
/-! DEFINITION. Completed receptions (section 9.5): judging a frame, its place in the buffer, and its direction by destination and
kind. -/

namespace Sys2Proof.Machine

/-- What becomes of an accepted frame (the table of R164). -/
inductive Direction where
  | owner
  | time
  | timeAndForward
  | forward
  | discard
  | discardButton
  | discardConfirm
deriving DecidableEq, Repr

/-- A frame addressed to the node, by its kind and port (R164). -/
def directAddressed (p : Port) (kind : Byte) : Direction :=
  match p with
  | .A =>
    if kind = kindScan ∨ kind = kindCmd then .owner
    else if kind = kindTime then .time
    else if kind = kindButton then .discardButton
    else if kind = kindConfirm then .discardConfirm
    else .discard
  | .B => if kind = kindButton ∨ kind = kindConfirm then .owner else .discard

/-- The direction of an accepted frame (R164). -/
def direction (node : Nat) (p : Port) (f : Frame) : Direction :=
  if f.dest.toNat = node then directAddressed p f.kind
  else if f.dest = broadcast ∧ f.kind = kindTime ∧ p = .A then .timeAndForward
  else .forward

/-- The last frame placed gives up its place (R165). -/
def giveLast (p : Port) (s : State) : State :=
  judgeFlow p (s.setPort p { s.port p with buf := (s.port p).buf.dropLast })

/-- The place a frame takes: its receipt time on port A (R51), and whether it awaits forwarding. -/
def State.place (s : State) (p : Port) (f : Frame) (forward : Bool) : Held :=
  { frame := f
    trx := match p with
      | .A => some s.time.station
      | .B => none
    forward := forward
    sending := false }

/-- An accepted frame takes a place and is directed (R164, R165). -/
def acceptFrame (p : Port) (f : Frame) (s : State) : State :=
  match direction s.node p f with
  | .owner => takePlace p (s.place p f false) s
  | .time => giveLast p (takeTime f.payload (takePlace p (s.place p f false) s))
  | .timeAndForward => takeTime f.payload (takePlace p (s.place p f true) s)
  | .forward => takePlace p (s.place p f true) s
  | .discard => giveLast p (takePlace p (s.place p f false) s)
  | .discardButton => countIgnoredButton (giveLast p (takePlace p (s.place p f false) s))
  | .discardConfirm => countUnknownConfirm (giveLast p (takePlace p (s.place p f false) s))

/-- The greatest held count of a receive buffer (section 9.5). -/
def bufferSize : Nat := 8

/-- A completed frame without character error is judged by its CRC and the room in the buffer (R164 cases 2 to 4). -/
def judgeFrame (p : Port) (f : Frame) (s : State) : State :=
  if f.crcGood = false then s.setPort p { s.port p with crcErrors := saturate (s.port p).crcErrors }
  else if bufferSize ≤ (s.port p).buf.length then
    furtherPause p (s.setPort p { s.port p with overruns := saturate (s.port p).overruns })
  else acceptFrame p f s

/-- The receiver is between frames (R160). -/
def receiverFree (p : Port) (s : State) : State := s.setPort p { s.port p with rx := .betweenFrames }

/-- FRAME_RECEIVED: the characters since SOF complete a frame, which is judged and directed (R160, R164). The row does not occur while
the receiver is between frames, or on characters that complete no frame (log entry 5). -/
def frameReceived (p : Port) (chars : List RxChar) (s : State) : State :=
  if (s.port p).rx = .withinFrame then
    match deframe chars with
    | some (.completed bytes err) =>
      let t := receiverFree p s
      if err then t.setPort p { t.port p with charErrors := saturate (t.port p).charErrors }
      else
        match frameOfBytes bytes with
        | some f => judgeFrame p f t
        | none => t
    | _ => s
  else s

/-- A TIME frame to the node or to all completes reception on port A without error and is no overrun: it is applied at once (R47).
The event does not occur for another destination or with the buffer full (log entry 5). -/
def timeArrives (a : TimeArrival) (s : State) : State :=
  if s.portA.buf.length < bufferSize ∧ (a.dest.toNat = s.node ∨ a.dest = broadcast) then
    acceptFrame .A (mkFrame a.dest a.src kindTime a.seq a.payload) (receiverFree .A s)
  else s

/-- TIME_FRAME: a TIME frame whose SOF has been received arrives (R47, R160); the same event as FRAME_RECEIVED with that frame's
characters (log entry 4). -/
def timeFrame (dest src seq : Byte) (payload : List Byte) (s : State) : State :=
  if s.portA.rx = .withinFrame then timeArrives { dest := dest, src := src, seq := seq, payload := payload } s else s

/-- FRAME_RECEIVED (R164). -/
def execFrameReceived (p : Port) (chars : List RxChar) (s : State) : Host.Outcome State Fault Refusal :=
  running s (frameReceived p chars)

/-- TIME_FRAME (R47). -/
def execTimeFrame (dest src seq : Byte) (payload : List Byte) (s : State) : Host.Outcome State Fault Refusal :=
  running s (timeFrame dest src seq payload)

end Sys2Proof.Machine
end

