-- ==== Sys2Proof/Machine/Scan.lean ====
section
/-! DEFINITION. Scan Intake (chapter 2): taking SCAN frames, report order and expansion, module supervision, and the writing of module
entries. -/

namespace Sys2Proof.Machine

/-! ### Reports (R33, R36, section 9.4) -/

/-- A report of a SCAN frame (R33). -/
structure Report where
  channel : Nat
  contact : Bool
  quality : Quality
  pulses : Nat
  age : Nat
deriving DecidableEq, Repr

/-- A report from its four bytes (section 9.4). -/
def reportOf (ch st hi lo : Byte) : Report :=
  { channel := ch.toNat
    contact := st.getLsbD 0
    quality := if st.getLsbD 1 then .bad else .good
    pulses := (st.toNat / 4) % 4
    age := natOfBytes [hi, lo] }

/-- The reports that follow the two leading bytes of a SCAN payload. -/
def reportsOf : List Byte → List Report
  | ch :: st :: hi :: lo :: t => reportOf ch st hi lo :: reportsOf t
  | _ => []

/-- A well-formed SCAN payload: its module sequence and its reports; none for a malformed one (R30). -/
def parseScan (payload : List Byte) : Option (Nat × List Report) :=
  match payload with
  | seq :: count :: rest =>
    if rest.length = 4 * count.toNat ∧ count.toNat ≤ 48 then some (seq.toNat, reportsOf rest) else none
  | _ => none

/-- The age a report sorts by: the unknown age sorts as 0 (R33). -/
def Report.sortAge (r : Report) : Nat := if r.age = unknownAge then 0 else r.age

/-- `x` comes before `r` whatever their places in the frame: an older change, or the same age and a lower channel (R33). -/
def Report.before (x r : Report) : Bool :=
  decide (r.sortAge < x.sortAge) || decide (x.sortAge = r.sortAge ∧ x.channel < r.channel)

/-- Put a report among ordered reports that stand after it in the frame. -/
def insertReport (r : Report) : List Report → List Report
  | [] => [r]
  | x :: t => if x.before r then x :: insertReport r t else r :: x :: t

/-- The reports of a frame in the order in which they are taken (R33). -/
def orderReports (rs : List Report) : List Report := rs.foldr insertReport []

/-- The transitions of a GOOD report from the contact before it: its pulse pairs, each with APPROX, then the net change (R36). -/
def transitionsOf (before : Bool) (r : Report) (st : Stamp) : List Transition :=
  (List.replicate r.pulses
      [{ contact := !before, stamp := { st with approx := true } },
       { contact := before, stamp := { st with approx := true } }]).flatten ++
    (if r.contact = before then [] else [{ contact := r.contact, stamp := st }])

/-! ### Taking reports (R34, R35) -/

/-- The point of a report that is not ignored: its channel is below the module's channel count and the point is defined (R35). -/
def reportPoint (s : State) (m : Fin 16) (r : Report) : Option (Fin 1024) :=
  match (s.inputModule m).defn with
  | none => none
  | some d =>
    if h : r.channel < 64 then
      if r.channel < d.channels ∧ (s.point (pointOf m ⟨r.channel, h⟩)).defn.isSome then some (pointOf m ⟨r.channel, h⟩)
      else none
    else none

/-- Take one report: ignored and counted, or stamped with the floor raised, its quality delivered, and with GOOD its transitions
(R34 to R37). -/
def takeReport (m : Fin 16) (trx : Nat) (r : Report) (s : State) : State :=
  let v := s.inputModule m
  match reportPoint s m r with
  | none => s.setInputModule m { v with ignored := saturate v.ignored }
  | some p =>
    let st := stampReport trx r.age v.floor
    let trs := transitionsOf (s.point p).contact r st
    let t := deliverQuality p r.quality st true (s.setInputModule m { v with floor := st.time })
    match r.quality with
    | .bad => t
    | .good => State.each trs (applyTransition p) t

/-- The receipt time, as it now stands, of the SCAN frame that Scan Intake has begun: the oldest one the buffer holds (R49 step 3,
R51). -/
def State.scanReceipt (s : State) : Nat :=
  match s.nextOwned .A kindScan with
  | some h => h.trx.getD s.time.station
  | none => s.time.station

/-- Take the reports that remain of a begun frame, in order, each dated from the receipt time as it stands at its turn; the TIME frames
that fall before a report are taken just before it (R34, R49; log entry 14, DESIGN CHOICE). -/
def takeOrdered (m : Fin 16) : List Report → List (List TimeArrival) → State → State
  | [], _, s => s
  | r :: rs, between, s =>
    let t := State.each (between.headD []) timeArrives s
    takeOrdered m rs between.tail (takeReport m t.scanReceipt r t)

/-- Take the reports of a frame, in their order (R33, R34). -/
def takeReports (m : Fin 16) (between : List (List TimeArrival)) (rs : List Report) (s : State) : State :=
  takeOrdered m (orderReports rs) between s

/-! ### Taking a frame (R30 to R32, R41) -/

/-- The enabled module with a link address (R30). -/
def moduleAt (s : State) (src : Byte) : Option (Fin 16) :=
  s.enabledModules.find? (fun m =>
    match (s.inputModule m).defn with
    | some d => decide (d.address = src.toNat)
    | none => false)

/-- The missed count of a sequence gap (R32). -/
def missedCount (last seq : Nat) : Nat := (seq + 255 - last) % 256

/-- Put a module's last sequence. -/
def setLastSeq (m : Fin 16) (seq : Nat) (s : State) : State :=
  s.setInputModule m { s.inputModule m with lastSeq := some seq }

/-- The sequence check of a LIVE module, then the reports (R32). -/
def takeLive (m : Fin 16) (between : List (List TimeArrival)) (last seq : Nat) (rs : List Report) (s : State) : State :=
  if seq = last then
    s.setInputModule m { s.inputModule m with duplicates := saturate (s.inputModule m).duplicates }
  else if seq = (last + 1) % 256 then takeReports m between rs (setLastSeq m seq s)
  else takeReports m between rs (setLastSeq m seq (offerNow .moduleGap .alarm m.val 0 (missedCount last seq) s))

/-- The end of a module's silence: LIVE, the window clear, then MODULE_LIVE (R41). -/
def endSilence (m : Fin 16) (d : ModuleDef) (s : State) : State :=
  offerNow .moduleLive .trip m.val 0 0
    (clearAt d.window (s.setInputModule m { s.inputModule m with state := .live }))

/-- An accepted frame of module `m` (R31). -/
def acceptScan (m : Fin 16) (d : ModuleDef) (between : List (List TimeArrival)) (seq : Nat) (rs : List Report) (s : State) : State :=
  let t := s.setInputModule m { s.inputModule m with supervision := some d.supervision }
  match (s.inputModule m).state with
  | .unseen =>
    takeReports m between rs (setLastSeq m seq (t.setInputModule m { t.inputModule m with state := .live }))
  | .silent => takeReports m between rs (setLastSeq m seq (endSilence m d t))
  | .live =>
    match (s.inputModule m).lastSeq with
    | some last => takeLive m between last seq rs t
    | none => takeReports m between rs (setLastSeq m seq t)

/-- Scan Intake takes a SCAN frame (R30, R31). -/
def takeScan (between : List (List TimeArrival)) (h : Held) (s : State) : State :=
  match moduleAt s h.frame.src with
  | none => { s with unknownSource := saturate s.unknownSource }
  | some m =>
    match parseScan h.frame.payload, (s.inputModule m).defn with
    | some (seq, rs), some d => acceptScan m d between seq rs s
    | _, _ => s.setInputModule m { s.inputModule m with malformed := saturate (s.inputModule m).malformed }

/-- SCAN_FRAME: the next SCAN frame of the port A buffer is taken whole, with the TIME frames that arrive meanwhile, and gives up its
place (R29, R49; log entry 14). -/
def scanFrame (s : State) : State :=
  match s.nextOwned .A kindScan with
  | some h => { givePlace .A (Held.owned kindScan) (takeScan s.arriving h s) with arriving := [] }
  | none => s

/-! ### Supervision (R38, R39) -/

/-- MODULE_SUPERVISION_EXPIRY (R39); MODULE_SILENT stands after the records that its points cause in other blocks (log entry 8,
DESIGN CHOICE). -/
def supervisionExpiry (m : Fin 16) (s : State) : State :=
  match (s.inputModule m).defn with
  | some d =>
    if Timer.due (s.inputModule m).supervision ∧ (s.inputModule m).state ≠ .silent then
      let t := s.setInputModule m { s.inputModule m with state := .silent, supervision := none }
      activateAt d.window none (offerNow .moduleSilent .trip m.val 0 0 (modulePointsBad m t))
    else s
  | none => s

/-- Restart the supervision of a module that is UNSEEN (R38). -/
def restartUnseen (m : Fin 16) (s : State) : State :=
  match (s.inputModule m).defn with
  | some d =>
    if (s.inputModule m).state = .unseen then
      s.setInputModule m { s.inputModule m with supervision := some d.supervision }
    else s
  | none => s

/-- Scan Intake's entry into RUN from CONFIGURING (R38, R43). -/
def modulesToRun (s : State) : State := State.each s.enabledModules restartUnseen s

/-! ### Writing and clearing (R28) -/

/-- The entry of a module that is enabled anew: all dynamic fields but the floor time are initial, and the timer starts (R26, R28). -/
def InputModule.enabled (d : ModuleDef) (v : InputModule) : InputModule :=
  { defn := some d, supervision := some d.supervision, floor := v.floor }

/-- Deliver the end of a SILENT module's window source to the window it names (R28, R40). -/
def clearSilence (v : InputModule) (s : State) : State :=
  match v.defn, v.state with
  | some d, .silent => clearAt d.window s
  | _, _ => s

/-- An accepted clear of a module entry (R28). -/
def applyModuleClear (m : Fin 16) (s : State) : State :=
  let v := s.inputModule m
  match v.defn with
  | none => s
  | some _ =>
    clearSilence v (modulePointsBad m
      (s.setInputModule m { v with defn := none, state := .unseen, lastSeq := none, supervision := none }))

/-- A rewrite that keeps the link address: a SILENT module moves its window source where the window changes (R28). -/
def rewriteModule (m : Fin 16) (old d : ModuleDef) (s : State) : State :=
  let v := s.inputModule m
  let t := s.setInputModule m
    { v with defn := some d, supervision := if v.state = .silent then none else some d.supervision }
  if v.state = .silent ∧ old.window ≠ d.window then activateAt d.window none (clearAt old.window t) else t

/-- An accepted write of a module entry with enabled yes (R28). -/
def applyModuleWrite (m : Fin 16) (d : ModuleDef) (s : State) : State :=
  match (s.inputModule m).defn with
  | none => s.setInputModule m ((s.inputModule m).enabled d)
  | some old =>
    if old.address = d.address then rewriteModule m old d s
    else
      let t := applyModuleClear m s
      t.setInputModule m ((t.inputModule m).enabled d)

/-! ### The rows of Scan Intake -/

/-- SCAN_FRAME (R29). -/
def execScanFrame (s : State) : Host.Outcome State Fault Refusal := running s scanFrame

/-- MODULE_SUPERVISION_EXPIRY (R39). -/
def execModuleSupervisionExpiry (m : Fin 16) (s : State) : Host.Outcome State Fault Refusal :=
  running s (supervisionExpiry m)

end Sys2Proof.Machine
end

