-- ==== Sys2Proof/Machine/Operands.lean ====
section
/-! DEFINITION. Operand forms of the entry commands: a table entry's definition read from its bytes and written as bytes, and the
dynamic fields that READ STATE returns (R163, R174, R175). -/

namespace Sys2Proof.Machine

/-! ### Field forms -/

/-- A number as an index below `n`, or none. -/
def finOf (n k : Nat) : Option (Fin n) := if h : k < n then some ⟨k, h⟩ else none

/-- A field that is absent as FFH, or present and below `n`; none where it is neither. -/
def optionalFin (n : Nat) (b : Byte) : Option (Option (Fin n)) :=
  if b = 0xFF then some none
  else
    match finOf n b.toNat with
    | some i => some (some i)
    | none => none

/-- A two-valued field, 00H and 01H. -/
def twoValued {α : Type} (x y : α) (b : Byte) : Option α :=
  if b = 0 then some x else if b = 1 then some y else none

/-- A link address 1..239. -/
def linkAddress (b : Byte) : Option Nat := if 1 ≤ b.toNat ∧ b.toNat ≤ 239 then some b.toNat else none

/-- A link address, or absent as FFH. -/
def optionalAddress (b : Byte) : Option (Option Nat) :=
  if b = 0xFF then some none
  else
    match linkAddress b with
    | some a => some (some a)
    | none => none

/-- A number field with a range. -/
def ranged (low high : Nat) (k : Nat) : Option Nat := if low ≤ k ∧ k ≤ high then some k else none

/-- An absent one-byte field. -/
def absentByte : Byte := 0xFF

/-- An index as a one-byte field, FFH where absent. -/
def indexByte {n : Nat} : Option (Fin n) → Byte
  | some i => lowByte i.val
  | none => absentByte

/-- A number as a one-byte field, FFH where absent. -/
def numberByte : Option Nat → Byte
  | some k => lowByte k
  | none => absentByte

/-- A number as a two-byte field, FFFFH where absent. -/
def numberWord : Option Nat → List Byte
  | some k => bytesOfNat 2 k
  | none => [absentByte, absentByte]

/-! ### Definitions read from entry bytes: none is RANGE, `some none` is defined no -/

/-- The settings record (R176, R177 step 2). -/
def readSettings : List Byte → Option Settings
  | [g, c1, c0, ha, la, hb, lb, bl, bt, s1, s0, w] => do
    let gateway ← linkAddress g
    let chatter ← ranged 100 10000 (natOfBytes [c1, c0])
    let highA ← ranged 2 8 ha.toNat
    let lowA ← ranged 0 (highA - 1) la.toNat
    let highB ← ranged 2 8 hb.toNat
    let lowB ← ranged 0 (highB - 1) lb.toNat
    let level ← ranged 1 8 bl.toNat
    let time ← ranged 0 100 bt.toNat
    let sync ← ranged 10 600 (natOfBytes [s1, s0])
    let window ← optionalFin 192 w
    some { gateway := gateway, chatterInterval := chatter, highA := highA, lowA := lowA, highB := highB, lowB := lowB,
           batchLevel := level, batchTime := time, syncLimit := sync, systemWindow := window }
  | _ => none

/-- A module definition (R25, R27 steps 1 and 2). -/
def readModule : List Byte → Option (Option ModuleDef)
  | [en, a, ch, s1, s0, w] =>
    if en = 0 then some none
    else if en = 1 then do
      let address ← linkAddress a
      let channels ← ranged 1 64 ch.toNat
      let supervision ← ranged 10 2000 (natOfBytes [s1, s0])
      let window ← optionalFin 192 w
      some (some { address := address, channels := channels, supervision := supervision, window := window })
    else none
  | _ => none

/-- A chatter limit: 0, or 2..15 (R1). -/
def chatterLimitOf (b : Byte) : Option Nat := if b.toNat ≤ 15 ∧ b.toNat ≠ 1 then some b.toNat else none

/-- A point's fields while defined is yes (R1). -/
def readPointFields (pol kind w limit inh cls : Byte) : Option PointDef := do
  let polarity ← twoValued Polarity.alarmOnClosed .alarmOnOpen pol
  let k ← twoValued PointKind.maintained .momentary kind
  let window ← optionalFin 192 w
  let chatter ← chatterLimitOf limit
  let inhibited ← twoValued false true inh
  let c ← twoValued RecClass.alarm .trip cls
  some { polarity := polarity, kind := k, window := window, chatterLimit := chatter, inhibited := inhibited, cls := c }

/-- With defined no a field may also be absent, as it is sent (R1, log entry 10): an absent byte stands for a value that passes. -/
def orAbsent (b : Byte) : Byte := if b = absentByte then 0 else b

/-- A point definition (R1, R18 steps 1 and 2). -/
def readPoint : List Byte → Option (Option PointDef)
  | [df, pol, kind, w, limit, inh, cls] =>
    if df = 0 then do
      let _ ← readPointFields (orAbsent pol) (orAbsent kind) w (orAbsent limit) (orAbsent inh) (orAbsent cls)
      some none
    else if df = 1 then do
      let d ← readPointFields pol kind w limit inh cls
      some (some d)
    else none
  | _ => none

/-- A window definition (R57, R59 steps 1 and 2). -/
def readWindow : List Byte → Option (Option WindowDef)
  | [df, g, ty, el] =>
    if df = 0 then some none
    else if df = 1 then do
      let group ← finOf 32 g.toNat
      let sequence ← twoValued SequenceType.manualReset .autoReset ty
      let eligible ← twoValued false true el
      some (some { group := group, sequence := sequence, eligible := eligible })
    else none
  | _ => none

/-- A driver's address (R71). -/
def readDriver : List Byte → Option (Option Nat)
  | [a] => optionalAddress a
  | _ => none

/-- A group definition (R81, R83). -/
def readGroup : List Byte → Option (Option GroupDef)
  | [df, h, fo, st] =>
    if df = 0 then some none
    else if df = 1 then do
      let horn ← optionalFin 4 h
      let firstOut ← twoValued false true fo
      let settle ← ranged 0 50 st.toNat
      some (some { horn := horn, firstOut := firstOut, settle := settle })
    else none
  | _ => none

/-- A horn's sound setting (R95). -/
def readHorn : List Byte → Option Sound
  | [b] => twoValued Sound.continuous .pulsed b
  | _ => none

/-- A pattern entry; an on-time at or above the period is clamped (R70). -/
def readPattern : List Byte → Option PatternEntry
  | [p, o] => do
    let period ← ranged 2 200 p.toNat
    let onTime ← ranged 1 255 o.toNat
    some { period := period, onTime := min onTime (period - 1) }
  | _ => none

/-- One input of an element, from its four bytes (R100, R115 step 6). -/
def readInput (p1 p0 w se : Byte) : Option ElementInput := do
  let point ← finOf 1024 (natOfBytes [p1, p0])
  let weight ← ranged 1 15 w.toNat
  let sense ← twoValued Sense.onAlarm .onNormal se
  some { point := point, weight := weight, sense := sense }

/-- The inputs of an element, four bytes each. -/
def readInputs : List Byte → Option (List ElementInput)
  | p1 :: p0 :: w :: se :: t => do
    let i ← readInput p1 p0 w se
    let is ← readInputs t
    some (i :: is)
  | [] => some []
  | _ => none

/-- The targets of an element, one byte each. -/
def readTargets : List Byte → Option (List (Fin 16))
  | b :: t => do
    let c ← finOf 16 b.toNat
    let cs ← readTargets t
    some (c :: cs)
  | [] => some []

/-- A quality policy code (R100). -/
def readPolicy (b : Byte) : Option Policy :=
  if b = 0 then some .badCounts else if b = 1 then some .badIgnored else if b = 2 then some .badHolds else none

/-- A delay mode code (R100). -/
def readDelayMode (b : Byte) : Option DelayMode :=
  if b = 0 then some .instant else if b = 1 then some .onDelay else if b = 2 then some .offDelay
  else if b = 3 then some .pulse else none

/-- The fields of an element after its inputs: pickup, dropout, policy, mode, delay (R115 step 6). -/
def readElementFields (inputs : List ElementInput) (targets : List (Fin 16)) : List Byte → Option ElementDef
  | [pk, dr, po, mo, d1, d0] => do
    let pickup ← ranged 1 120 pk.toNat
    let dropout ← ranged 0 (pickup - 1) dr.toNat
    let policy ← readPolicy po
    let mode ← readDelayMode mo
    let delay ← ranged (if mode = .pulse then 1 else 0) 65535 (natOfBytes [d1, d0])
    if targets.Nodup ∧ (inputs.map (fun i => (i.point, i.sense))).Nodup then
      some { inputs := inputs, pickup := pickup, dropout := dropout, policy := policy, mode := mode, delay := delay,
             targets := targets }
    else none
  | _ => none

/-- What R115 finds in an entry of the ELEMENT table, before its step 7. -/
inductive ElementEntry where
  | refused (st : Status)
  | undefine
  | define (d : ElementDef)
deriving DecidableEq, Repr

/-- The values of an entry whose length agrees with its counts (R115 step 6). -/
def readElementValues (k : Nat) (body : List Byte) : ElementEntry :=
  let found := do
    let inputs ← readInputs (body.take (4 * k))
    let targets ← readTargets (body.drop (4 * k + 7))
    readElementFields inputs targets ((body.drop (4 * k)).take 6)
  match found with
  | some d => .define d
  | none => .refused .range

/-- The counts and the length of an entry with defined yes: `count` the input count byte, `body` the bytes after it (R115 steps 4 and
5). -/
def readElementBody (count : Byte) (body : List Byte) : ElementEntry :=
  let k := count.toNat
  if k < 1 ∨ 8 < k then .refused .range
  else
    match body[4 * k + 6]? with
    | none => .refused .length
    | some m =>
      if m.toNat < 1 ∨ 4 < m.toNat then .refused .range
      else if body.length ≠ 4 * k + 7 + m.toNat then .refused .length
      else readElementValues k body

/-- An entry of the ELEMENT table (R115 steps 2 to 6). -/
def readElement : List Byte → ElementEntry
  | [] => .refused .length
  | df :: rest =>
    if df = 0 then .undefine
    else if df = 1 then
      match rest with
      | [] => .refused .length
      | count :: body => readElementBody count body
    else .refused .range

/-- An output module's fields (R124, R126 step 2). -/
def readOutput : List Byte → Option (Option Nat × Nat)
  | [a, t] => do
    let address ← optionalAddress a
    let timeout ← ranged 5 100 t.toNat
    some (address, timeout)
  | _ => none

/-- A channel definition (R127, R129 step 2). -/
def readChannel : List Byte → Option (Option ChannelDef)
  | [df, m, o, lk, w] =>
    if df = 0 then some none
    else if df = 1 then do
      let outputModule ← finOf 8 m.toNat
      let output ← finOf 16 o.toNat
      let lockout ← twoValued false true lk
      let window ← optionalFin 192 w
      some (some { outputModule := outputModule, output := output, lockout := lockout, window := window })
    else none
  | _ => none

/-! ### Definitions as READ ENTRY returns them (R175) -/

/-- R176. -/
def Settings.entry (v : Settings) : List Byte :=
  [lowByte v.gateway] ++ bytesOfNat 2 v.chatterInterval ++
    [lowByte v.highA, lowByte v.lowA, lowByte v.highB, lowByte v.lowB, lowByte v.batchLevel, lowByte v.batchTime] ++
    bytesOfNat 2 v.syncLimit ++ [indexByte v.systemWindow]

/-- R25. -/
def InputModule.entry (v : InputModule) : List Byte :=
  match v.defn with
  | some d => [1, lowByte d.address, lowByte d.channels] ++ bytesOfNat 2 d.supervision ++ [indexByte d.window]
  | none => [0, absentByte, absentByte, absentByte, absentByte, absentByte]

/-- R1. -/
def Point.entry (v : Point) : List Byte :=
  match v.defn with
  | some d => [1, lowByte d.polarity.code, lowByte d.kind.code, indexByte d.window, lowByte d.chatterLimit,
               boolByte d.inhibited, lowByte d.cls.code]
  | none => [0, absentByte, absentByte, absentByte, absentByte, absentByte, absentByte]

/-- R57. -/
def Window.entry (v : Window) : List Byte :=
  match v.defn with
  | some d => [1, lowByte d.group.val, lowByte d.sequence.code, boolByte d.eligible]
  | none => [0, absentByte, absentByte, absentByte]

/-- R71. -/
def driverEntry (a : Option Nat) : List Byte := [numberByte a]

/-- R81. -/
def Group.entry (v : Group) : List Byte :=
  match v.defn with
  | some d => [1, indexByte d.horn, boolByte d.firstOut, lowByte d.settle]
  | none => [0, absentByte, absentByte, absentByte]

/-- R95. -/
def Horn.entry (v : Horn) : List Byte := [lowByte v.sound.code]

/-- R70. -/
def PatternEntry.entry (v : PatternEntry) : List Byte := [lowByte v.period, lowByte v.onTime]

/-- An element definition as it travels in a WRITE ENTRY (R100). -/
def ElementDef.entry (d : ElementDef) : List Byte :=
  [1, lowByte d.inputs.length] ++
    d.inputs.flatMap (fun i => bytesOfNat 2 i.point.val ++ [lowByte i.weight, lowByte i.sense.code]) ++
    [lowByte d.pickup, lowByte d.dropout, lowByte d.policy.code, lowByte d.mode.code] ++ bytesOfNat 2 d.delay ++
    [lowByte d.targets.length] ++ d.targets.map (fun c => lowByte c.val)

/-- The active definition and the pending flag (R100). -/
def Element.entry (v : Element) : List Byte :=
  (match v.defn with
    | some d => d.entry
    | none => [0] ++ List.replicate 8 absentByte) ++ [lowByte v.pending.code]

/-- R124. -/
def OutputModule.entry (v : OutputModule) : List Byte := [numberByte v.address, lowByte v.timeout]

/-- R127. -/
def Channel.entry (v : Channel) : List Byte :=
  match v.defn with
  | some d => [1, lowByte d.outputModule.val, lowByte d.output.val, boolByte d.lockout, indexByte d.window]
  | none => [0, absentByte, absentByte, absentByte, absentByte]

/-! ### Dynamic fields as READ STATE returns them (R175) -/

/-- R26. -/
def InputModule.dynamic (v : InputModule) : List Byte :=
  [lowByte v.state.code] ++ numberWord v.lastSeq ++ numberWord v.supervision ++ bytesOfNat 6 v.floor ++
    bytesOfNat 2 v.ignored ++ bytesOfNat 2 v.duplicates ++ bytesOfNat 2 v.malformed

/-- R2. -/
def Point.dynamic (v : Point) : List Byte :=
  [boolByte v.contact, lowByte v.condition.code, lowByte v.quality.code, lowByte v.announced.code, lowByte v.chatter,
   boolByte v.suppressed] ++ bytesOfNat 6 v.lastEvent

/-- R58. -/
def Window.dynamic (v : Window) : List Byte :=
  [lowByte v.state.code, lowByte v.count, boolByte v.mark, lowByte v.shown.code]

/-- The waiting flag and the image (R72). -/
def driverDynamic (s : State) (d : Fin 6) : List Byte := boolByte (decide (d ∈ s.ann.waiting)) :: imageBytes s d

/-- R82. -/
def Group.dynamic (v : Group) : List Byte :=
  [lowByte v.state.code, indexByte v.foWindow] ++ numberWord (v.foPoint.map (fun p => p.val)) ++
    bytesOfNat 6 v.captured ++ [numberByte v.settle]

/-- R95. -/
def Horn.dynamic (v : Horn) : List Byte := [lowByte v.state.code, v.output, lowByte v.fastCount]

/-- R101; the two fields of each input stand together, input by input (log entry 17). -/
def Element.dynamic (v : Element) : List Byte :=
  let n := match v.defn with
    | some d => d.inputs.length
    | none => 0
  [lowByte v.state.code, boolByte v.state.asserted, boolByte v.forced, lowByte v.pending.code, lowByte v.sum,
   boolByte v.timer.isSome] ++ bytesOfNat 2 (v.timer.getD 0) ++ [lowByte n] ++
    (v.contrib.zip v.held).flatMap (fun x => [boolByte x.1, boolByte x.2])

/-- R125. -/
def outputDynamic (s : State) (k : Fin 8) : List Byte :=
  let v := s.outputModule k
  numberWord v.awaitedSeq ++ [lowByte v.deadline.code, lowByte v.deadline.remaining,
    boolByte (decide (k ∈ s.trip.waiting)), lowByte v.awaited.length] ++
    v.awaited.flatMap (fun p => [lowByte p.1.val, boolByte p.2]) ++ bytesOfNat 2 v.stray ++ bytesOfNat 2 v.malformed

/-- R128. -/
def Channel.dynamic (v : Channel) : List Byte :=
  [lowByte v.state.code, boolByte v.state.asserted, lowByte v.demand, lowByte v.confirmation.code, boolByte v.commanded]

end Sys2Proof.Machine
end

