-- ==== Sys2Proof/Machine/Exchange.lean ====
section
/-! DEFINITION. The command exchange (sections 10.1 and 10.2): answers and replies, the tables, and the reads of entries and states. -/

namespace Sys2Proof.Machine

/-! ### Answers -/

/-- What a command answers: status, reply data, and the state it leaves. -/
structure Answer where
  status : Status
  data : List Byte
  state : State

/-- A refused command changes nothing and carries no data (R172, R173). -/
def refuse (st : Status) (s : State) : Answer := { status := st, data := [], state := s }

/-- An accepted command with no reply data of its own (R173). -/
def accept (s : State) : Answer := { status := .ok, data := [], state := s }

/-- A command that is taken only where no REPLY waits, and with no reply from a source outside 1..239 (R172). -/
def mayTake (src : Byte) (s : State) : Bool := s.reply.isNone && (linkAddress src).isSome

/-- The REPLY of an answered command waits at the port A arbiter (R172). -/
def Answer.replied (src code : Byte) (a : Answer) : State :=
  { a.state with reply := some { dest := src, payload := [code, a.status.code] ++ a.data } }

/-- Take a command: perform or refuse it, then build its REPLY (R172). A command that may not be taken waits, or is discarded, with
no effect here. -/
def takeCommand (code src : Byte) (act : State → Answer) (s : State) : State :=
  if mayTake src s then (act s).replied src code else s

/-! ### Tables (R174) -/

/-- The tables (R174). -/
inductive TableId where
  | settings
  | module
  | point
  | window
  | driver
  | group
  | horn
  | pattern
  | element
  | output
  | channel
deriving DecidableEq, Repr

/-- R174. -/
def TableId.code : TableId → Byte
  | .settings => 0x00
  | .module => 0x01
  | .point => 0x02
  | .window => 0x03
  | .driver => 0x04
  | .group => 0x05
  | .horn => 0x06
  | .pattern => 0x07
  | .element => 0x08
  | .output => 0x09
  | .channel => 0x0A

/-- Every table, by rising identifier. -/
def allTables : List TableId :=
  [.settings, .module, .point, .window, .driver, .group, .horn, .pattern, .element, .output, .channel]

/-- The table of an identifier, or none (R174). -/
def tableOf (b : Byte) : Option TableId := allTables.find? (fun t => decide (t.code = b))

/-- An answer as an entry command's reply: an accepted one begins with the table identifier and the index (R174). -/
def entryReply (t : TableId) (index : BitVec 16) (a : Answer) : Answer :=
  if a.status = .ok then { a with data := [t.code] ++ bytesOfNat 2 index.toNat ++ a.data } else a

/-! ### READ ENTRY and READ STATE (R175) -/

/-- The entry of a table at an index, as READ ENTRY returns it; none above the table's range. -/
def entryAt (t : TableId) (k : Nat) (s : State) : Option (List Byte) :=
  match t with
  | .settings => if k = 0 then some s.settings.entry else none
  | .module => (finOf 16 k).map (fun m => (s.inputModule m).entry)
  | .point => (finOf 1024 k).map (fun p => (s.point p).entry)
  | .window => (finOf 192 k).map (fun w => (s.window w).entry)
  | .driver => (finOf 6 k).map (fun d => driverEntry (s.driver d))
  | .group => (finOf 32 k).map (fun g => (s.group g).entry)
  | .horn => (finOf 4 k).map (fun h => (s.horn h).entry)
  | .pattern => (finOf 4 k).map (fun i => (s.ann.patterns.get i).entry)
  | .element => (finOf 64 k).map (fun e => (s.element e).entry)
  | .output => (finOf 8 k).map (fun m => (s.outputModule m).entry)
  | .channel => (finOf 16 k).map (fun c => (s.channel c).entry)

/-- The dynamic fields of a table at an index, as READ STATE returns them; none above the table's range. -/
def dynamicAt (t : TableId) (k : Nat) (s : State) : Option (List Byte) :=
  match t with
  | .settings => if k = 0 then some s.settings.entry else none
  | .module => (finOf 16 k).map (fun m => (s.inputModule m).dynamic)
  | .point => (finOf 1024 k).map (fun p => (s.point p).dynamic)
  | .window => (finOf 192 k).map (fun w => (s.window w).dynamic)
  | .driver => (finOf 6 k).map (driverDynamic s)
  | .group => (finOf 32 k).map (fun g => (s.group g).dynamic)
  | .horn => (finOf 4 k).map (fun h => (s.horn h).dynamic)
  | .pattern => (finOf 4 k).map (fun i => (s.ann.patterns.get i).entry)
  | .element => (finOf 64 k).map (fun e => (s.element e).dynamic)
  | .output => (finOf 8 k).map (outputDynamic s)
  | .channel => (finOf 16 k).map (fun c => (s.channel c).dynamic)

/-- Answer a read from the bytes found, which act on no state (R174 step 4, R175). -/
def readAnswer (found : Option (List Byte)) (s : State) : Answer :=
  match found with
  | some bs => { status := .ok, data := bs, state := s }
  | none => refuse .range s

/-- READ ENTRY (R174, R175). -/
def readEntry (table : Byte) (index : BitVec 16) (s : State) : Answer :=
  match tableOf table with
  | some t => entryReply t index (readAnswer (entryAt t index.toNat s) s)
  | none => refuse .unknown s

/-- READ STATE (R174, R175). -/
def readState (table : Byte) (index : BitVec 16) (s : State) : Answer :=
  match tableOf table with
  | some t => entryReply t index (readAnswer (dynamicAt t index.toNat s) s)
  | none => refuse .unknown s

/-! ### The rows -/

/-- READ_ENTRY (R175). -/
def execReadEntry (src table : Byte) (index : BitVec 16) (s : State) : Host.Outcome State Fault Refusal :=
  running s (takeCommand 0x01 src (readEntry table index))

/-- READ_STATE (R175). -/
def execReadState (src table : Byte) (index : BitVec 16) (s : State) : Host.Outcome State Fault Refusal :=
  running s (takeCommand 0x04 src (readState table index))

end Sys2Proof.Machine
end

