-- ==== Sys2Proof/Machine/TableWrites.lean ====
section
/-! DEFINITION. WRITE ENTRY and CLEAR ENTRY, table by table: the checks in their order, the first failure deciding the reply, and the
effects. -/

namespace Sys2Proof.Machine

/-! ### References and ordinary sources -/

/-- A window named, where one is, is defined. -/
def windowKnown (s : State) (w : Option (Fin 192)) : Bool :=
  match w with
  | some w => (s.window w).defn.isSome
  | none => true

/-- The point is an ordinary source of the window (R18). -/
def pointNames (s : State) (w : Fin 192) (p : Fin 1024) : Bool :=
  match (s.point p).defn with
  | some d => decide (d.window = some w)
  | none => false

/-- The module is an ordinary source of the window (R18). -/
def moduleNames (s : State) (w : Fin 192) (m : Fin 16) : Bool :=
  match (s.inputModule m).defn with
  | some d => decide (d.window = some w)
  | none => false

/-- The channel is an ordinary source of the window (R18). -/
def channelNames (s : State) (w : Fin 192) (c : Fin 16) : Bool :=
  match (s.channel c).defn with
  | some d => decide (d.window = some w)
  | none => false

/-- The number of ordinary sources of a window (R18). -/
def ordinarySources (s : State) (w : Fin 192) : Nat :=
  (s.definedPoints.filter (pointNames s w)).length + (s.enabledModules.filter (moduleNames s w)).length +
    (s.definedChannels.filter (channelNames s w)).length

/-- The window named has no room for one more ordinary source, where `already` says the entry written is one (R18 step 4). -/
def windowFull (s : State) (already : Fin 192 → Bool) (w : Option (Fin 192)) : Bool :=
  match w with
  | some w => decide (32 ≤ ordinarySources s w) && !already w
  | none => false

/-- An element lists the point, in its active or its pending definition (R21). -/
def elementLists (s : State) (p : Fin 1024) (e : Fin 64) : Bool :=
  (match (s.element e).defn with
    | some d => d.lists p
    | none => false) ||
  (match (s.element e).pending with
    | .definition d => d.lists p
    | _ => false)

/-- An element targets the channel, in its active or its pending definition (R129). -/
def elementTargets (s : State) (c : Fin 16) (e : Fin 64) : Bool :=
  (match (s.element e).defn with
    | some d => d.targets.contains c
    | none => false) ||
  (match (s.element e).pending with
    | .definition d => d.targets.contains c
    | _ => false)

/-! ### SETTINGS (R177) -/

/-- The channels whose confirmation is MISSING, ascending. -/
def missingChannels (s : State) : List (Fin 16) :=
  (Table.keys s.trip.channels).filter (fun c => decide ((s.channel c).confirmation = .missing))

/-- Install the settings record: the marks are judged for both ports, and a change of the system window moves each MISSING channel's
source, channel by channel, clear before activation (R61, R177; log entry 20, DEDUCED). -/
def applySettings (v : Settings) (s : State) : State :=
  let old := s.settings.systemWindow
  let t := judgeFlow .B (judgeFlow .A { s with settings := v })
  if old = v.systemWindow then t
  else State.each (missingChannels t) (fun _ s => activateAt v.systemWindow none (clearAt old s)) t

/-- WRITE ENTRY on SETTINGS (R177). -/
def writeSettings (index : Nat) (entry : List Byte) (s : State) : Answer :=
  if entry.length ≠ 12 then refuse .length s
  else if index ≠ 0 then refuse .range s
  else
    match readSettings entry with
    | none => refuse .range s
    | some v =>
      if s.mode ≠ .configuring ∧ windowKnown s v.systemWindow = false then refuse .range s
      else accept (applySettings v s)

/-- CLEAR ENTRY on SETTINGS: the cold-reset values (R177). -/
def clearSettings (index : Nat) (s : State) : Answer :=
  if index ≠ 0 then refuse .range s else accept (applySettings {} s)

/-! ### MODULE (R27) -/

/-- Another enabled module holds the link address (R27 step 3). -/
def moduleAddressTaken (s : State) (m : Fin 16) (a : Nat) : Bool :=
  s.enabledModules.any (fun j => decide (j ≠ m) &&
    (match (s.inputModule j).defn with
      | some d => decide (d.address = a)
      | none => false))

/-- WRITE ENTRY on MODULE (R27). -/
def writeModule (index : Nat) (entry : List Byte) (s : State) : Answer :=
  if entry.length ≠ 6 then refuse .length s
  else if s.mode ≠ .configuring then refuse .wrongMode s
  else
    match finOf 16 index, readModule entry with
    | some m, some (some d) =>
      if moduleAddressTaken s m d.address then refuse .range s
      else if windowFull s (fun w => moduleNames s w m) d.window then refuse .full s
      else accept (applyModuleWrite m d s)
    | some m, some none => accept (applyModuleClear m s)
    | _, _ => refuse .range s

/-- CLEAR ENTRY on MODULE (R27). -/
def clearModule (index : Nat) (s : State) : Answer :=
  if s.mode ≠ .configuring then refuse .wrongMode s
  else
    match finOf 16 index with
    | some m => accept (applyModuleClear m s)
    | none => refuse .range s

/-! ### POINT (R18 to R21) -/

/-- CLEAR ENTRY on POINT, for a point in range (R21); IN_USE is checked of an undefined point too (log entry 18, DEDUCED). -/
def clearPointAt (p : Fin 1024) (s : State) : Answer :=
  if (List.finRange 64).any (elementLists s p) then refuse .inUse s else accept (applyPointClear p s)

/-- CLEAR ENTRY on POINT (R21). -/
def clearPoint (index : Nat) (s : State) : Answer :=
  match finOf 1024 index with
  | some p => clearPointAt p s
  | none => refuse .range s

/-- The point's module is enabled and its channel is below the module's channel count (R18 step 3, R180 item 1). -/
def pointPlaced (s : State) (p : Fin 1024) : Bool :=
  match (s.inputModule (moduleOf p)).defn with
  | some d => decide (p.val % 64 < d.channels)
  | none => false

/-- WRITE ENTRY on POINT (R18). -/
def writePoint (index : Nat) (entry : List Byte) (s : State) : Answer :=
  if entry.length ≠ 7 then refuse .length s
  else
    match finOf 1024 index, readPoint entry with
    | some p, some (some d) =>
      if s.mode ≠ .configuring ∧ (windowKnown s d.window = false ∨ pointPlaced s p = false) then refuse .range s
      else if windowFull s (fun w => pointNames s w p) d.window then refuse .full s
      else accept (applyPointWrite p d s)
    | some p, some none => clearPointAt p s
    | _, _ => refuse .range s

/-! ### WINDOW (R59, R60) -/

/-- The window is referenced by a point, a module, a channel or the settings record (R59). -/
def windowInUse (s : State) (w : Fin 192) : Bool :=
  s.definedPoints.any (pointNames s w) || s.enabledModules.any (moduleNames s w) ||
    s.definedChannels.any (channelNames s w) || decide (s.settings.systemWindow = some w)

/-- A write of a window that was defined, in RUN or TEST (R60); SLOW to DARK reaches DARK as R68 says (log entry 16, DEDUCED). -/
def rewriteWindow (w : Fin 192) (old d : WindowDef) (s : State) : State :=
  let s1 := if (s.window w).mark ∧ (old.group ≠ d.group ∨ d.eligible = false) then rearm old.group s else s
  let s2 := s1.setWindow w { s1.window w with defn := some d }
  let s3 := if (s2.window w).state = .slow ∧ d.sequence = .autoReset then goDark w s2 else s2
  let s4 := if (s3.window w).state = .fast ∧ old.group ≠ d.group
    then hornEnter (hornOfGroup s3 d.group) (hornExit (hornOfGroup s3 old.group) s3) else s3
  redisplayBoth ((s.group old.group).foWindow.getD w) w s4

/-- An accepted write of a window (R60). -/
def applyWindowWrite (w : Fin 192) (d : WindowDef) (s : State) : State :=
  let v := s.window w
  if s.mode = .configuring then s.setWindow w { v with defn := some d }
  else
    match v.defn with
    | none => redisplay w (s.setWindow w { defn := some d, shown := v.shown })
    | some old => rewriteWindow w old d s

/-- An accepted clear of a window (R60). -/
def applyWindowClear (w : Fin 192) (s : State) : State :=
  let v := s.window w
  match v.defn with
  | none => s
  | some old =>
    if s.mode = .configuring then s.setWindow w { v with defn := none }
    else
      let s1 := if v.mark then rearm old.group s else s
      let s2 := if v.state = .fast then hornExit (hornOfGroup s1 old.group) s1 else s1
      redisplayBoth ((s.group old.group).foWindow.getD w) w
        (s2.setWindow w { s2.window w with defn := none, state := .dark, mark := false })

/-- CLEAR ENTRY on WINDOW, for a window in range (R59). -/
def clearWindowAt (w : Fin 192) (s : State) : Answer :=
  if s.mode ≠ .configuring ∧ windowInUse s w = true then refuse .inUse s else accept (applyWindowClear w s)

/-- CLEAR ENTRY on WINDOW (R59). -/
def clearWindow (index : Nat) (s : State) : Answer :=
  match finOf 192 index with
  | some w => clearWindowAt w s
  | none => refuse .range s

/-- WRITE ENTRY on WINDOW (R59). -/
def writeWindow (index : Nat) (entry : List Byte) (s : State) : Answer :=
  if entry.length ≠ 4 then refuse .length s
  else
    match finOf 192 index, readWindow entry with
    | some w, some (some d) =>
      if s.mode ≠ .configuring ∧ (s.group d.group).defn = none then refuse .range s
      else accept (applyWindowWrite w d s)
    | some w, some none => clearWindowAt w s
    | _, _ => refuse .range s

/-! ### DRIVER (R71) -/

/-- Another driver has the link address (R71). -/
def driverAddressTaken (s : State) (d : Fin 6) (a : Nat) : Bool :=
  (List.finRange 6).any (fun j => decide (j ≠ d) && decide (s.driver j = some a))

/-- A driver leaves the waiting list (R71). -/
def leaveDriver (d : Fin 6) (s : State) : State :=
  { s with ann := { s.ann with waiting := s.ann.waiting.filter (fun j => decide (j ≠ d)) } }

/-- An accepted write or clear of a driver's address (R71); the address held, written again, joins too (log entry 11, DEDUCED). -/
def applyDriver (d : Fin 6) (a : Option Nat) (s : State) : State :=
  match a with
  | some a => joinDriver d (s.setDriver d (some a))
  | none => leaveDriver d (s.setDriver d none)

/-- WRITE ENTRY on DRIVER (R71). -/
def writeDriver (index : Nat) (entry : List Byte) (s : State) : Answer :=
  if entry.length ≠ 1 then refuse .length s
  else
    match finOf 6 index, readDriver entry with
    | some d, some (some a) => if driverAddressTaken s d a then refuse .range s else accept (applyDriver d (some a) s)
    | some d, some none => accept (applyDriver d none s)
    | _, _ => refuse .range s

/-- CLEAR ENTRY on DRIVER (R71). -/
def clearDriver (index : Nat) (s : State) : Answer :=
  match finOf 6 index with
  | some d => accept (applyDriver d none s)
  | none => refuse .range s

/-! ### GROUP (R83, R84) -/

/-- A defined window names the group (R83). -/
def groupInUse (s : State) (g : Fin 32) : Bool := !(windowsOf s g).isEmpty

/-- A window in FAST moves from one horn to another, exit before entry (R84; log entry 19, DEDUCED). -/
def moveHorn (old new : Option (Fin 4)) (w : Fin 192) (s : State) : State :=
  if (s.window w).state = .fast then hornEnter new (hornExit old s) else s

/-- Derive a window's pattern again, where there is one. -/
def redisplayAt (w : Option (Fin 192)) (s : State) : State :=
  match w with
  | some w => redisplay w s
  | none => s

/-- A write of a group that was defined, in RUN or TEST (R84). -/
def rewriteGroup (g : Fin 32) (old d : GroupDef) (s : State) : State :=
  let marked := (s.group g).foWindow
  let s1 := s.setGroup g { s.group g with defn := some d }
  let s2 := if d.firstOut = false ∧ (s1.group g).state ≠ .armed then redisplayAt marked (rearm g s1) else s1
  if old.horn = d.horn then s2 else State.each (windowsOf s2 g) (moveHorn old.horn d.horn) s2

/-- An accepted write of a group (R84). -/
def applyGroupWrite (g : Fin 32) (d : GroupDef) (s : State) : State :=
  match (s.group g).defn with
  | none => s.setGroup g { defn := some d }
  | some old =>
    if s.mode = .configuring then s.setGroup g { s.group g with defn := some d } else rewriteGroup g old d s

/-- CLEAR ENTRY on GROUP, for a group in range (R83, R84). -/
def clearGroupAt (g : Fin 32) (s : State) : Answer :=
  if s.mode ≠ .configuring ∧ groupInUse s g = true then refuse .inUse s else accept (s.setGroup g {})

/-- CLEAR ENTRY on GROUP (R83). -/
def clearGroup (index : Nat) (s : State) : Answer :=
  match finOf 32 index with
  | some g => clearGroupAt g s
  | none => refuse .range s

/-- WRITE ENTRY on GROUP (R83). -/
def writeGroup (index : Nat) (entry : List Byte) (s : State) : Answer :=
  if entry.length ≠ 4 then refuse .length s
  else
    match finOf 32 index, readGroup entry with
    | some g, some (some d) => accept (applyGroupWrite g d s)
    | some g, some none => clearGroupAt g s
    | _, _ => refuse .range s

/-! ### HORN (R95) and PATTERN (R70) -/

/-- Set a horn's sound; a change of the output of a SOUNDING horn puts a PHASE frame on wait (R95; log entry
12, DEDUCED). -/
def applyHorn (h : Fin 4) (v : Sound) (s : State) : State :=
  let t := s.setHorn h { s.horn h with sound := v }
  if (s.horn h).state = .sounding ∧ (s.horn h).sound ≠ v then phaseOnWait t else t

/-- WRITE ENTRY on HORN (R95). -/
def writeHorn (index : Nat) (entry : List Byte) (s : State) : Answer :=
  if entry.length ≠ 1 then refuse .length s
  else
    match finOf 4 index, readHorn entry with
    | some h, some v => accept (applyHorn h v s)
    | _, _ => refuse .range s

/-- CLEAR ENTRY on HORN (R95). -/
def clearHorn (index : Nat) (s : State) : Answer :=
  match finOf 4 index with
  | some h => accept (applyHorn h .continuous s)
  | none => refuse .range s

/-- The cold-reset entry of a pattern (R70). -/
def defaultPattern (i : Fin 4) : PatternEntry := ({} : Annunciator).patterns.get i

/-- Put a pattern entry and a PHASE frame on wait (R70). -/
def applyPattern (i : Fin 4) (v : PatternEntry) (s : State) : State :=
  phaseOnWait { s with ann := { s.ann with patterns := s.ann.patterns.set i v } }

/-- WRITE ENTRY on PATTERN (R70). -/
def writePattern (index : Nat) (entry : List Byte) (s : State) : Answer :=
  if entry.length ≠ 2 then refuse .length s
  else
    match finOf 4 index, readPattern entry with
    | some i, some v => accept (applyPattern i v s)
    | _, _ => refuse .range s

/-- CLEAR ENTRY on PATTERN (R70). -/
def clearPattern (index : Nat) (s : State) : Answer :=
  match finOf 4 index with
  | some i => accept (applyPattern i (defaultPattern i) s)
  | none => refuse .range s

/-! ### ELEMENT (R115, R116) -/

/-- The input points are defined and the targets are defined channels (R115 step 7). -/
def elementKnown (s : State) (d : ElementDef) : Bool :=
  d.inputs.all (fun i => (s.point i.point).defn.isSome) && d.targets.all (fun c => (s.channel c).defn.isSome)

/-- WRITE ENTRY on ELEMENT (R115, R174 step 3). -/
def writeElement (index : Nat) (entry : List Byte) (s : State) : Answer :=
  if entry.length < 1 then refuse .length s
  else if s.frozen then refuse .frozen s
  else
    match finOf 64 index, readElement entry with
    | some e, .define d =>
      if s.mode ≠ .configuring ∧ elementKnown s d = false then refuse .range s else accept (applyElementWrite e d s)
    | some e, .undefine => accept (applyElementClear e s)
    | some _, .refused st => refuse st s
    | none, _ => refuse .range s

/-- CLEAR ENTRY on ELEMENT (R116). -/
def clearElement (index : Nat) (s : State) : Answer :=
  if s.frozen then refuse .frozen s
  else
    match finOf 64 index with
    | some e => accept (applyElementClear e s)
    | none => refuse .range s

/-! ### OUTPUT (R126) -/

/-- Another present output module holds the link address (R126 step 3). -/
def outputAddressTaken (s : State) (k : Fin 8) (a : Option Nat) : Bool :=
  a.isSome && (List.finRange 8).any (fun j => decide (j ≠ k) && decide ((s.outputModule j).address = a))

/-- A channel the module hosts has its output asserted (R126 step 4). -/
def hostsAsserted (s : State) (k : Fin 8) : Bool := (hostedBy s k).any (fun c => (s.channel c).state.asserted)

/-- Forget the awaited sequence and list and stop the deadline (R126). -/
def OutputModule.forget (v : OutputModule) : OutputModule :=
  { v with awaitedSeq := none, awaited := [], deadline := .stopped }

/-- An accepted write of an output module's address and timeout (R126). -/
def applyOutput (k : Fin 8) (address : Option Nat) (timeout : Nat) (s : State) : State :=
  let old := s.outputModule k
  let v := { old with address := address, timeout := timeout }
  if old.address = address then s.setOutputModule k v
  else
    match old.address, address with
    | none, _ => joinTrip k (s.setOutputModule k v)
    | some _, some _ => joinTrip k (s.setOutputModule k v.forget)
    | some _, none =>
      let t := leaveTrip k (s.setOutputModule k v.forget)
      State.each (hostedBy t k) (becomeConfirmed false) t

/-- The checks of R126 that a write and a clear share, and the effect. -/
def changeOutput (k : Fin 8) (address : Option Nat) (timeout : Nat) (s : State) : Answer :=
  if hostsAsserted s k then refuse .stillActive s
  else if s.mode ≠ .configuring ∧ address = none ∧ hostedBy s k ≠ [] then refuse .inUse s
  else accept (applyOutput k address timeout s)

/-- WRITE ENTRY on OUTPUT (R126). -/
def writeOutput (index : Nat) (entry : List Byte) (s : State) : Answer :=
  if entry.length ≠ 2 then refuse .length s
  else if s.frozen then refuse .frozen s
  else
    match finOf 8 index, readOutput entry with
    | some k, some (address, timeout) =>
      if outputAddressTaken s k address then refuse .range s else changeOutput k address timeout s
    | _, _ => refuse .range s

/-- CLEAR ENTRY on OUTPUT: the cold-reset values (R124, R126). -/
def clearOutput (index : Nat) (s : State) : Answer :=
  if s.frozen then refuse .frozen s
  else
    match finOf 8 index with
    | some k => changeOutput k none ({} : OutputModule).timeout s
    | none => refuse .range s

/-! ### CHANNEL (R129, R130) -/

/-- Another defined channel holds the output (R129 step 5). -/
def outputTaken (s : State) (c : Fin 16) (d : ChannelDef) : Bool :=
  s.definedChannels.any (fun j => decide (j ≠ c) &&
    (match (s.channel j).defn with
      | some x => decide (x.outputModule = d.outputModule ∧ x.output = d.output)
      | none => false))

/-- Remove an output from a module's awaited list (R130). -/
def dropAwaited (k : Fin 8) (o : Fin 16) (s : State) : State :=
  s.setOutputModule k { s.outputModule k with
    awaited := (s.outputModule k).awaited.filter (fun p => decide (p.1 ≠ o)) }

/-- A module after a change of the channels it hosts: it joins the waiting list, or leaves it where it hosts none (R130). -/
def settleModule (k : Fin 8) (s : State) : State :=
  if hostedBy s k = [] then leaveTrip k s else joinTrip k s

/-- An accepted write of a channel (R130). -/
def applyChannelWrite (c : Fin 16) (d : ChannelDef) (s : State) : State :=
  match (s.channel c).defn with
  | none => joinTrip d.outputModule (s.setChannel c { defn := some d })
  | some old =>
    let t := s.setChannel c { s.channel c with defn := some d }
    if old.outputModule = d.outputModule ∧ old.output = d.output then t
    else
      joinTrip d.outputModule (settleModule old.outputModule
        (becomeConfirmed false c (dropAwaited old.outputModule old.output t)))

/-- An accepted clear of a channel (R130). -/
def applyChannelClear (c : Fin 16) (s : State) : State :=
  match (s.channel c).defn with
  | none => s
  | some old =>
    let t := becomeConfirmed false c (dropAwaited old.outputModule old.output s)
    settleModule old.outputModule (t.setChannel c {})

/-- CLEAR ENTRY on CHANNEL, after the checks of latch, index and output (R129); IN_USE is checked of an undefined channel too (log
entry 18, DEDUCED). -/
def clearChannelAt (c : Fin 16) (s : State) : Answer :=
  if (List.finRange 64).any (elementTargets s c) then refuse .inUse s else accept (applyChannelClear c s)

/-- WRITE ENTRY on CHANNEL with defined yes, from step 5 of R129. -/
def defineChannel (c : Fin 16) (d : ChannelDef) (s : State) : Answer :=
  if outputTaken s c d then refuse .range s
  else if s.mode ≠ .configuring ∧ ((s.outputModule d.outputModule).address = none ∨ windowKnown s d.window = false) then
    refuse .range s
  else if windowFull s (fun w => channelNames s w c) d.window then refuse .full s
  else accept (applyChannelWrite c d s)

/-- WRITE ENTRY on CHANNEL (R129). -/
def writeChannel (index : Nat) (entry : List Byte) (s : State) : Answer :=
  if entry.length ≠ 5 then refuse .length s
  else if s.frozen then refuse .frozen s
  else
    match finOf 16 index, readChannel entry with
    | some c, some found =>
      if (s.channel c).state.asserted then refuse .stillActive s
      else
        match found with
        | some d => defineChannel c d s
        | none => clearChannelAt c s
    | _, _ => refuse .range s

/-- CLEAR ENTRY on CHANNEL (R129). -/
def clearChannel (index : Nat) (s : State) : Answer :=
  if s.frozen then refuse .frozen s
  else
    match finOf 16 index with
    | some c => if (s.channel c).state.asserted then refuse .stillActive s else clearChannelAt c s
    | none => refuse .range s

/-! ### The rows: WRITE ENTRY has code 02H and CLEAR ENTRY 03H (R173) -/

/-- WRITE_SETTINGS (R177). -/
def execWriteSettings (src : Byte) (index : BitVec 16) (entry : List Byte) (s : State) : Host.Outcome State Fault Refusal :=
  running s (takeCommand 0x02 src (fun s => entryReply .settings index (writeSettings index.toNat entry s)))

/-- CLEAR_SETTINGS (R177). -/
def execClearSettings (src : Byte) (index : BitVec 16) (s : State) : Host.Outcome State Fault Refusal :=
  running s (takeCommand 0x03 src (fun s => entryReply .settings index (clearSettings index.toNat s)))

/-- WRITE_MODULE (R27). -/
def execWriteModule (src : Byte) (index : BitVec 16) (entry : List Byte) (s : State) : Host.Outcome State Fault Refusal :=
  running s (takeCommand 0x02 src (fun s => entryReply .module index (writeModule index.toNat entry s)))

/-- CLEAR_MODULE (R28). -/
def execClearModule (src : Byte) (index : BitVec 16) (s : State) : Host.Outcome State Fault Refusal :=
  running s (takeCommand 0x03 src (fun s => entryReply .module index (clearModule index.toNat s)))

/-- WRITE_POINT (R18). -/
def execWritePoint (src : Byte) (index : BitVec 16) (entry : List Byte) (s : State) : Host.Outcome State Fault Refusal :=
  running s (takeCommand 0x02 src (fun s => entryReply .point index (writePoint index.toNat entry s)))

/-- CLEAR_POINT (R21). -/
def execClearPoint (src : Byte) (index : BitVec 16) (s : State) : Host.Outcome State Fault Refusal :=
  running s (takeCommand 0x03 src (fun s => entryReply .point index (clearPoint index.toNat s)))

/-- WRITE_WINDOW (R59). -/
def execWriteWindow (src : Byte) (index : BitVec 16) (entry : List Byte) (s : State) : Host.Outcome State Fault Refusal :=
  running s (takeCommand 0x02 src (fun s => entryReply .window index (writeWindow index.toNat entry s)))

/-- CLEAR_WINDOW (R59). -/
def execClearWindow (src : Byte) (index : BitVec 16) (s : State) : Host.Outcome State Fault Refusal :=
  running s (takeCommand 0x03 src (fun s => entryReply .window index (clearWindow index.toNat s)))

/-- WRITE_DRIVER (R71). -/
def execWriteDriver (src : Byte) (index : BitVec 16) (entry : List Byte) (s : State) : Host.Outcome State Fault Refusal :=
  running s (takeCommand 0x02 src (fun s => entryReply .driver index (writeDriver index.toNat entry s)))

/-- CLEAR_DRIVER (R71). -/
def execClearDriver (src : Byte) (index : BitVec 16) (s : State) : Host.Outcome State Fault Refusal :=
  running s (takeCommand 0x03 src (fun s => entryReply .driver index (clearDriver index.toNat s)))

/-- WRITE_GROUP (R83). -/
def execWriteGroup (src : Byte) (index : BitVec 16) (entry : List Byte) (s : State) : Host.Outcome State Fault Refusal :=
  running s (takeCommand 0x02 src (fun s => entryReply .group index (writeGroup index.toNat entry s)))

/-- CLEAR_GROUP (R83). -/
def execClearGroup (src : Byte) (index : BitVec 16) (s : State) : Host.Outcome State Fault Refusal :=
  running s (takeCommand 0x03 src (fun s => entryReply .group index (clearGroup index.toNat s)))

/-- WRITE_HORN (R95). -/
def execWriteHorn (src : Byte) (index : BitVec 16) (entry : List Byte) (s : State) : Host.Outcome State Fault Refusal :=
  running s (takeCommand 0x02 src (fun s => entryReply .horn index (writeHorn index.toNat entry s)))

/-- CLEAR_HORN (R95). -/
def execClearHorn (src : Byte) (index : BitVec 16) (s : State) : Host.Outcome State Fault Refusal :=
  running s (takeCommand 0x03 src (fun s => entryReply .horn index (clearHorn index.toNat s)))

/-- WRITE_PATTERN (R70). -/
def execWritePattern (src : Byte) (index : BitVec 16) (entry : List Byte) (s : State) : Host.Outcome State Fault Refusal :=
  running s (takeCommand 0x02 src (fun s => entryReply .pattern index (writePattern index.toNat entry s)))

/-- CLEAR_PATTERN (R70). -/
def execClearPattern (src : Byte) (index : BitVec 16) (s : State) : Host.Outcome State Fault Refusal :=
  running s (takeCommand 0x03 src (fun s => entryReply .pattern index (clearPattern index.toNat s)))

/-- WRITE_ELEMENT (R115). -/
def execWriteElement (src : Byte) (index : BitVec 16) (entry : List Byte) (s : State) : Host.Outcome State Fault Refusal :=
  running s (takeCommand 0x02 src (fun s => entryReply .element index (writeElement index.toNat entry s)))

/-- CLEAR_ELEMENT (R116). -/
def execClearElement (src : Byte) (index : BitVec 16) (s : State) : Host.Outcome State Fault Refusal :=
  running s (takeCommand 0x03 src (fun s => entryReply .element index (clearElement index.toNat s)))

/-- WRITE_OUTPUT (R126). -/
def execWriteOutput (src : Byte) (index : BitVec 16) (entry : List Byte) (s : State) : Host.Outcome State Fault Refusal :=
  running s (takeCommand 0x02 src (fun s => entryReply .output index (writeOutput index.toNat entry s)))

/-- CLEAR_OUTPUT (R126). -/
def execClearOutput (src : Byte) (index : BitVec 16) (s : State) : Host.Outcome State Fault Refusal :=
  running s (takeCommand 0x03 src (fun s => entryReply .output index (clearOutput index.toNat s)))

/-- WRITE_CHANNEL (R129). -/
def execWriteChannel (src : Byte) (index : BitVec 16) (entry : List Byte) (s : State) : Host.Outcome State Fault Refusal :=
  running s (takeCommand 0x02 src (fun s => entryReply .channel index (writeChannel index.toNat entry s)))

/-- CLEAR_CHANNEL (R129). -/
def execClearChannel (src : Byte) (index : BitVec 16) (s : State) : Host.Outcome State Fault Refusal :=
  running s (takeCommand 0x03 src (fun s => entryReply .channel index (clearChannel index.toNat s)))

end Sys2Proof.Machine
end

