-- ==== Sys2Proof/Machine/Modes.lean ====
section
/-! DEFINITION. Operating modes (section 10.5), the freeze latch (section 10.6) and the annunciation restart (section 10.7). -/

namespace Sys2Proof.Machine

/-! ### The consistency check (R180) -/

/-- A window is named and undefined. -/
def namesUnknown (s : State) (w : Option (Fin 192)) : Bool := !windowKnown s w

/-- A target is not a defined channel, or a channel whose output module has no link address (R180 item 3). -/
def targetBroken (s : State) (c : Fin 16) : Bool :=
  match (s.channel c).defn with
  | some d => decide ((s.outputModule d.outputModule).address = none)
  | none => true

/-- The first index of a list that fails an item, with its table (R180). -/
def firstFailure {n : Nat} (t : TableId) (is : List (Fin n)) (fails : Fin n → Bool) : Option (TableId × Nat) :=
  (is.find? fails).map (fun i => (t, i.val))

/-- A defined element fails a test of its active definition. -/
def elementFails (s : State) (f : ElementDef → Bool) (e : Fin 64) : Bool :=
  match (s.element e).defn with
  | some d => f d
  | none => false

/-- A defined point names an undefined window (R180 item 5). -/
def pointWindowBroken (s : State) (p : Fin 1024) : Bool :=
  match (s.point p).defn with
  | some d => namesUnknown s d.window
  | none => false

/-- An enabled module names an undefined window (R180 item 6). -/
def moduleWindowBroken (s : State) (m : Fin 16) : Bool :=
  match (s.inputModule m).defn with
  | some d => namesUnknown s d.window
  | none => false

/-- A defined channel names an undefined window (R180 item 7). -/
def channelWindowBroken (s : State) (c : Fin 16) : Bool :=
  match (s.channel c).defn with
  | some d => namesUnknown s d.window
  | none => false

/-- A defined window names an undefined group (R180 item 9). -/
def windowGroupBroken (s : State) (w : Fin 192) : Bool :=
  match (s.window w).defn with
  | some d => decide ((s.group d.group).defn = none)
  | none => false

/-- The nine items of the consistency check, in order; the first failure is the one reported (R180). -/
def consistencyFailures (s : State) : List (Option (TableId × Nat)) :=
  [ firstFailure .point s.definedPoints (fun p => !pointPlaced s p),
    firstFailure .element s.definedElements
      (elementFails s (fun d => d.inputs.any (fun i => (s.point i.point).defn.isNone))),
    firstFailure .element s.definedElements (elementFails s (fun d => d.targets.any (targetBroken s))),
    firstFailure .channel s.definedChannels (targetBroken s),
    firstFailure .point s.definedPoints (pointWindowBroken s),
    firstFailure .module s.enabledModules (moduleWindowBroken s),
    firstFailure .channel s.definedChannels (channelWindowBroken s),
    (if namesUnknown s s.settings.systemWindow then some (.settings, 0) else none),
    firstFailure .window s.definedWindows (windowGroupBroken s) ]

/-- The table and index that the consistency check reports, or none where it passes (R180). -/
def consistencyFailure (s : State) : Option (TableId × Nat) :=
  (consistencyFailures s).findSome? (fun x => x)

/-! ### The changes of mode (R181 to R183) -/

/-- The MODE_CHANGE record of a change to mode `m` (R152). -/
def offerModeChange (m : Mode) (s : State) : State := offerNow .modeChange .trip noSubject m.code 0 s

/-- Drivers that join the waiting list at a mode entry join in ascending number, after those already there (R72; log entry 21,
DEDUCED). -/
def joinAscending (before : List (Fin 6)) (s : State) : State :=
  let joined := (List.finRange 6).filter (fun d => decide (d ∈ s.ann.waiting ∧ d ∉ before))
  { s with ann := { s.ann with waiting := before ++ joined } }

/-- CONFIGURING to RUN (R181); the blocks of its third step in the order in which it lists them (log entry 8, DESIGN CHOICE). -/
def enterRun (s : State) : State :=
  let t := queueOverflow (offerModeChange .run { s with mode := .run })
  joinAscending s.ann.waiting (judgeLines (elementsToRun (modulesToRun (annEnterRun (pointsToRun t)))))

/-- RUN to TEST (R182, R142). -/
def enterTest (s : State) : State :=
  joinTripAll (judgeLines (offerModeChange .test { s with mode := .test }))

/-- TEST to RUN (R182, R120, R143). -/
def leaveTest (s : State) : State :=
  joinAscending s.ann.waiting (exitTest (clearForces (offerModeChange .run { s with mode := .run })))

/-- RUN or TEST to CONFIGURING (R183). -/
def enterConfiguring (s : State) : State :=
  let t := { offerModeChange .configuring s with mode := .configuring }
  joinAscending s.ann.waiting (judgeLines (elementsToConfiguring (annEnterConfiguring (pointsToConfiguring t))))

/-- SET MODE with code 01H (R179, R180). -/
def setModeRun (s : State) : Answer :=
  match s.mode with
  | .run => accept s
  | .test => accept (leaveTest s)
  | .configuring =>
    match consistencyFailure s with
    | some (t, k) => { status := .inconsistent, data := [t.code] ++ bytesOfNat 2 k, state := s }
    | none => accept (enterRun s)

/-- SET MODE with code 02H (R179). -/
def setModeTest (s : State) : Answer :=
  match s.mode with
  | .test => accept s
  | .configuring => refuse .wrongMode s
  | .run => if anyAsserted s then refuse .stillActive s else accept (enterTest s)

/-- SET MODE with code 00H (R179). -/
def setModeConfiguring (s : State) : Answer :=
  if s.mode = .configuring then accept s
  else if s.frozen then refuse .frozen s
  else if anyAsserted s then refuse .stillActive s
  else accept (enterConfiguring s)

/-! ### The freeze latch (R184) and the restart (R185) -/

/-- An element holds a pending definition or a pending clear (R184). -/
def anyPending (s : State) : Bool :=
  (List.finRange 64).any (fun e => decide ((s.element e).pending ≠ .none))

/-- FREEZE MATRIX (R184). -/
def freezeMatrix (s : State) : Answer :=
  if s.mode = .configuring then refuse .wrongMode s
  else if anyPending s then refuse .pending s
  else accept { s with frozen := true }

/-- The annunciation restart (R185). -/
def restartAnnunciation (s : State) : State :=
  annRestart (pointsRestart (offerNow .restart .alarm noSubject 0 0 s))

/-- ANNUNCIATION RESTART (R185). -/
def annunciationRestart (s : State) : Answer :=
  if s.mode = .configuring then refuse .wrongMode s else accept (restartAnnunciation s)

/-! ### The rows -/

/-- SET_MODE_RUN (R181). -/
def execSetModeRun (src : Byte) (s : State) : Host.Outcome State Fault Refusal :=
  running s (takeCommand 0x10 src setModeRun)

/-- SET_MODE_TEST (R182). -/
def execSetModeTest (src : Byte) (s : State) : Host.Outcome State Fault Refusal :=
  running s (takeCommand 0x10 src setModeTest)

/-- SET_MODE_CONFIGURING (R183). -/
def execSetModeConfiguring (src : Byte) (s : State) : Host.Outcome State Fault Refusal :=
  running s (takeCommand 0x10 src setModeConfiguring)

/-- FREEZE_MATRIX (R184). -/
def execFreezeMatrix (src : Byte) (s : State) : Host.Outcome State Fault Refusal :=
  running s (takeCommand 0x11 src freezeMatrix)

/-- ANNUNCIATION_RESTART (R185). -/
def execAnnunciationRestart (src : Byte) (s : State) : Host.Outcome State Fault Refusal :=
  running s (takeCommand 0x12 src annunciationRestart)

end Sys2Proof.Machine
end

