-- ==== Sys2Proof/WellFormed.lean ====
section
/-! DEFINITION. Which commands can stand in the queue as they are: the characters of a reception end it as the row says, a payload
fits a frame, and a row that names its command carries that command. -/

namespace Sys2Proof

/-- The characters complete a frame at the last one (R160). -/
def Instr.completes (cs : List RxChar) : Bool :=
  match Machine.deframe cs with
  | some (.completed _ _) => true
  | _ => false

/-- The characters abandon a frame at the last one (R160). -/
def Instr.abandons (cs : List RxChar) : Bool :=
  match Machine.deframe cs with
  | some .abandonedByLength => true
  | some .abandonedBySof => true
  | _ => false

/-- A CMD payload that is no listed command's: empty, or an unlisted code (R173). -/
def Instr.unknownPayload : List Byte → Bool
  | [] => true
  | code :: _ => !(Machine.commandCodes.contains code)

/-- The definition bytes of a WRITE ENTRY fit its frame: code, table and index take four of at most 200 payload bytes (R161). -/
def Instr.entryFits (entry : List Byte) : Bool := decide (entry.length ≤ 196)

/-- The operands that a row can carry. -/
def Instr.wellFormed : Instr → Bool
  | .frameReceived _ cs => Instr.completes cs
  | .frameAbandoned _ cs => Instr.abandons cs
  | .timeFrame _ _ _ payload => decide (payload.length ≤ 200)
  | .scanFrame => true
  | .cmdUnknown _ payload => Instr.unknownPayload payload && decide (payload.length ≤ 200)
  | .writeSettings _ _ entry => Instr.entryFits entry
  | .writeModule _ _ entry => Instr.entryFits entry
  | .writePoint _ _ entry => Instr.entryFits entry
  | .writeWindow _ _ entry => Instr.entryFits entry
  | .writeDriver _ _ entry => Instr.entryFits entry
  | .writeGroup _ _ entry => Instr.entryFits entry
  | .writeHorn _ _ entry => Instr.entryFits entry
  | .writePattern _ _ entry => Instr.entryFits entry
  | .writeElement _ _ entry => Instr.entryFits entry
  | .writeOutput _ _ entry => Instr.entryFits entry
  | .writeChannel _ _ entry => Instr.entryFits entry
  | .coldReset _ _ _ => true
  | .localTick => true
  | .pauseReceived _ => true
  | .resumeReceived _ => true
  | .pauseSelfResumeExpiry _ => true
  | .controlByteSent _ => true
  | .transmitEnd _ => true
  | .tripHandover => true
  | .phaseHandover => true
  | .windowHandover => true
  | .passThroughHandover _ => true
  | .eventHandover => true
  | .replyHandover => true
  | .syncSupervisionExpiry => true
  | .moduleSupervisionExpiry _ => true
  | .chatterDecayExpiry => true
  | .settleExpiry _ => true
  | .windowRefreshExpiry => true
  | .phaseIntervalExpiry => true
  | .lampTestLimitExpiry => true
  | .elementDelayExpiry _ => true
  | .confirmDeadlineExpiry _ => true
  | .tripRefreshExpiry => true
  | .batchTimerExpiry => true
  | .confirmFrame => true
  | .buttonAck => true
  | .buttonReset => true
  | .buttonSilence => true
  | .buttonTestOn => true
  | .buttonTestOff => true
  | .buttonIgnored => true
  | .cmdFrame => true
  | .readEntry _ _ _ => true
  | .readState _ _ _ => true
  | .clearSettings _ _ => true
  | .clearModule _ _ => true
  | .clearPoint _ _ => true
  | .clearWindow _ _ => true
  | .clearDriver _ _ => true
  | .clearGroup _ _ => true
  | .clearHorn _ _ => true
  | .clearPattern _ _ => true
  | .clearElement _ _ => true
  | .clearOutput _ _ => true
  | .clearChannel _ _ => true
  | .setModeRun _ => true
  | .setModeTest _ => true
  | .setModeConfiguring _ => true
  | .freezeMatrix _ => true
  | .annunciationRestart _ => true
  | .groupAck _ _ => true
  | .groupReset _ _ => true
  | .hornSilence _ _ => true
  | .lampTestOn _ => true
  | .lampTestOff _ => true
  | .lockoutReset _ _ => true
  | .forceElementOn _ _ => true
  | .forceElementOff _ _ => true
  | .readStatus _ _ => true
  | .sofReceived _ => true
  | .resetnHeldLow => true

end Sys2Proof
end

