-- ==== Sys2Proof/Machine/Requests.lean ====
section
/-! DEFINITION. The remaining commands (R94, R119, R133, R178) and the taking of CMD frames from the receive buffer (R172 to R174). -/

namespace Sys2Proof.Machine

/-! ### Annunciation commands (R94) -/

/-- GROUP ACK (R94). -/
def groupAck (group : Byte) (s : State) : Answer :=
  match s.definedGroup group with
  | some g => accept (ackGroup g 1 s)
  | none => refuse .range s

/-- GROUP RESET (R94). -/
def groupReset (group : Byte) (s : State) : Answer :=
  match s.definedGroup group with
  | some g => accept (resetGroup g s)
  | none => refuse .range s

/-- HORN SILENCE (R94). -/
def hornSilence (horn : Byte) (s : State) : Answer :=
  match hornNumber horn with
  | some h => accept (silenceHorn h s)
  | none => refuse .range s

/-- LAMP TEST with 01H (R94). -/
def lampTestOn (s : State) : Answer := accept (lampOn s)

/-- LAMP TEST with 00H (R94). -/
def lampTestOff (s : State) : Answer := accept (lampOff s)

/-! ### LOCKOUT RESET (R133) and FORCE ELEMENT (R119) -/

/-- LOCKOUT RESET of a defined channel, by its state (R132, R133). -/
def resetLockout (c : Fin 16) (s : State) : Answer :=
  match (s.channel c).state with
  | .normal => accept s
  | .tripped => refuse .stillActive s
  | .locked =>
    accept (outputChanged c false (channelRecord .channelNormal c (s.setChannel c { s.channel c with state := .normal })))

/-- LOCKOUT RESET (R133). -/
def lockoutReset (channel : Byte) (s : State) : Answer :=
  match finOf 16 channel.toNat with
  | some c => if (s.channel c).defn = none then refuse .range s else resetLockout c s
  | none => refuse .range s

/-- FORCE ELEMENT (R119). -/
def forceCommand (on : Bool) (element : Byte) (s : State) : Answer :=
  if s.mode ≠ .test then refuse .wrongMode s
  else
    match finOf 64 element.toNat with
    | some e => if (s.element e).defn = none then refuse .range s else accept (forceElement .moves on e s)
    | none => refuse .range s

/-! ### READ STATUS (R178) -/

/-- A port's four error counters, two bytes each (R178). -/
def PortState.counterBytes (p : PortState) : List Byte :=
  bytesOfNat 2 p.charErrors ++ bytesOfNat 2 p.crcErrors ++ bytesOfNat 2 p.lengthErrors ++ bytesOfNat 2 p.overruns

/-- The 55 bytes of READ STATUS (R178). -/
def statusBytes (s : State) : List Byte :=
  [lowByte s.mode.code, boolByte s.frozen, lowByte s.time.quality.code] ++ bytesOfNat 6 s.time.station ++
    bytesOfNat 2 s.events.records.length ++ bytesOfNat 2 s.events.dropped ++
    (List.finRange 16).map (fun m => lowByte (s.inputModule m).state.code) ++
    [boolByte s.trip.bkt0, boolByte s.trip.bkt1, lowByte s.portA.buf.length, lowByte s.portB.buf.length] ++
    s.portA.counterBytes ++ bytesOfNat 2 s.unknownSource ++
    s.portB.counterBytes ++ bytesOfNat 2 s.ignoredButtons ++ bytesOfNat 2 s.unknownConfirms

/-- A port's error counters at 0. -/
def PortState.cleared (p : PortState) : PortState :=
  { p with charErrors := 0, crcErrors := 0, lengthErrors := 0, overruns := 0 }

/-- The eleven counts of READ STATUS set to 0 (R171, R178). -/
def clearCounters (s : State) : State :=
  { s with portA := s.portA.cleared, portB := s.portB.cleared, unknownSource := 0, ignoredButtons := 0,
           unknownConfirms := 0 }

/-- READ STATUS (R178). -/
def readStatus (flag : Byte) (s : State) : Answer :=
  if flag = 0 then { status := .ok, data := statusBytes s, state := s }
  else if flag = 1 then { status := .ok, data := statusBytes s, state := clearCounters s }
  else refuse .range s

/-! ### Commands by code (R173, R174) -/

/-- WRITE ENTRY by table (R174). -/
def writeEntry (t : TableId) (index : Nat) (entry : List Byte) (s : State) : Answer :=
  match t with
  | .settings => writeSettings index entry s
  | .module => writeModule index entry s
  | .point => writePoint index entry s
  | .window => writeWindow index entry s
  | .driver => writeDriver index entry s
  | .group => writeGroup index entry s
  | .horn => writeHorn index entry s
  | .pattern => writePattern index entry s
  | .element => writeElement index entry s
  | .output => writeOutput index entry s
  | .channel => writeChannel index entry s

/-- CLEAR ENTRY by table (R174). -/
def clearEntry (t : TableId) (index : Nat) (s : State) : Answer :=
  match t with
  | .settings => clearSettings index s
  | .module => clearModule index s
  | .point => clearPoint index s
  | .window => clearWindow index s
  | .driver => clearDriver index s
  | .group => clearGroup index s
  | .horn => clearHorn index s
  | .pattern => clearPattern index s
  | .element => clearElement index s
  | .output => clearOutput index s
  | .channel => clearChannel index s

/-- One of the four entry commands, its parameters split into table, index and rest (R174 steps 1 to 3). -/
def entryCommand (params : List Byte) (act : TableId → BitVec 16 → List Byte → State → Answer) (s : State) : Answer :=
  match params with
  | t :: i1 :: i0 :: rest =>
    match tableOf t with
    | some table => act table (i1 ++ i0) rest s
    | none => refuse .unknown s
  | _ => refuse .length s

/-- An entry command that carries nothing after the index (R174 step 3). -/
def bareEntry (act : TableId → BitVec 16 → State → Answer) (t : TableId) (index : BitVec 16) (rest : List Byte) (s : State) :
    Answer :=
  if rest.isEmpty then entryReply t index (act t index s) else refuse .length s

/-- A command of no parameter bytes (R173). -/
def bareCommand (params : List Byte) (act : State → Answer) (s : State) : Answer :=
  if params.isEmpty then act s else refuse .length s

/-- A command of one parameter byte (R173). -/
def byteCommand (params : List Byte) (act : Byte → State → Answer) (s : State) : Answer :=
  match params with
  | [b] => act b s
  | _ => refuse .length s

/-- SET MODE by its code (R179). -/
def setMode (code : Byte) (s : State) : Answer :=
  if code = 0 then setModeConfiguring s else if code = 1 then setModeRun s else if code = 2 then setModeTest s
  else refuse .range s

/-- LAMP TEST by its parameter (R94). -/
def lampTest (b : Byte) (s : State) : Answer :=
  if b = 0 then lampTestOff s else if b = 1 then lampTestOn s else refuse .range s

/-- FORCE ELEMENT by its parameters; a wrong length is LENGTH, a wrong mode is found before a wrong force value (R119). -/
def forceParams (params : List Byte) (s : State) : Answer :=
  match params with
  | [e, v] =>
    if v = 0 then forceCommand false e s else if v = 1 then forceCommand true e s
    else if s.mode ≠ .test then refuse .wrongMode s else refuse .range s
  | _ => refuse .length s

/-- Perform a command by its code; an unlisted code is UNKNOWN (R173). -/
def performCode (code : Byte) (params : List Byte) (s : State) : Answer :=
  if code = 0x01 then entryCommand params (bareEntry (fun t i s => readAnswer (entryAt t i.toNat s) s)) s
  else if code = 0x02 then entryCommand params (fun t i e s => entryReply t i (writeEntry t i.toNat e s)) s
  else if code = 0x03 then entryCommand params (bareEntry (fun t i s => clearEntry t i.toNat s)) s
  else if code = 0x04 then entryCommand params (bareEntry (fun t i s => readAnswer (dynamicAt t i.toNat s) s)) s
  else if code = 0x10 then byteCommand params setMode s
  else if code = 0x11 then bareCommand params freezeMatrix s
  else if code = 0x12 then bareCommand params annunciationRestart s
  else if code = 0x20 then byteCommand params groupAck s
  else if code = 0x21 then byteCommand params groupReset s
  else if code = 0x22 then byteCommand params hornSilence s
  else if code = 0x23 then byteCommand params lampTest s
  else if code = 0x30 then byteCommand params lockoutReset s
  else if code = 0x31 then forceParams params s
  else if code = 0x40 then byteCommand params readStatus s
  else refuse .unknown s

/-- Perform the command of a CMD payload; an empty payload is LENGTH (R172). -/
def performPayload (payload : List Byte) (s : State) : Answer :=
  match payload with
  | code :: params => performCode code params s
  | [] => refuse .length s

/-- The command code of a REPLY: the code as received, or 00H for an empty payload (R172). -/
def replyCode (payload : List Byte) : Byte := payload.headD 0

/-! ### Taking a CMD frame (R172) -/

/-- CMD_FRAME: the next CMD frame of the port A buffer, once no REPLY waits; it gives up its place when its REPLY has been built, or
when it is discarded for its source (R172, R165). -/
def cmdFrame (s : State) : State :=
  match s.nextOwned .A kindCmd with
  | some h =>
    if s.reply.isSome then s
    else
      givePlace .A (Held.owned kindCmd)
        (takeCommand (replyCode h.frame.payload) h.frame.src (performPayload h.frame.payload) s)
  | none => s

/-- CMD_UNKNOWN: a command whose payload is empty or whose code is not listed (R173); no row for any other payload (log entry 5). -/
def cmdUnknown (src : Byte) (payload : List Byte) (s : State) : State :=
  if Instr.unknownPayload payload then takeCommand (replyCode payload) src (performPayload payload) s else s

/-! ### The rows -/

/-- CMD_FRAME (R172). -/
def execCmdFrame (s : State) : Host.Outcome State Fault Refusal :=
  running s cmdFrame

/-- CMD_UNKNOWN (R173). -/
def execCmdUnknown (src : Byte) (payload : List Byte) (s : State) : Host.Outcome State Fault Refusal :=
  running s (cmdUnknown src payload)

/-- GROUP_ACK (R94). -/
def execGroupAck (src group : Byte) (s : State) : Host.Outcome State Fault Refusal :=
  running s (takeCommand 0x20 src (groupAck group))

/-- GROUP_RESET (R94). -/
def execGroupReset (src group : Byte) (s : State) : Host.Outcome State Fault Refusal :=
  running s (takeCommand 0x21 src (groupReset group))

/-- HORN_SILENCE (R94). -/
def execHornSilence (src horn : Byte) (s : State) : Host.Outcome State Fault Refusal :=
  running s (takeCommand 0x22 src (hornSilence horn))

/-- LAMP_TEST_ON (R94). -/
def execLampTestOn (src : Byte) (s : State) : Host.Outcome State Fault Refusal :=
  running s (takeCommand 0x23 src lampTestOn)

/-- LAMP_TEST_OFF (R94). -/
def execLampTestOff (src : Byte) (s : State) : Host.Outcome State Fault Refusal :=
  running s (takeCommand 0x23 src lampTestOff)

/-- LOCKOUT_RESET (R133). -/
def execLockoutReset (src channel : Byte) (s : State) : Host.Outcome State Fault Refusal :=
  running s (takeCommand 0x30 src (lockoutReset channel))

/-- FORCE_ELEMENT_ON (R119). -/
def execForceElementOn (src element : Byte) (s : State) : Host.Outcome State Fault Refusal :=
  running s (takeCommand 0x31 src (forceCommand true element))

/-- FORCE_ELEMENT_OFF (R119). -/
def execForceElementOff (src element : Byte) (s : State) : Host.Outcome State Fault Refusal :=
  running s (takeCommand 0x31 src (forceCommand false element))

/-- READ_STATUS (R178). -/
def execReadStatus (src flag : Byte) (s : State) : Host.Outcome State Fault Refusal :=
  running s (takeCommand 0x40 src (readStatus flag))

end Sys2Proof.Machine
end

