-- ==== Sys2Proof/Machine/Dispatch.lean ====
section
/-! DEFINITION. One arm per command: the direct call of its meaning. -/

namespace Sys2Proof.Machine

def exec (i : Instr) (s : State) : Host.Outcome State Fault Refusal :=
  match i with
  | .coldReset ads rsa rsb => Sys2Proof.Machine.execColdReset ads rsa rsb s
  | .localTick => Sys2Proof.Machine.execLocalTick s
  | .frameReceived port chars => Sys2Proof.Machine.execFrameReceived port chars s
  | .frameAbandoned port chars => Sys2Proof.Machine.execFrameAbandoned port chars s
  | .pauseReceived port => Sys2Proof.Machine.execPauseReceived port s
  | .resumeReceived port => Sys2Proof.Machine.execResumeReceived port s
  | .pauseSelfResumeExpiry port => Sys2Proof.Machine.execPauseSelfResumeExpiry port s
  | .controlByteSent port => Sys2Proof.Machine.execControlByteSent port s
  | .transmitEnd port => Sys2Proof.Machine.execTransmitEnd port s
  | .tripHandover => Sys2Proof.Machine.execTripHandover s
  | .phaseHandover => Sys2Proof.Machine.execPhaseHandover s
  | .windowHandover => Sys2Proof.Machine.execWindowHandover s
  | .passThroughHandover port => Sys2Proof.Machine.execPassThroughHandover port s
  | .eventHandover => Sys2Proof.Machine.execEventHandover s
  | .replyHandover => Sys2Proof.Machine.execReplyHandover s
  | .scanFrame => Sys2Proof.Machine.execScanFrame s
  | .timeFrame dest src seq payload => Sys2Proof.Machine.execTimeFrame dest src seq payload s
  | .syncSupervisionExpiry => Sys2Proof.Machine.execSyncSupervisionExpiry s
  | .moduleSupervisionExpiry m => Sys2Proof.Machine.execModuleSupervisionExpiry m s
  | .chatterDecayExpiry => Sys2Proof.Machine.execChatterDecayExpiry s
  | .settleExpiry g => Sys2Proof.Machine.execSettleExpiry g s
  | .windowRefreshExpiry => Sys2Proof.Machine.execWindowRefreshExpiry s
  | .phaseIntervalExpiry => Sys2Proof.Machine.execPhaseIntervalExpiry s
  | .lampTestLimitExpiry => Sys2Proof.Machine.execLampTestLimitExpiry s
  | .elementDelayExpiry e => Sys2Proof.Machine.execElementDelayExpiry e s
  | .confirmDeadlineExpiry k => Sys2Proof.Machine.execConfirmDeadlineExpiry k s
  | .tripRefreshExpiry => Sys2Proof.Machine.execTripRefreshExpiry s
  | .batchTimerExpiry => Sys2Proof.Machine.execBatchTimerExpiry s
  | .confirmFrame => Sys2Proof.Machine.execConfirmFrame s
  | .buttonAck => Sys2Proof.Machine.execButtonAck s
  | .buttonReset => Sys2Proof.Machine.execButtonReset s
  | .buttonSilence => Sys2Proof.Machine.execButtonSilence s
  | .buttonTestOn => Sys2Proof.Machine.execButtonTestOn s
  | .buttonTestOff => Sys2Proof.Machine.execButtonTestOff s
  | .buttonIgnored => Sys2Proof.Machine.execButtonIgnored s
  | .cmdFrame => Sys2Proof.Machine.execCmdFrame s
  | .cmdUnknown src payload => Sys2Proof.Machine.execCmdUnknown src payload s
  | .readEntry src table index => Sys2Proof.Machine.execReadEntry src table index s
  | .readState src table index => Sys2Proof.Machine.execReadState src table index s
  | .writeSettings src index entry => Sys2Proof.Machine.execWriteSettings src index entry s
  | .clearSettings src index => Sys2Proof.Machine.execClearSettings src index s
  | .writeModule src index entry => Sys2Proof.Machine.execWriteModule src index entry s
  | .clearModule src index => Sys2Proof.Machine.execClearModule src index s
  | .writePoint src index entry => Sys2Proof.Machine.execWritePoint src index entry s
  | .clearPoint src index => Sys2Proof.Machine.execClearPoint src index s
  | .writeWindow src index entry => Sys2Proof.Machine.execWriteWindow src index entry s
  | .clearWindow src index => Sys2Proof.Machine.execClearWindow src index s
  | .writeDriver src index entry => Sys2Proof.Machine.execWriteDriver src index entry s
  | .clearDriver src index => Sys2Proof.Machine.execClearDriver src index s
  | .writeGroup src index entry => Sys2Proof.Machine.execWriteGroup src index entry s
  | .clearGroup src index => Sys2Proof.Machine.execClearGroup src index s
  | .writeHorn src index entry => Sys2Proof.Machine.execWriteHorn src index entry s
  | .clearHorn src index => Sys2Proof.Machine.execClearHorn src index s
  | .writePattern src index entry => Sys2Proof.Machine.execWritePattern src index entry s
  | .clearPattern src index => Sys2Proof.Machine.execClearPattern src index s
  | .writeElement src index entry => Sys2Proof.Machine.execWriteElement src index entry s
  | .clearElement src index => Sys2Proof.Machine.execClearElement src index s
  | .writeOutput src index entry => Sys2Proof.Machine.execWriteOutput src index entry s
  | .clearOutput src index => Sys2Proof.Machine.execClearOutput src index s
  | .writeChannel src index entry => Sys2Proof.Machine.execWriteChannel src index entry s
  | .clearChannel src index => Sys2Proof.Machine.execClearChannel src index s
  | .setModeRun src => Sys2Proof.Machine.execSetModeRun src s
  | .setModeTest src => Sys2Proof.Machine.execSetModeTest src s
  | .setModeConfiguring src => Sys2Proof.Machine.execSetModeConfiguring src s
  | .freezeMatrix src => Sys2Proof.Machine.execFreezeMatrix src s
  | .annunciationRestart src => Sys2Proof.Machine.execAnnunciationRestart src s
  | .groupAck src group => Sys2Proof.Machine.execGroupAck src group s
  | .groupReset src group => Sys2Proof.Machine.execGroupReset src group s
  | .hornSilence src horn => Sys2Proof.Machine.execHornSilence src horn s
  | .lampTestOn src => Sys2Proof.Machine.execLampTestOn src s
  | .lampTestOff src => Sys2Proof.Machine.execLampTestOff src s
  | .lockoutReset src channel => Sys2Proof.Machine.execLockoutReset src channel s
  | .forceElementOn src element => Sys2Proof.Machine.execForceElementOn src element s
  | .forceElementOff src element => Sys2Proof.Machine.execForceElementOff src element s
  | .readStatus src flag => Sys2Proof.Machine.execReadStatus src flag s
  | .sofReceived port => Sys2Proof.Machine.execSofReceived port s
  | .resetnHeldLow => Sys2Proof.Machine.execResetnHeldLow s

end Sys2Proof.Machine
end

