-- ==== Sys2Proof/Safety.lean ====
section
/-! DEFINITION. The terms in which statements are made: what a step leaves unchanged, which definitions are in range, and the
invariants of the part. -/

namespace Sys2Proof.Machine

/-! ### Commands -/

/-- A command of this source can be taken: RESETN is high, no REPLY waits, and the source is 1..239 (R172, R186). -/
def State.ready (s : State) (src : Byte) : Prop :=
  s.resetLow = false ∧ s.reply = none ∧ 1 ≤ src.toNat ∧ src.toNat ≤ 239

/-- The state with a REPLY of this payload on wait for `src` (R172). -/
def State.answered (s : State) (src : Byte) (payload : List Byte) : State :=
  { s with reply := some { dest := src, payload := payload } }

/-- The REPLY that a refused command leaves on wait: its code and the status, with no data (R172, R173). -/
def State.refused (s : State) (src code : Byte) (st : Status) : State := s.answered src [code, st.code]

/-- A port after the hand-over of a frame that the part originates: it is sent from the node address with the port's transmit sequence
number, which advances by 1 from 255 back to 0 (R161, R168). -/
def PortState.sending (v : PortState) (node : Nat) (dest kind : Byte) (payload : List Byte) : PortState :=
  let f := mkFrame dest (lowByte node) kind (lowByte v.txSeq) payload
  { v with tx := some { frame := f, wire := f.wire, forwarded := false }, txSeq := (v.txSeq + 1) % 256 }

/-- A settled port after one more frame has taken a place in its receive buffer: a PAUSE falls due while pause is asserted, and
pause is asserted at the high mark (R164, R166). -/
def PortState.withPlaced (high : Nat) (h : Held) (v : PortState) : PortState :=
  let paused := v.pauseAsserted || decide (high ≤ v.buf.length + 1)
  { v with buf := v.buf ++ [h], pauseAsserted := paused, control := if paused then some .pause else v.control }

/-- A settled port after a frame of its receive buffer has given up its place, which leaves `buf`: a RESUME falls due, and pause is no
longer asserted, at the low mark (R165, R166). -/
def PortState.withGiven (low : Nat) (buf : List Held) (v : PortState) : PortState :=
  let resumed := v.pauseAsserted && decide (buf.length ≤ low)
  { v with buf := buf, pauseAsserted := v.pauseAsserted && !resumed, control := if resumed then some .resume else v.control }

/-- The REPLY payload of an accepted WRITE ENTRY or CLEAR ENTRY (R172, R174). -/
def entryOk (code : Byte) (t : TableId) (index : BitVec 16) : List Byte :=
  [code, Status.ok.code, t.code] ++ bytesOfNat 2 index.toNat

/-- The two bytes of an index. -/
def indexBytes (index : BitVec 16) : List Byte := bytesOfNat 2 index.toNat

/-- The source and payload of the CMD frame that carries a management command (R173, R174); none for the other rows. -/
def commandPayload : Instr → Option (Byte × List Byte)
  | .readEntry src table index => some (src, [0x01, table] ++ indexBytes index)
  | .readState src table index => some (src, [0x04, table] ++ indexBytes index)
  | .writeSettings src index entry => some (src, [0x02, TableId.settings.code] ++ indexBytes index ++ entry)
  | .clearSettings src index => some (src, [0x03, TableId.settings.code] ++ indexBytes index)
  | .writeModule src index entry => some (src, [0x02, TableId.module.code] ++ indexBytes index ++ entry)
  | .clearModule src index => some (src, [0x03, TableId.module.code] ++ indexBytes index)
  | .writePoint src index entry => some (src, [0x02, TableId.point.code] ++ indexBytes index ++ entry)
  | .clearPoint src index => some (src, [0x03, TableId.point.code] ++ indexBytes index)
  | .writeWindow src index entry => some (src, [0x02, TableId.window.code] ++ indexBytes index ++ entry)
  | .clearWindow src index => some (src, [0x03, TableId.window.code] ++ indexBytes index)
  | .writeDriver src index entry => some (src, [0x02, TableId.driver.code] ++ indexBytes index ++ entry)
  | .clearDriver src index => some (src, [0x03, TableId.driver.code] ++ indexBytes index)
  | .writeGroup src index entry => some (src, [0x02, TableId.group.code] ++ indexBytes index ++ entry)
  | .clearGroup src index => some (src, [0x03, TableId.group.code] ++ indexBytes index)
  | .writeHorn src index entry => some (src, [0x02, TableId.horn.code] ++ indexBytes index ++ entry)
  | .clearHorn src index => some (src, [0x03, TableId.horn.code] ++ indexBytes index)
  | .writePattern src index entry => some (src, [0x02, TableId.pattern.code] ++ indexBytes index ++ entry)
  | .clearPattern src index => some (src, [0x03, TableId.pattern.code] ++ indexBytes index)
  | .writeElement src index entry => some (src, [0x02, TableId.element.code] ++ indexBytes index ++ entry)
  | .clearElement src index => some (src, [0x03, TableId.element.code] ++ indexBytes index)
  | .writeOutput src index entry => some (src, [0x02, TableId.output.code] ++ indexBytes index ++ entry)
  | .clearOutput src index => some (src, [0x03, TableId.output.code] ++ indexBytes index)
  | .writeChannel src index entry => some (src, [0x02, TableId.channel.code] ++ indexBytes index ++ entry)
  | .clearChannel src index => some (src, [0x03, TableId.channel.code] ++ indexBytes index)
  | .setModeRun src => some (src, [0x10, 0x01])
  | .setModeTest src => some (src, [0x10, 0x02])
  | .setModeConfiguring src => some (src, [0x10, 0x00])
  | .freezeMatrix src => some (src, [0x11])
  | .annunciationRestart src => some (src, [0x12])
  | .groupAck src group => some (src, [0x20, group])
  | .groupReset src group => some (src, [0x21, group])
  | .hornSilence src horn => some (src, [0x22, horn])
  | .lampTestOn src => some (src, [0x23, 0x01])
  | .lampTestOff src => some (src, [0x23, 0x00])
  | .lockoutReset src channel => some (src, [0x30, channel])
  | .forceElementOn src element => some (src, [0x31, element, 0x01])
  | .forceElementOff src element => some (src, [0x31, element, 0x00])
  | .readStatus src flag => some (src, [0x40, flag])
  | _ => none

/-! ### Frames: what may differ between two states -/

/-- Nothing but the event queue differs. -/
def State.onlyEvents (s t : State) : Prop := t = { s with events := t.events }

/-- Nothing but the Annunciation Unit and the event queue differs. -/
def State.onlyAnnunciation (s t : State) : Prop := t = { s with ann := t.ann, events := t.events }

/-- Nothing but the Channel Unit, the Annunciation Unit and the event queue differs. -/
def State.onlyChannels (s t : State) : Prop := t = { s with trip := t.trip, ann := t.ann, events := t.events }

/-- Nothing but the Trip Matrix and what `onlyChannels` names differs. -/
def State.onlyElements (s t : State) : Prop :=
  t = { s with elements := t.elements, trip := t.trip, ann := t.ann, events := t.events }

/-- Nothing but the point table and what `onlyElements` names differs. -/
def State.onlyPoints (s t : State) : Prop :=
  t = { s with points := t.points, elements := t.elements, trip := t.trip, ann := t.ann, events := t.events }

/-- Nothing but the module table and what `onlyPoints` names differs. -/
def State.onlyModules (s t : State) : Prop :=
  t = { s with modules := t.modules, points := t.points, elements := t.elements, trip := t.trip, ann := t.ann,
               events := t.events }

/-- Nothing but the Time Base, port A and what `onlyModules` names differs: what a SCAN frame and the TIME frames between its reports can
touch. -/
def State.onlyScan (s t : State) : Prop :=
  t = { s with time := t.time, portA := t.portA, modules := t.modules, points := t.points, elements := t.elements,
               trip := t.trip, ann := t.ann, events := t.events }

/-! ### Elements -/

/-- An element with definition `d` installed at the points of `s`: contributions and held contributions anew, from those that the
replaced definition leaves (R103), the sum that follows, and nothing pending (R116, R118). -/
def Element.installed (s : State) (d : ElementDef) (el : Element) : Element :=
  let xs := d.inputs.map (fun i => computeInput d.policy i (s.point i.point) (inheritedHeld el.defn el i))
  { el with defn := some d, pending := .none, contrib := xs.map (fun x => x.1), held := xs.map (fun x => x.2)
            sum := voteSum d.inputs (xs.map (fun x => x.1)) }

/-! ### Definitions in range (the values that the tables of R1, R25, R57, R71, R81, R95, R100, R124, R127 and R176 allow) -/

/-- R176. -/
def Settings.inRange (v : Settings) : Prop :=
  1 ≤ v.gateway ∧ v.gateway ≤ 239 ∧ 100 ≤ v.chatterInterval ∧ v.chatterInterval ≤ 10000 ∧
  2 ≤ v.highA ∧ v.highA ≤ 8 ∧ v.lowA < v.highA ∧ 2 ≤ v.highB ∧ v.highB ≤ 8 ∧ v.lowB < v.highB ∧
  1 ≤ v.batchLevel ∧ v.batchLevel ≤ 8 ∧ v.batchTime ≤ 100 ∧ 10 ≤ v.syncLimit ∧ v.syncLimit ≤ 600

/-- R25. -/
def ModuleDef.inRange (d : ModuleDef) : Prop :=
  1 ≤ d.address ∧ d.address ≤ 239 ∧ 1 ≤ d.channels ∧ d.channels ≤ 64 ∧ 10 ≤ d.supervision ∧ d.supervision ≤ 2000

/-- R1. -/
def PointDef.inRange (d : PointDef) : Prop := d.chatterLimit ≤ 15 ∧ d.chatterLimit ≠ 1

/-- R81. -/
def GroupDef.inRange (d : GroupDef) : Prop := d.settle ≤ 50

/-- R100. -/
def ElementDef.inRange (d : ElementDef) : Prop :=
  1 ≤ d.inputs.length ∧ d.inputs.length ≤ 8 ∧ (∀ i ∈ d.inputs, 1 ≤ i.weight ∧ i.weight ≤ 15) ∧
  (d.inputs.map (fun i => (i.point, i.sense))).Nodup ∧ 1 ≤ d.pickup ∧ d.pickup ≤ 120 ∧ d.dropout < d.pickup ∧
  d.delay ≤ 65535 ∧ (d.mode = .pulse → 1 ≤ d.delay) ∧
  1 ≤ d.targets.length ∧ d.targets.length ≤ 4 ∧ d.targets.Nodup

/-! ### Entry bytes that a table refuses RANGE

Each definition takes the entry bytes of a write and says that a field stands outside the values of the rule it cites. Bytes of another
length than the entry's are none of its concern: they are LENGTH. -/

/-- A number of two bytes, most significant first (R163). -/
def wordOf (high low : Byte) : Nat := high.toNat * 256 + low.toNat

/-- A window field that is neither 0..191 nor absent as FFH. -/
def windowByteOut (w : Byte) : Bool := decide (192 ≤ w.toNat ∧ w ≠ 0xFF)

/-- A link address field that is neither 1..239 nor absent as FFH. -/
def addressByteOut (a : Byte) : Bool := decide ((a.toNat = 0 ∨ 239 < a.toNat) ∧ a ≠ 0xFF)

/-- R176, R177. -/
def settingsBytesOut : List Byte → Bool
  | [g, c1, c0, ha, la, hb, lb, bl, bt, s1, s0, w] =>
    decide (g.toNat = 0 ∨ 239 < g.toNat ∨ wordOf c1 c0 < 100 ∨ 10000 < wordOf c1 c0 ∨
      ha.toNat < 2 ∨ 8 < ha.toNat ∨ ha.toNat ≤ la.toNat ∨ hb.toNat < 2 ∨ 8 < hb.toNat ∨ hb.toNat ≤ lb.toNat ∨
      bl.toNat = 0 ∨ 8 < bl.toNat ∨ 100 < bt.toNat ∨ wordOf s1 s0 < 10 ∨ 600 < wordOf s1 s0) || windowByteOut w
  | _ => false

/-- R27 steps 1 and 2. -/
def moduleBytesOut : List Byte → Bool
  | [en, a, ch, s1, s0, w] =>
    decide (1 < en.toNat) || (decide (en.toNat = 1) &&
      (decide (a.toNat = 0 ∨ 239 < a.toNat ∨ ch.toNat = 0 ∨ 64 < ch.toNat ∨ wordOf s1 s0 < 10 ∨ 2000 < wordOf s1 s0) ||
        windowByteOut w))
  | _ => false

/-- R18 step 1; with defined no a field may also be absent (log entry 10). -/
def pointBytesOut : List Byte → Bool
  | [df, pol, kind, w, limit, inh, cls] =>
    let absent (b : Byte) : Bool := decide (df.toNat = 0 ∧ b = 0xFF)
    decide (1 < df.toNat) || windowByteOut w || (decide (1 < pol.toNat) && !absent pol) ||
      (decide (1 < kind.toNat) && !absent kind) || (decide (limit.toNat = 1 ∨ 15 < limit.toNat) && !absent limit) ||
      (decide (1 < inh.toNat) && !absent inh) || (decide (1 < cls.toNat) && !absent cls)
  | _ => false

/-- R59 steps 1 and 2. -/
def windowBytesOut : List Byte → Bool
  | [df, g, ty, el] => decide (1 < df.toNat ∨ (df.toNat = 1 ∧ (31 < g.toNat ∨ 1 < ty.toNat ∨ 1 < el.toNat)))
  | _ => false

/-- R71. -/
def driverBytesOut : List Byte → Bool
  | [a] => addressByteOut a
  | _ => false

/-- R83. -/
def groupBytesOut : List Byte → Bool
  | [df, h, fo, st] =>
    decide (1 < df.toNat ∨ (df.toNat = 1 ∧ ((3 < h.toNat ∧ h ≠ 0xFF) ∨ 1 < fo.toNat ∨ 50 < st.toNat)))
  | _ => false

/-- R95. -/
def hornBytesOut : List Byte → Bool
  | [b] => decide (1 < b.toNat)
  | _ => false

/-- R70. -/
def patternBytesOut : List Byte → Bool
  | [p, o] => decide (p.toNat < 2 ∨ 200 < p.toNat ∨ o.toNat = 0)
  | _ => false

/-- R126 step 2. -/
def outputBytesOut : List Byte → Bool
  | [a, t] => addressByteOut a || decide (t.toNat < 5 ∨ 100 < t.toNat)
  | _ => false

/-- R129 step 2. -/
def channelBytesOut : List Byte → Bool
  | [df, m, o, lk, w] =>
    decide (1 < df.toNat) || (decide (df.toNat = 1) &&
      (decide (7 < m.toNat ∨ 15 < o.toNat ∨ 1 < lk.toNat) || windowByteOut w))
  | _ => false

/-- R115 step 6: `body` follows the input count `k`, and has the length that its counts call for. -/
def elementBytesOut (k : Nat) (body : List Byte) : Bool :=
  let byte (j : Nat) : Byte := body.getD j 0
  let point (i : Nat) : Nat := wordOf (byte (4 * i)) (byte (4 * i + 1))
  let delay := wordOf (byte (4 * k + 4)) (byte (4 * k + 5))
  let m := (byte (4 * k + 6)).toNat
  let target (i : Nat) : Nat := (byte (4 * k + 7 + i)).toNat
  decide ((byte (4 * k)).toNat = 0 ∨ 120 < (byte (4 * k)).toNat ∨ (byte (4 * k)).toNat ≤ (byte (4 * k + 1)).toNat ∨
    2 < (byte (4 * k + 2)).toNat ∨ 3 < (byte (4 * k + 3)).toNat ∨ ((byte (4 * k + 3)).toNat = 3 ∧ delay = 0)) ||
  (List.range k).any (fun i => decide (1023 < point i ∨ (byte (4 * i + 2)).toNat = 0 ∨ 15 < (byte (4 * i + 2)).toNat ∨
    1 < (byte (4 * i + 3)).toNat ∨ ∃ j < i, point j = point i ∧ byte (4 * j + 3) = byte (4 * i + 3))) ||
  (List.range m).any (fun i => decide (15 < target i ∨ ∃ j < i, target j = target i))

/-! ### Invariants -/

/-- Every table is in its canonical form. -/
def State.canonical (s : State) : Bool :=
  Table.wf {} s.modules && Table.wf {} s.points && Table.wf {} s.ann.windows && Table.wf none s.ann.drivers &&
  Table.wf {} s.ann.groups && Table.wf {} s.ann.horns && Table.wf {} s.elements && Table.wf {} s.trip.channels &&
  Table.wf {} s.trip.outputs

/-- A port's receive buffer holds at most 8 frames and its pause state agrees with the marks (section 9.5, R166). -/
def PortState.settled (high low : Nat) (p : PortState) : Prop :=
  p.buf.length ≤ 8 ∧ low < high ∧ (p.pauseAsserted = false → p.buf.length < high) ∧
  (p.pauseAsserted = true → low < p.buf.length)

/-- Both ports are settled. -/
def State.flowSettled (s : State) : Prop :=
  s.portA.settled s.settings.highA s.settings.lowA ∧ s.portB.settled s.settings.highB s.settings.lowB

/-- The queue keeps its bounds, and its sequence numbers run without a gap up to the next one (R145, R147, R149, R150). -/
def State.queueSound (s : State) : Prop :=
  s.events.records.length ≤ 512 ∧ (s.events.records.filter (fun r => decide (r.cls = .alarm))).length ≤ 480 ∧
  s.events.dropped ≤ 65535 ∧ s.events.nextSeq < 65536 ∧
  ∀ (i : Nat) (r : Record), s.events.records[i]? = some r →
    r.seq = (s.events.nextSeq + 65536 - s.events.records.length + i) % 65536

/-- The condition of every defined point follows its contact (R3, R4). -/
def State.conditionsDerived (s : State) : Prop :=
  ∀ (p : Fin 1024) (d : PointDef), (s.point p).defn = some d → (s.point p).condition = d.derive (s.point p).contact

/-- The announced condition of every defined point is the one R8 derives, and NORMAL in CONFIGURING (R22). -/
def State.announcedDerived (s : State) : Prop :=
  ∀ (p : Fin 1024) (d : PointDef), (s.point p).defn = some d →
    (s.mode = .configuring → (s.point p).announced = .normal) ∧
    (s.mode ≠ .configuring → (s.point p).announced = d.announce (s.point p) (s.point p).announced)

/-- Window states agree with active counts, and every window is DARK and unmarked in CONFIGURING (R63, R77). -/
def State.windowsSound (s : State) : Prop :=
  (s.mode = .configuring → ∀ w : Fin 192, (s.window w).state = .dark ∧ (s.window w).mark = false) ∧
  (s.mode ≠ .configuring → ∀ w : Fin 192, (s.window w).defn ≠ none →
    ((s.window w).state = .steady → 0 < (s.window w).count) ∧
    ((s.window w).state = .dark ∨ (s.window w).state = .slow → (s.window w).count = 0))

/-- Every window shows the pattern that R69 derives. -/
def State.patternsDerived (s : State) : Prop := ∀ w : Fin 192, (s.window w).shown = derivedPattern s w

/-- A horn is QUIET exactly when its FAST count is 0 (R95). -/
def State.hornsSound (s : State) : Prop := ∀ h : Fin 4, (s.horn h).state = .quiet ↔ (s.horn h).fastCount = 0

/-- Outside CONFIGURING the group of every defined window is defined (R59, R83, R180). -/
def State.groupsKnown (s : State) : Prop :=
  s.mode ≠ .configuring → ∀ (w : Fin 192) (d : WindowDef), (s.window w).defn = some d → (s.group d.group).defn ≠ none

/-- A horn's FAST count is the number of defined windows in FAST whose group is defined and names the horn (R95). -/
def State.fastCounted (s : State) : Prop :=
  ∀ h : Fin 4, (s.horn h).fastCount = ((List.finRange 192).filter (fun w =>
    match (s.window w).defn with
    | some d =>
      match (s.group d.group).defn with
      | some x => decide ((s.window w).state = .fast ∧ x.horn = some h)
      | none => false
    | none => false)).length

/-- What a group of each state holds (R82). -/
def Group.sound (g : Group) : Prop :=
  (g.state = .armed → g.foWindow = none ∧ g.foPoint = none ∧ g.settle = none) ∧
  (g.state = .provisional → g.foWindow ≠ none ∧ g.foPoint ≠ none ∧ g.settle ≠ none) ∧
  (g.state = .captured → g.foWindow ≠ none ∧ g.foPoint ≠ none ∧ g.settle = none)

/-- Every group is sound, in a canonical table. -/
def State.groupsSound (s : State) : Prop := Table.wf {} s.ann.groups = true ∧ ∀ g : Fin 32, (s.group g).sound

/-- A window is marked exactly when it is the recorded first-out window of a PROVISIONAL or CAPTURED group (R82), and that window is one
of the group's own (R85, R90). -/
def State.marksSound (s : State) : Prop :=
  (∀ w : Fin 192, (s.window w).mark = true ↔ ∃ g : Fin 32, (s.group g).state ≠ .armed ∧ (s.group g).foWindow = some w) ∧
  ∀ (g : Fin 32) (w : Fin 192), (s.group g).foWindow = some w → ∃ d, (s.window w).defn = some d ∧ d.group = g

/-- One input of an element agrees with its point: its contribution is that of R102, and equals the held one while the point is GOOD
(R103). -/
def inputCurrent (policy : Policy) (v : Point) (i : ElementInput) (contrib held : Bool) : Prop :=
  contrib = contribution policy i v held ∧ (v.quality = .good → held = contrib)

/-- The contributions and the sum of every defined element are current, and an undefined point holds its initial values (R2, R105,
R113). -/
def State.sumsCurrent (s : State) : Prop :=
  (∀ p : Fin 1024, (s.point p).defn = none → s.point p = {}) ∧
  ∀ (e : Fin 64) (d : ElementDef), (s.element e).defn = some d →
    (s.element e).contrib.length = d.inputs.length ∧ (s.element e).held.length = d.inputs.length ∧
    (s.element e).sum = voteSum d.inputs (s.element e).contrib ∧
    ∀ (n : Nat) (i : ElementInput) (c h : Bool), d.inputs[n]? = some i → (s.element e).contrib[n]? = some c →
      (s.element e).held[n]? = some h → inputCurrent d.policy (s.point i.point) i c h

/-- A defined channel is TRIPPED exactly with demand, and LOCKED only with lockout (R131, R132). -/
def State.channelsSound (s : State) : Prop :=
  ∀ (c : Fin 16) (d : ChannelDef), (s.channel c).defn = some d →
    ((s.channel c).state = .tripped ↔ 0 < (s.channel c).demand) ∧
    ((s.channel c).state = .locked → d.lockout = true)

/-- What an element's active or pending definition targets: at least one channel, each once, and outside CONFIGURING only defined
channels (R100, R115, R129, R180); an undefined element, and every element in CONFIGURING, is IDLE with nothing pending (R101, R121). -/
def State.targetsSound (s : State) : Prop :=
  (∀ (e : Fin 64) (d : ElementDef), (s.element e).defn = some d ∨ (s.element e).pending = .definition d →
    d.targets ≠ [] ∧ d.targets.Nodup ∧ (s.mode ≠ .configuring → ∀ c ∈ d.targets, (s.channel c).defn ≠ none)) ∧
  ∀ e : Fin 64, (s.element e).defn = none ∨ s.mode = .configuring → (s.element e).state = .idle ∧ (s.element e).pending = .none

/-- A channel's demand count is the number of elements with an asserted output whose active definition targets it (R131). -/
def State.demandCounted (s : State) : Prop :=
  ∀ c : Fin 16, (s.channel c).demand = ((List.finRange 64).filter (fun e =>
    match (s.element e).defn with
    | some d => (s.element e).state.asserted && d.targets.contains c
    | none => false)).length

/-- No output of a module is two defined channels', and an awaited list names each output once (R129, R130, R136). -/
def State.outputsSound (s : State) : Prop :=
  (∀ (b c : Fin 16) (x y : ChannelDef), (s.channel b).defn = some x → (s.channel c).defn = some y →
    x.outputModule = y.outputModule → x.output = y.output → b = c) ∧
  ∀ k : Fin 8, ((s.outputModule k).awaited.map (fun p => p.1)).Nodup

/-- Each backup line is asserted exactly when the mode is RUN and a channel of its half is asserted and MISSING (R141). -/
def State.linesSound (s : State) : Prop :=
  s.resetLow = false → ∀ k : Fin 2,
    (s.bktDrivenLow k = true ↔
      s.mode = .run ∧ ∃ c : Fin 16, halfOf c = k ∧ (s.channel c).state.asserted = true ∧
        (s.channel c).confirmation = .missing)

/-- While the freeze latch is set the mode is RUN or TEST and nothing is pending (R184). -/
def State.freezeSound (s : State) : Prop :=
  s.frozen = true → s.mode ≠ .configuring ∧ ∀ e : Fin 64, (s.element e).pending = .none

/-- The waiting lists hold each number once, and only drivers and modules that qualify (R72, R135). -/
def State.waitingSound (s : State) : Prop :=
  s.ann.waiting.Nodup ∧ (∀ d ∈ s.ann.waiting, (s.driver d).isSome = true) ∧
  s.trip.waiting.Nodup ∧ ∀ k ∈ s.trip.waiting, (s.outputModule k).address.isSome = true ∧ hostedBy s k ≠ []

end Sys2Proof.Machine
end

