-- ==== Sys2Proof/Certificates/Slice0/Obligations.lean ====
section
/-! DEFINITION. The statements for the provers. -/

open Sys2Proof Sys2Proof.Machine

/-! ### The machine and its reset -/

/-- The command at the front of the queue is run on the state with the queue's rest, and an empty queue leaves the part as it is
(log entry 7). -/
def Obligations.StepRunsTheFrontCommand : Prop :=
  (∀ (c : Instr) (rest : List Instr) (s : State), s.pending = c :: rest → step s = exec c { s with pending := rest }) ∧
  ∀ s : State, s.pending = [] → step s = .next s

/-- COLD_RESET samples the straps and returns every state to its cold-reset value, the inputs of the model apart; RESETN held low ends both
transmissions and releases both backup lines, and until COLD_RESET no other command does anything (R186; log entries 5 and 14). -/
def Obligations.ResetReturnsEveryState : Prop :=
  (∀ (ads : BitVec 8) (rsa rsb : BitVec 2) (s : State), ∃ t : State,
    exec (.coldReset ads rsa rsb) s = .next t ∧ t.pending = s.pending ∧ t.arriving = s.arriving ∧ t.resetLow = false ∧
    t.node = (if ads.toNat = 0 ∨ 240 ≤ ads.toNat then 239 else ads.toNat) ∧
    t.portA = { rate := rsa } ∧ t.portB = { rate := rsb } ∧
    t.mode = .configuring ∧ t.frozen = false ∧ t.reply = none ∧
    t.settings = { gateway := 1, chatterInterval := 1000, highA := 6, lowA := 3, highB := 6, lowB := 3, batchLevel := 4,
                   batchTime := 20, syncLimit := 60, systemWindow := none } ∧
    t.time = { ticks := 0, station := 0, hold := 0, quality := .unset, sync := none } ∧
    t.events = { records := [], dropped := 0, nextSeq := 0, batch := none, headWaited := false } ∧
    t.unknownSource = 0 ∧ t.ignoredButtons = 0 ∧ t.unknownConfirms = 0 ∧ t.decay = none ∧
    (∀ m, t.inputModule m = { defn := none, state := .unseen, lastSeq := none, supervision := none, floor := 0, ignored := 0,
                              duplicates := 0, malformed := 0 }) ∧
    (∀ p, t.point p = { defn := none, contact := false, condition := .normal, quality := .bad, announced := .normal,
                        chatter := 0, suppressed := false, lastEvent := 0 }) ∧
    (∀ w, t.window w = { defn := none, state := .dark, count := 0, mark := false, shown := .off }) ∧
    (∀ g, t.group g = { defn := none, state := .armed, foWindow := none, foPoint := none, captured := 0, settle := none }) ∧
    (∀ h, t.horn h = { sound := .continuous, state := .quiet, fastCount := 0 }) ∧
    (∀ d, t.driver d = none) ∧ t.ann.waiting = [] ∧ t.ann.lampTest = false ∧ t.ann.lampTimer = none ∧
    t.ann.refresh = some 250 ∧ t.ann.phase = some 1000 ∧ t.ann.phaseWaiting = false ∧
    t.ann.patterns = #v[{ period := 50, onTime := 25 }, { period := 200, onTime := 100 }, { period := 25, onTime := 12 },
                        { period := 100, onTime := 50 }] ∧
    (∀ e, t.element e = { defn := none, pending := .none, state := .idle, forced := false, sum := 0, timer := none,
                          contrib := [], held := [] }) ∧
    (∀ c, t.channel c = { defn := none, state := .normal, demand := 0, confirmation := .confirmed, commanded := false }) ∧
    (∀ k, t.outputModule k = { address := none, timeout := 20, awaitedSeq := none, deadline := .stopped, awaited := [],
                               stray := 0, malformed := 0 }) ∧
    t.trip.waiting = [] ∧ t.trip.refresh = some 200 ∧ t.trip.bkt0 = false ∧ t.trip.bkt1 = false) ∧
  (∀ s : State, exec .resetnHeldLow s = .next { s with
      resetLow := true, portA := { s.portA with tx := none }, portB := { s.portB with tx := none },
      trip := { s.trip with bkt0 := false, bkt1 := false } }) ∧
  ∀ (c : Instr) (s : State), s.resetLow = true → (∀ ads rsa rsb, c ≠ .coldReset ads rsa rsb) → c ≠ .resetnHeldLow →
    exec c s = .next s

/-- Which commands can change what every command reads: the node address, the mode, the freeze latch, the settings record, station
time, and the reply that waits; and no command changes the queue of commands, which is the model's own (log entries 5 and 7). A CMD
frame carries any command, the row of a named command changes what that command does (log entry 4), and SCAN_FRAME takes with its frame
the TIME frames that arrive meanwhile, an input of the model that it uses up (log entry 14). -/
def Obligations.OnlyTheNamedCommandsChangeTheWholePart : Prop :=
  ∀ (c : Instr) (s t : State), exec c s = .next t →
    t.pending = s.pending ∧ (t.arriving = s.arriving ∨ c = .scanFrame) ∧
    (t.node ≠ s.node → ∃ ads rsa rsb, c = .coldReset ads rsa rsb) ∧
    (t.mode ≠ s.mode → (∃ ads rsa rsb, c = .coldReset ads rsa rsb) ∨ c = .cmdFrame ∨
      ∃ src, c = .setModeRun src ∨ c = .setModeTest src ∨ c = .setModeConfiguring src) ∧
    (t.frozen ≠ s.frozen → (∃ ads rsa rsb, c = .coldReset ads rsa rsb) ∨
      (t.frozen = true ∧ (c = .cmdFrame ∨ ∃ src, c = .freezeMatrix src))) ∧
    (t.settings ≠ s.settings → (∃ ads rsa rsb, c = .coldReset ads rsa rsb) ∨ c = .cmdFrame ∨
      ∃ src index, c = .clearSettings src index ∨ ∃ entry, c = .writeSettings src index entry) ∧
    (t.time.station ≠ s.time.station → (∃ ads rsa rsb, c = .coldReset ads rsa rsb) ∨ c = .localTick ∨
      (∃ cs, c = .frameReceived .A cs) ∨ (∃ dest src seq payload, c = .timeFrame dest src seq payload) ∨
      (c = .scanFrame ∧ ∃ xs ∈ s.arriving, xs ≠ [])) ∧
    (t.reply = none → s.reply ≠ none → (∃ ads rsa rsb, c = .coldReset ads rsa rsb) ∨ c = .replyHandover)

/-! ### The Link Unit -/

/-- The characters of every frame of at most 200 payload bytes, escaped as they are sent after SOF, are received as that frame, with no
error (R159 to R161); each is a start bit, the byte with its least significant bit first, even parity and a stop bit (R158; that the
line idles at 1 is log entry 23). -/
def Obligations.SentFrameIsReceived : Prop :=
  (∀ f : Frame, f.payload.length ≤ 200 →
    deframe f.chars = some (.completed f.bytes false) ∧ frameOfBytes f.bytes = some f) ∧
  (∀ f : Frame, f.wire = sentChar 0xE1 :: f.chars) ∧
  ∀ b : Byte, (sentChar b).getLsbD 0 = false ∧ (sentChar b).getLsbD 10 = true ∧
    (∀ i < 8, (sentChar b).getLsbD (i + 1) = b.getLsbD i) ∧
    ((List.range 9).filter (fun i => (sentChar b).getLsbD (i + 1))).length % 2 = 0

/-- A completed frame with a character error, a wrong CRC or no room is discarded and counted, in that order, an overrun making a further
PAUSE due while pause is asserted; SOF begins a reception, and one abandoned by its length is counted (R160, R164, R166). A character is in
error by its parity or its stop bit (R158; the levels are log entry 23). -/
def Obligations.ReceptionsAreJudged : Prop :=
  (∀ (p : Port) (cs : List RxChar) (bytes : List Byte) (err : Bool) (f : Frame) (s : State),
    s.resetLow = false → (s.port p).rx = .withinFrame → deframe cs = some (.completed bytes err) →
    frameOfBytes bytes = some f →
    (err = true → exec (.frameReceived p cs) s = .next (s.setPort p { s.port p with
      rx := .betweenFrames, charErrors := min ((s.port p).charErrors + 1) 65535 })) ∧
    (err = false → crcOf f.checked ≠ f.crc → exec (.frameReceived p cs) s = .next (s.setPort p { s.port p with
      rx := .betweenFrames, crcErrors := min ((s.port p).crcErrors + 1) 65535 })) ∧
    (err = false → crcOf f.checked = f.crc → 8 ≤ (s.port p).buf.length →
      exec (.frameReceived p cs) s = .next (s.setPort p { s.port p with
        rx := .betweenFrames, overruns := min ((s.port p).overruns + 1) 65535,
        control := if (s.port p).pauseAsserted then some .pause else (s.port p).control }))) ∧
  (∀ (p : Port) (cs : List RxChar) (s : State), s.resetLow = false →
    exec (.sofReceived p) s = .next (s.setPort p { s.port p with rx := .withinFrame }) ∧
    ((s.port p).rx = .withinFrame → deframe cs = some .abandonedByLength →
      exec (.frameAbandoned p cs) s = .next (s.setPort p { s.port p with
        rx := .betweenFrames, lengthErrors := min ((s.port p).lengthErrors + 1) 65535 })) ∧
    ((s.port p).rx = .withinFrame → deframe cs = some .abandonedBySof → exec (.frameAbandoned p cs) s = .next s)) ∧
  ∀ c : RxChar,
    c.inError = true ↔ ((List.range 9).filter (fun i => c.getLsbD (i + 1))).length % 2 = 1 ∨ c.getLsbD 10 = false

/-- An accepted frame that is not a TIME frame is directed by destination and kind: to its owning block, to the other port, or
discarded with a count for BUTTON and CONFIRM on port A, its place taken and given up at once (R164 to R166). -/
def Obligations.AcceptedFrameIsDirected : Prop :=
  ∀ (p : Port) (cs : List RxChar) (bytes : List Byte) (f : Frame) (s : State),
    s.resetLow = false → s.flowSettled → (s.port p).rx = .withinFrame → deframe cs = some (.completed bytes false) →
    frameOfBytes bytes = some f → crcOf f.checked = f.crc → (s.port p).buf.length < 8 →
    let held (forward : Bool) : Held :=
      { frame := f, trx := if p = Port.A then some s.time.station else none, forward := forward, sending := false }
    let owned := (p = .A ∧ (f.kind = 0x11 ∨ f.kind = 0x31)) ∨ (p = .B ∧ (f.kind = 0x53 ∨ f.kind = 0x62))
    let v := { s.port p with rx := .betweenFrames }
    (f.dest.toNat = s.node → owned →
      exec (.frameReceived p cs) s = .next (s.setPort p (v.withPlaced (s.marks p).1 (held false)))) ∧
    (f.dest.toNat ≠ s.node → ¬ (p = .A ∧ f.kind = 0x21 ∧ f.dest = 255) →
      exec (.frameReceived p cs) s = .next (s.setPort p (v.withPlaced (s.marks p).1 (held true)))) ∧
    (f.dest.toNat = s.node → ¬ owned → ¬ (p = .A ∧ f.kind = 0x21) →
      exec (.frameReceived p cs) s = .next (({ s with
        ignoredButtons := if p = Port.A ∧ f.kind = 0x53 then min (s.ignoredButtons + 1) 65535 else s.ignoredButtons
        unknownConfirms := if p = Port.A ∧ f.kind = 0x62 then min (s.unknownConfirms + 1) 65535 else s.unknownConfirms }).setPort
          p ((v.withPlaced (s.marks p).1 (held false)).withGiven (s.marks p).2 (s.port p).buf)))

/-- PAUSE, RESUME and the self-resume expiry set a transmitter's paused state and timer, and a due control byte goes onto the line; the end of
a transmission frees the transmitter, and a forwarded frame gives up its place (R159, R165, R167, R168). -/
def Obligations.TransmittersPauseAndEnd : Prop :=
  (∀ (p : Port) (s : State), s.resetLow = false →
    exec (.pauseReceived p) s = .next (s.setPort p { s.port p with paused := true, selfResume := some 500 }) ∧
    ((s.port p).paused = true →
      exec (.resumeReceived p) s = .next (s.setPort p { s.port p with paused := false, selfResume := none })) ∧
    ((s.port p).paused = false → exec (.resumeReceived p) s = .next s) ∧
    ((s.port p).selfResume = some 0 →
      exec (.pauseSelfResumeExpiry p) s = .next (s.setPort p { s.port p with paused := false, selfResume := none })) ∧
    ∀ c : Control, (s.port p).control = some c →
      exec (.controlByteSent p) s = .next (s.setPort p { s.port p with control := none, onLine := some c })) ∧
  ∀ (p : Port) (x : Tx) (s : State), s.resetLow = false → s.flowSettled → (s.port p).tx = some x →
    (x.forwarded = false → exec (.transmitEnd p) s = .next (s.setPort p { s.port p with tx := none })) ∧
    ∀ (before after : List Held) (h : Held), x.forwarded = true → (s.port p.other).buf = before ++ h :: after →
      h.sending = true → (∀ k ∈ before, k.sending = false) →
      exec (.transmitEnd p) s = .next ((s.setPort p { s.port p with tx := none }).setPort p.other
        ((s.port p.other).withGiven (s.marks p.other).2 (before ++ after)))

/-- The port A arbiter chooses REPLY first, then EVENT and pass-through by turns, and nothing while paused (R169); EVENT is on offer while the
queue is due: it holds a record, and either the batch level is reached or the head has waited long enough (R154). The port B arbiter
chooses TRIP first, even while paused, then PHASE, then WINDOW and pass-through by turns (R170). -/
def Obligations.ArbitersChoose : Prop :=
  (∀ s : State,
    let event := queueDue s = true
    let forwarded := (s.passThrough .A).isSome = true
    (event ↔ 0 < s.events.records.length ∧
      (s.settings.batchLevel ≤ s.events.records.length ∨ s.events.headWaited = true)) ∧
    (s.portA.tx.isSome = true ∨ s.portA.paused = true → s.arbiterA = none) ∧
    (s.portA.tx = none → s.portA.paused = false →
      (s.reply.isSome = true → s.arbiterA = some .reply) ∧
      (s.reply = none → event → forwarded → s.portA.alt = .passThrough → s.arbiterA = some .event) ∧
      (s.reply = none → event → forwarded → s.portA.alt = .own → s.arbiterA = some .passThrough) ∧
      (s.reply = none → event → ¬ forwarded → s.arbiterA = some .event) ∧
      (s.reply = none → ¬ event → forwarded → s.arbiterA = some .passThrough) ∧
      (s.reply = none → ¬ event → ¬ forwarded → s.arbiterA = none)) ∧
    (∀ t, s.resetLow = false → s.arbiterA = some .event → exec .eventHandover s = .next t → t.portA.alt = .own) ∧
    (∀ t, s.resetLow = false → s.arbiterA = some .passThrough → exec (.passThroughHandover .A) s = .next t →
      t.portA.alt = .passThrough) ∧
    State.reset.portA.alt = .passThrough) ∧
  ∀ s : State,
    let window := s.ann.waiting ≠ []
    let forwarded := (s.passThrough .B).isSome = true
    (s.portB.tx.isSome = true → s.arbiterB = none) ∧
    (s.portB.tx = none →
      (s.trip.waiting ≠ [] → s.arbiterB = some .trip) ∧
      (s.trip.waiting = [] → s.portB.paused = true → s.arbiterB = none) ∧
      (s.trip.waiting = [] → s.portB.paused = false →
        (s.ann.phaseWaiting = true → s.arbiterB = some .phase) ∧
        (s.ann.phaseWaiting = false → window → forwarded → s.portB.alt = .passThrough → s.arbiterB = some .window) ∧
        (s.ann.phaseWaiting = false → window → forwarded → s.portB.alt = .own → s.arbiterB = some .passThrough) ∧
        (s.ann.phaseWaiting = false → window → ¬ forwarded → s.arbiterB = some .window) ∧
        (s.ann.phaseWaiting = false → ¬ window → forwarded → s.arbiterB = some .passThrough) ∧
        (s.ann.phaseWaiting = false → ¬ window → ¬ forwarded → s.arbiterB = none))) ∧
    (∀ t, s.resetLow = false → s.waitingSound → s.arbiterB = some .window → exec .windowHandover s = .next t →
      t.portB.alt = .own) ∧
    (∀ t, s.resetLow = false → s.arbiterB = some .passThrough → exec (.passThroughHandover .B) s = .next t →
      t.portB.alt = .passThrough) ∧
    State.reset.portB.alt = .passThrough

/-- The chosen REPLY, PHASE, WINDOW or forwarded frame is handed over: an originated frame is built then and takes the port's number;
a forwarded one goes as it came, takes no number and keeps its place (R73 to R75, R168, R172). The PHASE frame carries the period and
on-time of FAST, SLOW, FIRST and HORN, the output of each horn, and the lamp-test flag (R75, R97). -/
def Obligations.HandoversBuildTheirFrames : Prop :=
  ∀ s : State, s.resetLow = false →
    let pattern (i : Fin 4) : PatternEntry := s.ann.patterns.get i
    let horn (h : Fin 4) : Byte := if (s.horn h).state = .sounding then
      (if (s.horn h).sound = .continuous then 0x01 else 0x02) else 0x00
    (∀ r : Reply, s.arbiterA = some .reply → s.reply = some r →
      exec .replyHandover s = .next { s with reply := none, portA := s.portA.sending s.node r.dest 0x32 r.payload }) ∧
    (s.arbiterB = some .phase →
      exec .phaseHandover s = .next { s with
        ann := { s.ann with phaseWaiting := false }
        portB := s.portB.sending s.node 255 0x52
          [lowByte (pattern 0).period, lowByte (pattern 0).onTime, lowByte (pattern 1).period, lowByte (pattern 1).onTime,
           lowByte (pattern 2).period, lowByte (pattern 2).onTime, lowByte (pattern 3).period, lowByte (pattern 3).onTime,
           horn 0, horn 1, horn 2, horn 3, if s.ann.lampTest then 0x01 else 0x00] }) ∧
    (∀ (d : Fin 6) (rest : List (Fin 6)) (a : Nat), s.arbiterB = some .window → s.ann.waiting = d :: rest →
      s.driver d = some a →
      exec .windowHandover s = .next { s with
        ann := { s.ann with waiting := rest }
        portB := { s.portB.sending s.node (lowByte a) 0x51 (imageBytes s d) with alt := .own } }) ∧
    ∀ (p : Port) (before after : List Held) (h : Held), s.choosesPassThrough p = true →
      (s.port p.other).buf = before ++ h :: after → h.awaitsForward = true → (∀ k ∈ before, k.awaitsForward = false) →
      exec (.passThroughHandover p) s = .next ((s.setPort p { s.port p with
          alt := .passThrough, tx := some { frame := h.frame, wire := h.frame.wire, forwarded := true } }).setPort p.other
        { s.port p.other with buf := before ++ { h with sending := true } :: after })

/-- After every step each port keeps at most 8 frames with a pause state that agrees with its marks, the event queue keeps its bounds and runs
its numbers without a gap, and the waiting lists hold each qualifying number once (R145, R147, R149, R150, R164, R166, R72, R135). -/
def Obligations.EveryStepKeepsTheQueuesSound : Prop :=
  (∀ s t : State, s.flowSettled → step s = .next t → t.flowSettled) ∧
  (∀ s t : State, s.queueSound → step s = .next t → t.queueSound) ∧
  ∀ s t : State, s.waitingSound → step s = .next t → t.waitingSound

/-! ### The Event Queue -/

/-- A record is accepted or refused by its class and the held count: an accepted one takes the next sequence number, the time quality
and the TEST flag and joins the tail; a refused one is counted; the offering block's state is the same either way (R147, R149, R150).
One accepted into an empty queue starts the batch timer with the batch time, or has waited long enough at once where that is 0; one
accepted behind others leaves the head's wait as it stands (R154). -/
def Obligations.RecordsAreAcceptedByClass : Prop :=
  ∀ (o : Offer) (s : State), s.mode ≠ .configuring →
    let limit := match o.cls with
      | .alarm => 480
      | .trip => 512
    (s.events.records.length < limit →
      s.onlyEvents (offer o s) ∧ (offer o s).events.dropped = s.events.dropped ∧
      (offer o s).events.nextSeq = (s.events.nextSeq + 1) % 65536 ∧
      (offer o s).events.records = s.events.records ++
        [{ seq := s.events.nextSeq, kind := o.kind, cls := o.cls, quality := s.time.quality, adjusted := o.adjusted,
           approx := o.approx, test := decide (s.mode = .test), time := o.time, subject := o.subject, value := o.value,
           extra := o.extra, acceptedAt := s.time.ticks }] ∧
      (s.events.records ≠ [] → (offer o s).events.batch = s.events.batch ∧
        (offer o s).events.headWaited = s.events.headWaited) ∧
      (s.events.records = [] → s.settings.batchTime = 0 →
        (offer o s).events.batch = none ∧ (offer o s).events.headWaited = true) ∧
      (s.events.records = [] → 0 < s.settings.batchTime →
        (offer o s).events.batch = some s.settings.batchTime ∧ (offer o s).events.headWaited = false)) ∧
    (limit ≤ s.events.records.length →
      offer o s = { s with events := { s.events with dropped := min (s.events.dropped + 1) 65535 } }) ∧
    (s.events.records.length ≤ 512 → (s.events.records.filter (fun r => decide (r.cls = .alarm))).length ≤ 480 →
      (offer o s).events.records.length ≤ 512 ∧
      ((offer o s).events.records.filter (fun r => decide (r.cls = .alarm))).length ≤ 480)

/-- The chosen EVENT frame carries the up to eight oldest records, which leave the queue; QUEUE_OVERFLOW follows where the removal
calls for it, and the new head's wait is counted from its acceptance (R151, R154, R155). A record travels as 15 bytes, each field most
significant byte first (R146, R163). -/
def Obligations.EventHandoverTakesTheOldest : Prop :=
  (∀ s : State, s.resetLow = false → s.arbiterA = some .event →
    let placed := s.events.records.take 8
    let left := s.events.records.drop 8
    let overflow := decide (s.mode ≠ .configuring ∧ 0 < s.events.dropped ∧ left.length < 480)
    ∃ t : State, exec .eventHandover s = .next t ∧ t = { s with portA := t.portA, events := t.events } ∧
      t.portA = { s.portA.sending s.node (lowByte s.settings.gateway) 0x41
                    (lowByte placed.length :: placed.flatMap Record.bytes) with alt := .own } ∧
      t.events.records = left ++ (if overflow then
        [{ seq := s.events.nextSeq, kind := .queueOverflow, cls := .trip, quality := s.time.quality, adjusted := false,
           approx := false, test := decide (s.mode = .test), time := s.time.station, subject := 65535, value := 0,
           extra := s.events.dropped, acceptedAt := s.time.ticks }] else []) ∧
      t.events.dropped = (if overflow then 0 else s.events.dropped) ∧
      t.events.nextSeq = (if overflow then (s.events.nextSeq + 1) % 65536 else s.events.nextSeq) ∧
      (t.events.records = [] → t.events.batch = none ∧ t.events.headWaited = false) ∧
      ∀ (r : Record) (rest : List Record), t.events.records = r :: rest →
        let waited := s.time.ticks - r.acceptedAt
        if s.settings.batchTime ≤ waited then t.events.batch = none ∧ t.events.headWaited = true
        else t.events.batch = some (s.settings.batchTime - waited) ∧ t.events.headWaited = false) ∧
  ∀ r : Record,
    let byte (k n : Nat) : Byte := BitVec.ofNat 8 (n / 256 ^ k)
    ∃ kind flags : Byte,
      Record.bytes r = [byte 1 r.seq, byte 0 r.seq, kind, flags, byte 5 r.time, byte 4 r.time, byte 3 r.time, byte 2 r.time,
        byte 1 r.time, byte 0 r.time, byte 1 r.subject, byte 0 r.subject, byte 0 r.value, byte 1 r.extra, byte 0 r.extra] ∧
      flags.toNat % 4 = (match r.quality with
        | .unset => 0
        | .synced => 1
        | .free => 2) ∧
      flags.getLsbD 2 = r.adjusted ∧ flags.getLsbD 3 = r.approx ∧ flags.getLsbD 4 = r.test ∧ flags.toNat < 32 ∧
      (r.kind, kind) ∈ ([(.pointAlarm, 0x01), (.pointNormal, 0x02), (.pointQuality, 0x03), (.chatterOn, 0x04),
        (.chatterOff, 0x05), (.groupAck, 0x10), (.groupReset, 0x11), (.firstOut, 0x12), (.hornSilence, 0x13),
        (.elementPickup, 0x20), (.elementOperate, 0x21), (.elementRelease, 0x22), (.elementDropout, 0x23),
        (.channelTrip, 0x30), (.channelLockout, 0x31), (.channelNormal, 0x32), (.confirmMissing, 0x33),
        (.confirmRestored, 0x34), (.moduleSilent, 0x40), (.moduleLive, 0x41), (.moduleGap, 0x42), (.modeChange, 0x50),
        (.timeStep, 0x51), (.restart, 0x52), (.queueOverflow, 0x53)] : List (RecordKind × Byte))

/-! ### The Time Base -/

/-- One local tick counts every timer down, works the hold remainder off or advances station time by 10 units up to its limit, and
changes nothing else (R44 to R46). That a timer at its last tick stands at 0 with its expiry due, and stays there at a tick, is the
model's reading (log entry 6). -/
def Obligations.LocalTickCountsEveryTimer : Prop :=
  ∀ s : State, s.resetLow = false → s.canonical = true →
    let down (x : Option Nat) : Option Nat := x.map (fun n => n - 1)
    ∃ t : State, exec .localTick s = .next t ∧
      t = { s with
        time := t.time, portA := t.portA, portB := t.portB, modules := t.modules, decay := t.decay
        ann := { s.ann with groups := t.ann.groups, lampTimer := t.ann.lampTimer, refresh := t.ann.refresh,
                            phase := t.ann.phase }
        elements := t.elements
        trip := { s.trip with outputs := t.trip.outputs, refresh := t.trip.refresh }
        events := { s.events with batch := t.events.batch } } ∧
      t.time = { s.time with
        ticks := s.time.ticks + 1
        station := if s.time.hold = 0 then min (s.time.station + 10) (2 ^ 48 - 1) else s.time.station
        hold := s.time.hold - 10
        sync := down s.time.sync } ∧
      t.portA = { s.portA with selfResume := down s.portA.selfResume } ∧
      t.portB = { s.portB with selfResume := down s.portB.selfResume } ∧
      (∀ m, t.inputModule m = { s.inputModule m with supervision := down (s.inputModule m).supervision }) ∧
      t.decay = down s.decay ∧
      (∀ g, t.group g = { s.group g with settle := down (s.group g).settle }) ∧
      t.ann.lampTimer = down s.ann.lampTimer ∧ t.ann.refresh = down s.ann.refresh ∧ t.ann.phase = down s.ann.phase ∧
      (∀ e, t.element e = { s.element e with timer := down (s.element e).timer }) ∧
      (∀ k, t.outputModule k = { s.outputModule k with deadline :=
        match (s.outputModule k).deadline with
        | .running n => .running (n - 1)
        | .stopped => .stopped
        | .passed => .passed }) ∧
      t.trip.refresh = down s.trip.refresh ∧ t.events.batch = down s.events.batch

/-- A TIME frame steps station time forward, holds it, or steps it back with every floor, every later receipt time and a TIME_STEP record; it
makes the quality SYNCED; one whose payload is not six bytes does none of this (R47 to R50). The row is the reception of that frame
(log entry 4). -/
def Obligations.TimeFrameSetsStationTime : Prop :=
  (∀ (dest src seq : Byte) (payload : List Byte) (s : State), s.resetLow = false → s.canonical = true →
    s.portA.rx = .withinFrame → s.portA.buf.length < 8 → (dest.toNat = s.node ∨ dest = 255) →
    let x := natOfBytes payload
    let now := s.time.station
    let held : Held := { frame := mkFrame dest src 0x21 seq payload, trx := some now, forward := true, sending := false }
    let kept := s.portA.buf ++ (if dest.toNat = s.node then [] else [held])
    ∃ t : State, exec (.timeFrame dest src seq payload) s = .next t ∧
      t = { s with time := t.time, modules := t.modules, portA := t.portA, events := t.events } ∧
      t.portA = { s.portA with rx := .betweenFrames, buf := t.portA.buf, control := t.portA.control,
                               pauseAsserted := t.portA.pauseAsserted } ∧
      (payload.length ≠ 6 →
        t.time = s.time ∧ t.modules = s.modules ∧ t.events = s.events ∧ t.portA.buf = kept) ∧
      (payload.length = 6 →
        t.time.ticks = s.time.ticks ∧ t.time.quality = .synced ∧ t.time.sync = some (s.settings.syncLimit * 1000) ∧
        (now ≤ x → t.time.station = x ∧ t.time.hold = 0) ∧
        (x < now → now - x ≤ 10000 → t.time.station = now ∧ t.time.hold = now - x) ∧
        (now - x ≤ 10000 → t.modules = s.modules ∧ t.events = s.events ∧ t.portA.buf = kept) ∧
        (10000 < now - x →
          t.time.station = x ∧ t.time.hold = 0 ∧ (∀ m, t.inputModule m = { s.inputModule m with floor := 0 }) ∧
          t.portA.buf = kept.map (fun h => { h with trx := h.trx.map (fun r => min r x) }) ∧
          t.events = (offer { kind := .timeStep, cls := .alarm, time := x, subject := 65535,
                              extra := min ((now - x) / 10) 65535 } { s with time := t.time }).events))) ∧
  ∀ (dest src seq : Byte) (payload : List Byte) (s : State), s.resetLow = false → payload.length ≤ 200 →
    s.portA.rx = .withinFrame → s.portA.buf.length < 8 → (dest.toNat = s.node ∨ dest = 255) →
    exec (.timeFrame dest src seq payload) s = exec (.frameReceived .A (mkFrame dest src 0x21 seq payload).chars) s

/-- The event time of a report: receipt time less age, or the receipt time where the age is unknown, raised to the module's floor, with
ADJUSTED and APPROX; the floor of a report that is not ignored becomes that time (R52). -/
def Obligations.EventTimeOfAReport : Prop :=
  (∀ trx age floor : Nat,
    let raw := if age = 65535 then trx else if age ≤ trx then trx - age else 0
    (stampReport trx age floor).time = max raw floor ∧
    ((stampReport trx age floor).approx = true ↔ age = 65535) ∧
    ((stampReport trx age floor).adjusted = true ↔ (age ≠ 65535 ∧ trx < age) ∨ raw < floor)) ∧
  ∀ (m : Fin 16) (trx : Nat) (r : Report) (s : State),
    (∀ p, reportPoint s m r = some p →
      ((takeReport m trx r s).inputModule m).floor = (stampReport trx r.age (s.inputModule m).floor).time) ∧
    (reportPoint s m r = none → ((takeReport m trx r s).inputModule m).floor = (s.inputModule m).floor)

/-! ### Scan Intake -/

/-- The reports of a frame are taken by descending age, then ascending channel, then frame order (R33); a GOOD report gives its pulse pairs,
each away from the contact before it and back with APPROX, and then its net change (R36). -/
def Obligations.ReportsAreOrderedAndExpanded : Prop :=
  (∀ rs : List Report,
    let age (r : Report) : Nat := if r.age = 65535 then 0 else r.age
    (orderReports rs).Perm rs ∧
    (orderReports rs).Pairwise (fun a b => age b < age a ∨ (age a = age b ∧ a.channel ≤ b.channel)) ∧
    ∀ a c : Nat, (orderReports rs).filter (fun r => decide (age r = a ∧ r.channel = c)) =
      rs.filter (fun r => decide (age r = a ∧ r.channel = c))) ∧
  ∀ (before : Bool) (r : Report) (st : Stamp),
    (transitionsOf before r st).length = 2 * r.pulses + (if r.contact = before then 0 else 1) ∧
    ∀ (i : Nat) (tr : Transition), (transitionsOf before r st)[i]? = some tr →
      (i < 2 * r.pulses → tr.contact = (if i % 2 = 0 then !before else before) ∧ tr.stamp = { st with approx := true }) ∧
      (2 * r.pulses ≤ i → tr.contact = r.contact ∧ tr.stamp = st)

/-- A SCAN frame belongs to an enabled module that holds its source address, and to none where no enabled module holds it (R30). One from
no enabled module, a malformed one and a duplicate are counted and give up their place; each frame accepted
restarts the module's supervision, moves the module by its state, offers MODULE_GAP or MODULE_LIVE, and then has its reports taken in
order (R29 to R35). A TIME frame between two reports acts as its own row would: the reports after it are dated from the receipt time it
lowers, against the floors it clears (R49; that `State.arriving` holds these frames is log entry 14). -/
def Obligations.ScanFrameMovesItsModule : Prop :=
  (∀ (a : Byte) (s : State),
    (∀ m, moduleAt s a = some m → ∃ d, (s.inputModule m).defn = some d ∧ d.address = a.toNat) ∧
    (moduleAt s a = none ↔ ∀ m d, (s.inputModule m).defn = some d → d.address ≠ a.toNat)) ∧
  (∀ (before after : List Held) (h : Held) (s : State), s.resetLow = false → s.flowSettled →
    s.portA.buf = before ++ h :: after → Held.owned 0x11 h = true → (∀ k ∈ before, Held.owned 0x11 k = false) →
    let taken (t : State) : State :=
      { t with arriving := [], portA := t.portA.withGiven t.settings.lowA (t.portA.buf.eraseP (Held.owned 0x11)) }
    s.scanReceipt = h.trx.getD s.time.station ∧ s.portA.buf.eraseP (Held.owned 0x11) = before ++ after ∧
    (moduleAt s h.frame.src = none →
      exec .scanFrame s = .next (taken { s with unknownSource := min (s.unknownSource + 1) 65535 })) ∧
    ∀ (m : Fin 16) (d : ModuleDef), moduleAt s h.frame.src = some m → (s.inputModule m).defn = some d →
      let v := s.inputModule m
      let fed : InputModule := { v with supervision := some d.supervision }
      (parseScan h.frame.payload = none →
        exec .scanFrame s = .next (taken (s.setInputModule m { v with malformed := min (v.malformed + 1) 65535 }))) ∧
      ∀ (seq : Nat) (rs : List Report), parseScan h.frame.payload = some (seq, rs) →
        let takes (u : State) : Prop :=
          exec .scanFrame s = .next (taken (takeOrdered m (orderReports rs) s.arriving u))
        (v.state = .live → v.lastSeq = some seq →
          exec .scanFrame s = .next (taken (s.setInputModule m { fed with duplicates := min (v.duplicates + 1) 65535 }))) ∧
        (∀ last : Nat, v.state = .live → v.lastSeq = some last → seq = (last + 1) % 256 → seq ≠ last →
          takes (s.setInputModule m { fed with lastSeq := some seq })) ∧
        (∀ last : Nat, v.state = .live → v.lastSeq = some last → seq ≠ (last + 1) % 256 → seq ≠ last →
          takes ((offerNow .moduleGap .alarm m.val 0 ((seq + 255 - last) % 256) s).setInputModule
            m { fed with lastSeq := some seq })) ∧
        (v.state = .unseen → takes (s.setInputModule m { fed with state := .live, lastSeq := some seq })) ∧
        (v.state = .silent → takes ((offerNow .moduleLive .trip m.val 0 0
          (clearAt d.window (s.setInputModule m { fed with state := .live }))).setInputModule
            m { fed with state := .live, lastSeq := some seq }))) ∧
  (∀ (m : Fin 16) (u : State),
    (∀ between, takeOrdered m [] between u = u) ∧
    (∀ rs, takeOrdered m rs [] u = State.each rs (takeReport m u.scanReceipt) u) ∧
    ∀ (r : Report) (rs : List Report) (arrived : List TimeArrival) (between : List (List TimeArrival)),
      let late := State.each arrived timeArrives u
      takeOrdered m (r :: rs) (arrived :: between) u = takeOrdered m rs between (takeReport m late.scanReceipt r late)) ∧
  (∀ (a : TimeArrival) (before after : List Held) (h : Held) (u : State), u.resetLow = false → u.portA.buf.length < 8 →
    (a.dest.toNat = u.node ∨ a.dest = 255) → u.portA.buf = before ++ h :: after → Held.owned 0x11 h = true →
    (∀ k ∈ before, Held.owned 0x11 k = false) →
    let x := natOfBytes a.payload
    exec (.timeFrame a.dest a.src a.seq a.payload) { u with portA := { u.portA with rx := .withinFrame } } =
      .next (timeArrives a u) ∧
    (a.payload.length = 6 → 10000 < u.time.station - x →
      (timeArrives a u).scanReceipt = min (h.trx.getD u.time.station) x ∧
      ∀ m, ((timeArrives a u).inputModule m).floor = 0)) ∧
  ∀ (b c : Byte) (body : List Byte),
    parseScan [] = none ∧ parseScan [b] = none ∧
    (48 < c.toNat ∨ body.length ≠ 4 * c.toNat → parseScan (b :: c :: body) = none) ∧
    (c.toNat ≤ 48 → body.length = 4 * c.toNat → ∃ rs : List Report, parseScan (b :: c :: body) = some (b.toNat, rs) ∧
      rs.length = c.toNat ∧ ∀ (i : Nat) (r : Report), rs[i]? = some r → ∃ ch st hi lo : Byte,
        (body.drop (4 * i)).take 4 = [ch, st, hi, lo] ∧ r.channel = ch.toNat ∧ r.contact = st.getLsbD 0 ∧
        r.quality = (if st.getLsbD 1 then .bad else .good) ∧ r.pulses = (st.toNat / 4) % 4 ∧ r.age = hi.toNat * 256 + lo.toNat)

/-- A report for a defined point delivers its quality, with POINT_QUALITY where that changes, and with GOOD its transitions in order,
all dated as R52 says; it leaves the point with the reported contact and quality GOOD, or BAD with contact and condition kept; no other
point and no other module changes, and a report that is ignored is counted (R5, R6, R8, R9, R16, R34 to R37). A report is ignored unless
its channel is below its module's channel count and the point of that channel is defined (R35). That the records of the
Trip Matrix and the Channel Unit stand before POINT_QUALITY is the model's choice (R148, log entry 8). -/
def Obligations.GoodReportSetsItsPoint : Prop :=
  (∀ (before after : List Held) (h : Held) (m : Fin 16) (d : ModuleDef) (p : Fin 1024) (pd : PointDef) (seq last : Nat)
    (r : Report) (s : State),
    s.resetLow = false → s.portA.buf = before ++ h :: after → Held.owned 0x11 h = true →
    (∀ k ∈ before, Held.owned 0x11 k = false) → moduleAt s h.frame.src = some m → (s.inputModule m).defn = some d →
    (s.inputModule m).state = .live → (s.inputModule m).lastSeq = some last → seq = (last + 1) % 256 → seq ≠ last →
    parseScan h.frame.payload = some (seq, [r]) → s.arriving.headD [] = [] → reportPoint s m r = some p →
    (s.point p).defn = some pd →
    let st := stampReport (h.trx.getD s.time.station) r.age (s.inputModule m).floor
    ∃ t : State, exec .scanFrame s = .next t ∧ s.onlyModules { t with portA := s.portA, arriving := s.arriving } ∧
      t.inputModule m = { s.inputModule m with supervision := some d.supervision, lastSeq := some seq, floor := st.time } ∧
      (∀ n, n ≠ m → t.inputModule n = s.inputModule n) ∧ (∀ q, q ≠ p → t.point q = s.point q) ∧
      (t.point p).defn = some pd ∧ (t.point p).quality = r.quality ∧
      (r.quality = .good → (t.point p).contact = r.contact ∧
        (s.conditionsDerived → (t.point p).condition =
          if pd.kind = .maintained ∧ r.contact = pd.polarity.alarmContact then .alarm else .normal) ∧
        (t.point p).lastEvent = (if r.pulses = 0 ∧ r.contact = (s.point p).contact then (s.point p).lastEvent else st.time)) ∧
      (r.quality = .bad → (t.point p).contact = (s.point p).contact ∧ (t.point p).condition = (s.point p).condition ∧
        (t.point p).lastEvent = (s.point p).lastEvent)) ∧
  (∀ (m : Fin 16) (r : Report) (s : State) (p : Fin 1024), reportPoint s m r = some p ↔
    p.val = m.val * 64 + r.channel ∧ r.channel < 64 ∧ (s.point p).defn ≠ none ∧
    ∃ d, (s.inputModule m).defn = some d ∧ r.channel < d.channels) ∧
  ∀ (m : Fin 16) (trx : Nat) (r : Report) (s : State),
    (reportPoint s m r = none → takeReport m trx r s =
      s.setInputModule m { s.inputModule m with ignored := min ((s.inputModule m).ignored + 1) 65535 }) ∧
    ∀ (p : Fin 1024) (pd : PointDef), reportPoint s m r = some p → (s.point p).defn = some pd →
      let v := s.point p
      let st := stampReport trx r.age (s.inputModule m).floor
      let stamped := s.setInputModule m { s.inputModule m with floor := st.time }
      let x : Point := { v with quality := r.quality }
      let a := pd.announce x v.announced
      let told := tripDeliver p (stamped.setPoint p x)
      let shown := if s.mode = .configuring ∨ a = v.announced then told
        else if a = .alarm then activateAt pd.window none (told.setPoint p { x with announced := a })
        else clearAt pd.window (told.setPoint p { x with announced := a })
      let judged := if r.quality = v.quality then stamped
        else if pd.inhibited then shown
        else offer { kind := .pointQuality, cls := .alarm, time := st.time, subject := p.val,
                     value := if r.quality = .good then 0 else 1, adjusted := st.adjusted, approx := st.approx } shown
      p.val = m.val * 64 + r.channel ∧
      (r.quality = .bad → takeReport m trx r s = judged) ∧
      (r.quality = .good → takeReport m trx r s = State.each (transitionsOf v.contact r st) (applyTransition p) judged)

/-- The expiry of a module's supervision makes it SILENT and its GOOD defined points BAD, each delivered to the Trip Matrix without a
record, then offers MODULE_SILENT and activates the module's window (R7, R39, R40). That the points go BAD in ascending number (log entry
22), and that MODULE_SILENT stands after the records of the Trip Matrix and the Channel Unit (R148, log entry 8), is the model's choice. -/
def Obligations.ModuleFallsSilent : Prop :=
  ∀ (m : Fin 16) (d : ModuleDef) (s : State), s.resetLow = false → s.announcedDerived → (s.inputModule m).defn = some d →
    (s.inputModule m).state ≠ .silent → (s.inputModule m).supervision = some 0 →
    let silent := s.setInputModule m { s.inputModule m with state := .silent, supervision := none }
    let bad (p : Fin 1024) (x : State) : State := tripDeliver p (x.setPoint p { x.point p with quality := .bad })
    let u := modulePointsBad m silent
    ∃ t : State, exec (.moduleSupervisionExpiry m) s = .next t ∧
      t = activateAt d.window none (offerNow .moduleSilent .trip m.val 0 0 u) ∧ s.onlyModules t ∧
      t.inputModule m = { s.inputModule m with state := .silent, supervision := none } ∧
      (∀ n, n ≠ m → t.inputModule n = s.inputModule n) ∧
      (∀ p, t.point p = if moduleOf p = m ∧ (s.point p).defn ≠ none then { s.point p with quality := .bad } else s.point p) ∧
      (s.canonical = true → u = State.each ((List.finRange 1024).filter (fun p =>
        decide (moduleOf p = m ∧ (s.point p).defn ≠ none ∧ (s.point p).quality = .good))) bad silent) ∧
      ((∀ e, (s.element e).defn = none) → u = { s with modules := t.modules, points := t.points })

/-- In CONFIGURING a module entry is written and cleared by its state before: enabled anew with its floor kept, rewritten in place, or
cleared, by CLEAR ENTRY or by a write with enabled no, with its points BAD and the window of a SILENT module cleared (R26 to R28). -/
def Obligations.ModuleEntryIsWrittenAndCleared : Prop :=
  ∀ (src : Byte) (index : BitVec 16) (m : Fin 16) (s : State), s.ready src → s.mode = .configuring → s.announcedDerived →
    index.toNat = m.val →
    let v := s.inputModule m
    (∀ (entry : List Byte) (d : ModuleDef), readModule entry = some (some d) → moduleAddressTaken s m d.address = false →
      windowFull s (fun w => moduleNames s w m) d.window = false →
      (v.defn = none → exec (.writeModule src index entry) s = .next
        ((s.setInputModule m { defn := some d, supervision := some d.supervision, floor := v.floor }).answered src
          (entryOk 0x02 .module index))) ∧
      (∀ old, v.defn = some old → old.address = d.address → v.state ≠ .silent →
        exec (.writeModule src index entry) s = .next
          ((s.setInputModule m { v with defn := some d, supervision := some d.supervision }).answered src
            (entryOk 0x02 .module index))) ∧
      (∀ old, v.defn = some old → old.address = d.address → v.state = .silent →
        exec (.writeModule src index entry) s = .next
          ((if old.window = d.window then s.setInputModule m { v with defn := some d, supervision := none }
            else activateAt d.window none (clearAt old.window
              (s.setInputModule m { v with defn := some d, supervision := none }))).answered src (entryOk 0x02 .module index))) ∧
      (∀ old, v.defn = some old → old.address ≠ d.address →
        ∃ t : State, exec (.writeModule src index entry) s = .next (t.answered src (entryOk 0x02 .module index)) ∧
          s.onlyModules t ∧ (∀ n, n ≠ m → t.inputModule n = s.inputModule n) ∧
          t.inputModule m = { defn := some d, supervision := some d.supervision, floor := v.floor } ∧
          ∀ p, t.point p = if moduleOf p = m ∧ (s.point p).defn ≠ none then { s.point p with quality := .bad } else s.point p)) ∧
    let clears (t : State) : Prop :=
      exec (.clearModule src index) s = .next (t.answered src (entryOk 0x03 .module index)) ∧
      ∀ rest : List Byte, rest.length = 5 →
        exec (.writeModule src index (0x00 :: rest)) s = .next (t.answered src (entryOk 0x02 .module index))
    (v.defn = none → clears s) ∧
    ∀ old, v.defn = some old →
      ∃ t : State, clears t ∧ s.onlyModules t ∧ (∀ n, n ≠ m → t.inputModule n = s.inputModule n) ∧
        t.inputModule m = { v with defn := none, state := .unseen, lastSeq := none, supervision := none } ∧
        (∀ p, t.point p = if moduleOf p = m ∧ (s.point p).defn ≠ none then { s.point p with quality := .bad } else s.point p) ∧
        (∀ w, (t.window w).count =
          (s.window w).count - (if v.state = .silent ∧ old.window = some w then 1 else 0))

/-! ### The Point Unit -/

/-- A transition sets contact and last event time; a condition change goes to the Trip Matrix, offers POINT_ALARM or POINT_NORMAL, is
counted for chatter, may suppress the point with CHATTER_ON, and moves the announced condition; a MOMENTARY point goes to ALARM and back
(R4, R5, R8, R9, R11, R12, R15, R16; that the record of the return is judged on the suppression before the transition is log entry 9).
That the records of the Trip Matrix and the Channel Unit stand before POINT_ALARM or POINT_NORMAL, and FIRST_OUT after CHATTER_ON, is the
model's choice (R148, log entry 8).
A decay expiry lowers every count by 1 and releases a suppressed point at 0, with CHATTER_OFF (R13, R14). -/
def Obligations.TransitionMovesThePoint : Prop :=
  (∀ (p : Fin 1024) (d : PointDef) (tr : Transition) (s : State), (s.point p).defn = some d →
    tr.contact ≠ (s.point p).contact →
    let v := s.point p
    let t := applyTransition p tr s
    let moved : Point := { v with contact := tr.contact, lastEvent := tr.stamp.time }
    let counts := s.mode ≠ .configuring ∧ d.inhibited = false ∧ 2 ≤ d.chatterLimit
    let n := min (v.chatter + 1) 15
    let changed (c : Condition) : Point := { moved with
      condition := c
      chatter := if counts then n else v.chatter
      suppressed := v.suppressed || decide (counts ∧ d.chatterLimit ≤ n) }
    let stamped (kind : RecordKind) (cls : RecClass) : Offer := { kind := kind, cls := cls, time := tr.stamp.time, subject := p.val,
                                                                  adjusted := tr.stamp.adjusted, approx := tr.stamp.approx }
    let change (c : Condition) (counted : Bool) (u : State) : State :=
      let w := u.point p
      let told := tripDeliver p (u.setPoint p { w with condition := c })
      let recorded := if w.quality = .good ∧ v.suppressed = false ∧ d.inhibited = false
        then offer (stamped (if c = .alarm then .pointAlarm else .pointNormal) d.cls) told else told
      let k := min (w.chatter + 1) 15
      let onset := counted = true ∧ counts ∧ w.suppressed = false ∧ d.chatterLimit ≤ k
      let x : Point := { w with condition := c, chatter := if counted = true ∧ counts then k else w.chatter
                                suppressed := w.suppressed || decide onset }
      let chattered := if onset then offer (stamped .chatterOn .alarm) (recorded.setPoint p x) else recorded.setPoint p x
      let a := d.announce x w.announced
      if s.mode = .configuring ∨ a = w.announced then chattered
      else if a = .alarm then activateAt d.window (some (p, tr.stamp.time)) (chattered.setPoint p { x with announced := a })
      else clearAt d.window (chattered.setPoint p { x with announced := a })
    s.onlyPoints t ∧ (∀ q, q ≠ p → t.point q = s.point q) ∧
    (d.kind = .maintained → d.derive tr.contact = v.condition → t = s.setPoint p moved) ∧
    (d.kind = .maintained → d.derive tr.contact ≠ v.condition →
      t = change (d.derive tr.contact) true (s.setPoint p moved) ∧
      let c := changed (d.derive tr.contact)
      t.point p = if s.mode = .configuring then c else { c with announced := d.announce c v.announced }) ∧
    (d.kind = .momentary → tr.contact ≠ d.polarity.alarmContact → t = s.setPoint p moved) ∧
    (d.kind = .momentary → tr.contact = d.polarity.alarmContact →
      t = change .normal false (change .alarm true (s.setPoint p moved)) ∧
      (v.quality = .good →
        let c := changed .normal
        t.point p = if s.mode = .configuring then c else { c with announced := d.announce c v.announced })) ∧
    ((∀ e x, (s.element e).defn = some x → ∀ i ∈ x.inputs, i.point ≠ p) → tripDeliver p s = s)) ∧
  ∀ s : State, s.resetLow = false → s.canonical = true → s.decay = some 0 →
    ∃ t : State, exec .chatterDecayExpiry s = .next t ∧
      t = { s with points := t.points, decay := some s.settings.chatterInterval, ann := t.ann, events := t.events } ∧
      t.events = (State.each ((List.finRange 1024).filter (fun p =>
          decide ((s.point p).defn ≠ none ∧ (s.point p).suppressed = true ∧ (s.point p).chatter = 1)))
        (fun p u => offer { kind := .chatterOff, cls := .alarm, time := s.time.station, subject := p.val,
                            value := if (s.point p).condition = .alarm then 1 else 0 } u) s).events ∧
      ∀ p, let v := s.point p
        (v.defn = none → t.point p = v) ∧
        ∀ d, v.defn = some d →
          let u : Point := { v with chatter := 0, suppressed := false }
          t.point p =
            if v.suppressed = true ∧ v.chatter = 1 then
              (if s.mode = .configuring then u else { u with announced := d.announce u v.announced })
            else { v with chatter := v.chatter - 1 }

/-- A point written in CONFIGURING keeps contact, quality and last event time, or takes the initial ones, has its condition derived,
and is announced NORMAL with no record; in RUN and TEST its old contribution is cleared, a change of condition goes to the Trip Matrix and
offers POINT_ALARM or POINT_NORMAL, and it is announced anew; a clear, or a write with defined no (log entry 10), returns every field (R15,
R16, R18 to R21). That the records of the Trip Matrix and the Channel Unit stand before the point's is the model's choice (R148,
log entry 8). -/
def Obligations.PointEntryIsWrittenAndCleared : Prop :=
  ∀ (src : Byte) (index : BitVec 16) (p : Fin 1024) (s : State), s.ready src → index.toNat = p.val →
    let v := s.point p
    (∀ (entry : List Byte) (d : PointDef), readPoint entry = some (some d) →
      (s.mode ≠ .configuring → windowKnown s d.window = true ∧ pointPlaced s p = true) →
      windowFull s (fun w => pointNames s w p) d.window = false →
      let kept : Point := if v.defn = none then {} else v
      let u : Point := { kept with defn := some d, condition := d.derive kept.contact, announced := .normal, chatter := 0,
                                   suppressed := false }
      let a := d.announce u kept.announced
      let removed := match v.defn with
        | some old => if v.announced = Condition.alarm then clearAt old.window s else s
        | none => s
      let told := tripDeliver p (removed.setPoint p u)
      let derived := if u.condition = kept.condition then removed.setPoint p u
        else if kept.quality = .good ∧ d.inhibited = false then
          offer { kind := if u.condition = .alarm then .pointAlarm else .pointNormal, cls := d.cls, time := s.time.station,
                  subject := p.val } told
        else told
      let put := derived.setPoint p { u with announced := a }
      ∃ t : State, exec (.writePoint src index entry) s = .next (t.answered src (entryOk 0x02 .point index)) ∧
        s.onlyPoints t ∧ (∀ q, q ≠ p → t.point q = s.point q) ∧
        (s.mode = .configuring → t.point p = u ∧ t = { s with points := t.points, elements := t.elements } ∧
          t = if u.condition = kept.condition then s.setPoint p u else tripDeliver p (s.setPoint p u)) ∧
        (s.mode ≠ .configuring → t.point p = { u with announced := a } ∧
          t = if a = .alarm then activateAt d.window none put else put)) ∧
    ((∀ e, elementLists s p e = false) →
      let cleared := (match v.defn with
        | some d => if s.mode ≠ Mode.configuring ∧ v.announced = Condition.alarm then clearAt d.window s else s
        | none => s).setPoint p {}
      exec (.clearPoint src index) s = .next (cleared.answered src (entryOk 0x03 .point index)) ∧
      ∀ entry, readPoint entry = some none →
        exec (.writePoint src index entry) s = .next (cleared.answered src (entryOk 0x02 .point index)))

/-- After every step the condition of every defined point follows its contact, and its announced condition is the derived one (R3, R4, R8,
R22, R23). -/
def Obligations.EveryStepKeepsThePointsDerived : Prop :=
  (∀ s t : State, s.conditionsDerived → step s = .next t → t.conditionsDerived) ∧
  ∀ s t : State, s.announcedDerived → step s = .next t → t.announcedDerived

/-! ### The Annunciation Unit -/

/-- An activation raises a window's active count and in RUN and TEST brings a defined window to FAST, with the entry handed to its horn; a
clear lowers the count and returns a STEADY window at 0 to SLOW or DARK, where its group rearms (R61, R62, R64, R65, R68, R90, R95). -/
def Obligations.WindowFollowsItsSources : Prop :=
  (∀ (w : Fin 192) (capture : Option (Fin 1024 × Nat)) (s : State),
    let v := s.window w
    let t := activate w capture s
    (t.window w).count = v.count + 1 ∧ (t.window w).defn = v.defn ∧
    (∀ j, j ≠ w → (t.window j).defn = (s.window j).defn ∧ (t.window j).state = (s.window j).state ∧
      (t.window j).count = (s.window j).count) ∧
    (s.mode = .configuring ∨ v.defn = none →
      (t.window w).state = v.state ∧ t.ann.groups = s.ann.groups ∧ t.ann.horns = s.ann.horns ∧ t.events = s.events) ∧
    ∀ d, s.mode ≠ .configuring → v.defn = some d →
      (t.window w).state = .fast ∧
      (v.state = .fast ∨ hornOfGroup s d.group = none → t.ann.horns = s.ann.horns) ∧
      (∀ h, v.state ≠ .fast → hornOfGroup s d.group = some h →
        t.horn h = { s.horn h with state := .sounding, fastCount := (s.horn h).fastCount + 1 } ∧
        (∀ k, k ≠ h → t.horn k = s.horn k) ∧
        (t.ann.phaseWaiting = true ↔ s.ann.phaseWaiting = true ∨ (s.horn h).state ≠ .sounding)) ∧
      (capture = none → t.ann.groups = s.ann.groups ∧ t.events = s.events)) ∧
  ∀ (w : Fin 192) (s : State),
    let v := s.window w
    let t := clearSource w s
    t.events = s.events ∧ t.ann.horns = s.ann.horns ∧
    (t.window w).count = v.count - 1 ∧ (t.window w).defn = v.defn ∧
    (∀ j, j ≠ w → t.window j = s.window j) ∧
    (s.mode = .configuring ∨ v.defn = none ∨ v.state ≠ .steady ∨ 1 < v.count →
      (t.window w).state = v.state ∧ t.ann.groups = s.ann.groups) ∧
    ∀ d, s.mode ≠ .configuring → v.defn = some d → v.state = .steady → v.count ≤ 1 →
      (d.sequence = .manualReset → (t.window w).state = .slow ∧ t.ann.groups = s.ann.groups) ∧
      (d.sequence = .autoReset → (t.window w).state = .dark ∧
        ((s.group d.group).foWindow ≠ some w → t.ann.groups = s.ann.groups) ∧
        ((s.group d.group).foWindow = some w → (t.window w).mark = false ∧
          t.group d.group = { s.group d.group with state := .armed, foWindow := none, foPoint := none, settle := none }))

/-- A capturing activation of an eligible window offers its point and event time to its group: an ARMED group records it, for its settle
time or for good; a PROVISIONAL one takes an earlier time, or the same time at a lower window (R85 to R89). -/
def Obligations.FirstOutTakesTheEarliest : Prop :=
  ∀ (w : Fin 192) (p : Fin 1024) (time : Nat) (d : WindowDef) (gd : GroupDef) (s : State), s.mode ≠ .configuring →
    (s.window w).defn = some d → (s.group d.group).defn = some gd →
    let g := s.group d.group
    let t := activate w (some (p, time)) s
    (d.eligible = false ∨ gd.firstOut = false ∨ g.state = .captured → t.ann.groups = s.ann.groups ∧ t.events = s.events) ∧
    (d.eligible = true → gd.firstOut = true →
      (g.state = .armed → 0 < gd.settle → (t.window w).mark = true ∧ t.events = s.events ∧
        t.group d.group = { g with state := .provisional, foWindow := some w, foPoint := some p, captured := time,
                                   settle := some gd.settle }) ∧
      (g.state = .armed → gd.settle = 0 → (t.window w).mark = true ∧
        t.group d.group = { g with state := .captured, foWindow := some w, foPoint := some p, captured := time } ∧
        t.events = (offer { kind := .firstOut, cls := .alarm, time := time, subject := d.group.val, extra := p.val } s).events) ∧
      ∀ u, g.state = .provisional → g.foWindow = some u → t.events = s.events ∧
        (time < g.captured ∨ (time = g.captured ∧ w < u) →
          (t.window w).mark = true ∧ (u ≠ w → (t.window u).mark = false) ∧
          t.group d.group = { g with foWindow := some w, foPoint := some p, captured := time }) ∧
        (¬ (time < g.captured ∨ (time = g.captured ∧ w < u)) → t.ann.groups = s.ann.groups))

/-- An ACK of a group, by command or by button, takes each FAST window of the group to STEADY, SLOW or DARK, hands the exits to its
horn, rearms the group where its first-out window reaches DARK, and offers GROUP_ACK with its origin; none of it in CONFIGURING
(R66, R68, R90, R91, R93, R94). -/
def Obligations.AckOfAGroup : Prop :=
  ∀ (g : Fin 32) (target : Byte) (s : State), s.resetLow = false → s.canonical = true → s.definedGroup target = some g →
    let inGroup (w : Fin 192) : Bool := match (s.window w).defn with
      | some d => decide (d.group = g)
      | none => false
    let darkens (w : Fin 192) : Prop := inGroup w = true ∧ (s.window w).state = .fast ∧ (s.window w).count = 0 ∧
      ∃ d, (s.window w).defn = some d ∧ d.sequence = .autoReset
    let exits := ((List.finRange 192).filter (fun w => inGroup w && decide ((s.window w).state = .fast))).length
    let acked (origin : Nat) (u : State) : Prop :=
      u = { s with ann := u.ann, events := (offerNow .groupAck .alarm g.val 0 origin s).events } ∧
      (∀ w, (u.window w).defn = (s.window w).defn ∧ (u.window w).count = (s.window w).count ∧
        (inGroup w = true → (s.window w).state = .fast → 0 < (s.window w).count → (u.window w).state = .steady) ∧
        (∀ d, inGroup w = true → (s.window w).state = .fast → (s.window w).count = 0 → (s.window w).defn = some d →
          (u.window w).state = if d.sequence = .manualReset then .slow else .dark) ∧
        (inGroup w = false ∨ (s.window w).state ≠ .fast → (u.window w).state = (s.window w).state)) ∧
      (∀ h, hornOfGroup s g ≠ some h ∨ exits = 0 → u.horn h = s.horn h) ∧
      (∀ h, hornOfGroup s g = some h → 0 < exits → u.horn h = { s.horn h with
        fastCount := (s.horn h).fastCount - exits
        state := if (s.horn h).fastCount ≤ exits then .quiet else (s.horn h).state }) ∧
      (∀ k, k ≠ g → u.group k = s.group k) ∧
      (∀ w, (s.group g).foWindow = some w → darkens w →
        u.group g = { s.group g with state := .armed, foWindow := none, foPoint := none, settle := none }) ∧
      ((∀ w, (s.group g).foWindow = some w → ¬ darkens w) → u.group g = s.group g)
    (∀ src, s.ready src → s.mode ≠ .configuring →
      ∃ u, exec (.groupAck src target) s = .next (u.answered src [0x20, 0x00]) ∧ acked 1 u) ∧
    (∀ src, s.ready src → s.mode = .configuring → exec (.groupAck src target) s = .next (s.answered src [0x20, 0x00])) ∧
    ∀ (before after : List Held) (h : Held), s.flowSettled → s.portB.buf = before ++ h :: after → Held.owned 0x53 h = true →
      (∀ k ∈ before, Held.owned 0x53 k = false) → h.frame.payload = [0x01, target] →
      let given (u : State) : State := { u with portB := u.portB.withGiven u.settings.lowB (before ++ after) }
      (s.mode ≠ .configuring → ∃ u, exec .buttonAck s = .next (given u) ∧ acked 0 u) ∧
      (s.mode = .configuring → exec .buttonAck s = .next (given s))

/-- A RESET of a group, by command or by button, takes each SLOW window of the group to DARK, rearms the group where that was its
first-out window, and offers GROUP_RESET; none of it in CONFIGURING (R67, R90, R92 to R94). -/
def Obligations.ResetOfAGroup : Prop :=
  ∀ (g : Fin 32) (target : Byte) (s : State), s.resetLow = false → s.definedGroup target = some g →
    let slow (w : Fin 192) : Bool := match (s.window w).defn with
      | some d => decide (d.group = g ∧ (s.window w).state = .slow)
      | none => false
    let reset (u : State) : Prop :=
      u = { s with ann := u.ann, events := (offerNow .groupReset .alarm g.val 0 0 s).events } ∧ u.ann.horns = s.ann.horns ∧
      (∀ w, (u.window w).defn = (s.window w).defn ∧ (u.window w).count = (s.window w).count ∧
        (u.window w).state = if slow w then .dark else (s.window w).state) ∧
      (∀ k, k ≠ g → u.group k = s.group k) ∧
      (∀ w, (s.group g).foWindow = some w → slow w = true → (u.window w).mark = false ∧
        u.group g = { s.group g with state := .armed, foWindow := none, foPoint := none, settle := none }) ∧
      ((∀ w, (s.group g).foWindow = some w → slow w = false) → u.group g = s.group g)
    (∀ src, s.ready src → s.mode ≠ .configuring →
      ∃ u, exec (.groupReset src target) s = .next (u.answered src [0x21, 0x00]) ∧ reset u) ∧
    (∀ src, s.ready src → s.mode = .configuring → exec (.groupReset src target) s = .next (s.answered src [0x21, 0x00])) ∧
    ∀ (before after : List Held) (h : Held), s.flowSettled → s.portB.buf = before ++ h :: after → Held.owned 0x53 h = true →
      (∀ k ∈ before, Held.owned 0x53 k = false) → h.frame.payload = [0x02, target] →
      let given (u : State) : State := { u with portB := u.portB.withGiven u.settings.lowB (before ++ after) }
      (s.mode ≠ .configuring → ∃ u, exec .buttonReset s = .next (given u) ∧ reset u) ∧
      (s.mode = .configuring → exec .buttonReset s = .next (given s))

/-- A SILENCE of a SOUNDING horn, by command or by button, makes it SILENCED, offers HORN_SILENCE and puts a PHASE frame on wait; of any
other horn it changes nothing (R74, R93, R94, R96). The PHASE frame carries each horn's output byte after the patterns (R97). -/
def Obligations.SilenceOfAHorn : Prop :=
  (∀ (h : Fin 4) (target : Byte) (s : State), s.resetLow = false → target.toNat = h.val →
    let silenced := if (s.horn h).state = .sounding then
        offerNow .hornSilence .alarm h.val 0 0 { s.setHorn h { s.horn h with state := .silenced } with
          ann := { (s.setHorn h { s.horn h with state := .silenced }).ann with phaseWaiting := true } }
      else s
    (∀ src, s.ready src → exec (.hornSilence src target) s = .next (silenced.answered src [0x22, 0x00])) ∧
    ∀ (before after : List Held) (k : Held), s.flowSettled → s.portB.buf = before ++ k :: after → Held.owned 0x53 k = true →
      (∀ j ∈ before, Held.owned 0x53 j = false) → k.frame.payload = [0x03, target] →
      exec .buttonSilence s = .next
        { silenced with portB := silenced.portB.withGiven silenced.settings.lowB (before ++ after) }) ∧
  ∀ h : Horn,
    (h.state = .sounding → h.sound = .continuous → h.output = 0x01) ∧
    (h.state = .sounding → h.sound = .pulsed → h.output = 0x02) ∧ (h.state ≠ .sounding → h.output = 0x00) ∧
    ∀ (s : State) (k : Fin 4), (phasePayload s)[8 + k.val]? = some ((s.horn k).output)

/-- Lamp test on shows ON at every window and starts its 60 s limit; lamp test off, by request or at the limit, shows every derived
pattern again; either puts a PHASE frame on wait and the drivers of changed windows on the waiting list (R69, R72, R74, R76). -/
def Obligations.LampTestShowsEveryWindow : Prop :=
  ∀ s : State, s.resetLow = false →
    let shows (on : Bool) (timer : Option Nat) (pattern : Fin 192 → Shown) (u : State) : Prop :=
      u = { s with ann := { s.ann with windows := u.ann.windows, waiting := u.ann.waiting, lampTest := on, lampTimer := timer,
                                       phaseWaiting := true } } ∧
      (∀ w, u.window w = { s.window w with shown := pattern w }) ∧
      u.ann.waiting = s.ann.waiting ++ (List.finRange 6).filter (fun d => (s.driver d).isSome && !s.ann.waiting.contains d &&
        (List.finRange 192).any (fun w => decide (driverOf w = d) && decide (pattern w ≠ (s.window w).shown)))
    let dark := { s with ann := { s.ann with lampTest := false } }
    let given (u : State) (buf : List Held) : State := { u with portB := u.portB.withGiven u.settings.lowB buf }
    (s.ann.lampTest = false →
      ∃ u, shows true (some 60000) (fun _ => .on) u ∧
        (∀ src, s.ready src → exec (.lampTestOn src) s = .next (u.answered src [0x23, 0x00])) ∧
        ∀ (before after : List Held) (h : Held) (target : Byte), s.flowSettled → s.portB.buf = before ++ h :: after →
          Held.owned 0x53 h = true → (∀ k ∈ before, Held.owned 0x53 k = false) → h.frame.payload = [0x04, target] →
          exec .buttonTestOn s = .next (given u (before ++ after))) ∧
    (s.ann.lampTest = true →
      ∃ u, shows false none (derivedPattern dark) u ∧
        (∀ src, s.ready src → exec (.lampTestOff src) s = .next (u.answered src [0x23, 0x00])) ∧
        (s.ann.lampTimer = some 0 → exec .lampTestLimitExpiry s = .next u) ∧
        ∀ (before after : List Held) (h : Held) (target : Byte), s.flowSettled → s.portB.buf = before ++ h :: after →
          Held.owned 0x53 h = true → (∀ k ∈ before, Held.owned 0x53 k = false) → h.frame.payload = [0x05, target] →
          exec .buttonTestOff s = .next (given u (before ++ after))) ∧
    (∀ src, s.ready src → s.ann.lampTest = true → exec (.lampTestOn src) s = .next (s.answered src [0x23, 0x00])) ∧
    (∀ src, s.ready src → s.ann.lampTest = false → exec (.lampTestOff src) s = .next (s.answered src [0x23, 0x00]))

/-- What the expiries of the settle, refresh, interval, sync, batch and TRIP refresh timers do, and a BUTTON frame that is ignored
(R50, R73, R74, R89, R93, R135, R154). -/
def Obligations.SingleEffectRows : Prop :=
  ∀ s : State, s.resetLow = false →
    (∀ (g : Fin 32) (p : Fin 1024), (s.group g).settle = some 0 → (s.group g).state = .provisional →
      (s.group g).foPoint = some p →
      exec (.settleExpiry g) s = .next (offer
        { kind := .firstOut, cls := .alarm, time := (s.group g).captured, subject := g.val, extra := p.val }
        (s.setGroup g { s.group g with state := .captured, settle := none }))) ∧
    (s.ann.refresh = some 0 → exec .windowRefreshExpiry s = .next { s with ann := { s.ann with
      refresh := some 250
      waiting := s.ann.waiting ++ (List.finRange 6).filter (fun d => (s.driver d).isSome && !s.ann.waiting.contains d) } }) ∧
    (s.ann.phase = some 0 → exec .phaseIntervalExpiry s = .next { s with ann := { s.ann with
      phase := some 1000, phaseWaiting := true } }) ∧
    (s.time.sync = some 0 → exec .syncSupervisionExpiry s = .next { s with time := { s.time with
      quality := .free, sync := none } }) ∧
    (s.events.batch = some 0 → exec .batchTimerExpiry s = .next { s with events := { s.events with
      batch := none, headWaited := true } }) ∧
    (s.trip.refresh = some 0 → exec .tripRefreshExpiry s = .next { s with trip := { s.trip with
      refresh := some 200
      waiting := s.trip.waiting ++ (List.finRange 8).filter (fun k => (s.outputModule k).address.isSome &&
        !(hostedBy s k).isEmpty && !s.trip.waiting.contains k) } }) ∧
    ∀ (before after : List Held) (h : Held), s.flowSettled → s.portB.buf = before ++ h :: after → Held.owned 0x53 h = true →
      (∀ k ∈ before, Held.owned 0x53 k = false) →
      (¬ ∃ kind target, h.frame.payload = [kind, target] ∧
        (((kind = 0x01 ∨ kind = 0x02) ∧ (s.definedGroup target).isSome = true) ∨ (kind = 0x03 ∧ target.toNat < 4) ∨
          kind = 0x04 ∨ kind = 0x05)) →
      exec .buttonIgnored s = .next { s with
        ignoredButtons := min (s.ignoredButtons + 1) 65535
        portB := s.portB.withGiven s.settings.lowB (before ++ after) }

/-- A window written in CONFIGURING takes its definition; in RUN and TEST a new one is DARK, and a defined one keeps state and count but
goes from SLOW to DARK with AUTO_RESET, rearms the group it was first-out of, and moves a FAST entry between horns; a clear, or a write
with defined no, returns the window to DARK, with its count kept (R59, R60). -/
def Obligations.WindowEntryIsWrittenAndCleared : Prop :=
  ∀ (src : Byte) (index : BitVec 16) (w : Fin 192) (s : State), s.ready src → index.toNat = w.val →
    let v := s.window w
    let frame (t : State) : Prop := t = { s with ann := t.ann } ∧
      ∀ j, j ≠ w → (t.window j).defn = (s.window j).defn ∧ (t.window j).state = (s.window j).state ∧
        (t.window j).count = (s.window j).count
    let rearmed (t : State) (g : Fin 32) : Prop :=
      t.group g = { s.group g with state := .armed, foWindow := none, foPoint := none, settle := none }
    (∀ (entry : List Byte) (d : WindowDef), readWindow entry = some (some d) →
      (s.mode = .configuring → exec (.writeWindow src index entry) s = .next
        ((s.setWindow w { v with defn := some d }).answered src (entryOk 0x02 .window index))) ∧
      (s.mode ≠ .configuring → (s.group d.group).defn ≠ none →
        ∃ t : State, exec (.writeWindow src index entry) s = .next (t.answered src (entryOk 0x02 .window index)) ∧ frame t ∧
          (v.defn = none → t.ann.groups = s.ann.groups ∧ t.ann.horns = s.ann.horns ∧
            (t.window w).defn = some d ∧ (t.window w).state = .dark ∧ (t.window w).count = 0 ∧ (t.window w).mark = false) ∧
          ∀ old, v.defn = some old →
            (t.window w).defn = some d ∧ (t.window w).count = v.count ∧
            (t.window w).state = (if v.state = .slow ∧ d.sequence = .autoReset then .dark else v.state) ∧
            (v.mark = true → old.group ≠ d.group ∨ d.eligible = false → rearmed t old.group) ∧
            (v.state ≠ .fast ∨ old.group = d.group → t.ann.horns = s.ann.horns) ∧
            ∀ a b, v.state = .fast → old.group ≠ d.group → hornOfGroup s old.group = some a →
              hornOfGroup s d.group = some b → a ≠ b →
              (t.horn a).fastCount = (s.horn a).fastCount - 1 ∧ (t.horn b).fastCount = (s.horn b).fastCount + 1 ∧
              (t.horn b).state = .sounding)) ∧
    let clears (t : State) : Prop :=
      exec (.clearWindow src index) s = .next (t.answered src (entryOk 0x03 .window index)) ∧
      ∀ rest : List Byte, rest.length = 3 →
        exec (.writeWindow src index (0x00 :: rest)) s = .next (t.answered src (entryOk 0x02 .window index))
    (v.defn = none → (s.mode = .configuring ∨ windowInUse s w = false) → clears s) ∧
    ∀ old, v.defn = some old →
      (s.mode = .configuring → clears (s.setWindow w { v with defn := none })) ∧
      (s.mode ≠ .configuring → windowInUse s w = false →
        ∃ t : State, clears t ∧ frame t ∧
          (t.window w).defn = none ∧ (t.window w).state = .dark ∧ (t.window w).count = v.count ∧ (t.window w).mark = false ∧
          (v.mark = true → rearmed t old.group) ∧ (v.mark = false → t.ann.groups = s.ann.groups) ∧
          (v.state ≠ .fast → t.ann.horns = s.ann.horns) ∧
          ∀ a, v.state = .fast → hornOfGroup s old.group = some a → (t.horn a).fastCount = (s.horn a).fastCount - 1)

/-- A group written anew is ARMED; one written again in RUN or TEST rearms when first-out is disabled and moves its FAST windows between
horns; a group that no defined window names, or any in CONFIGURING, is cleared, by CLEAR ENTRY or by a write with defined no (R83,
R84). -/
def Obligations.GroupEntryIsWrittenAndCleared : Prop :=
  ∀ (src : Byte) (index : BitVec 16) (g : Fin 32) (s : State), s.ready src → s.canonical = true → index.toNat = g.val →
    let v := s.group g
    let fast := ((windowsOf s g).filter (fun w => decide ((s.window w).state = .fast))).length
    (∀ (entry : List Byte) (d : GroupDef), readGroup entry = some (some d) →
      (v.defn = none → exec (.writeGroup src index entry) s = .next
        ((s.setGroup g { defn := some d }).answered src (entryOk 0x02 .group index))) ∧
      ∀ old, v.defn = some old →
        (s.mode = .configuring → exec (.writeGroup src index entry) s = .next
          ((s.setGroup g { v with defn := some d }).answered src (entryOk 0x02 .group index))) ∧
        (s.mode ≠ .configuring →
          ∃ t : State, exec (.writeGroup src index entry) s = .next (t.answered src (entryOk 0x02 .group index)) ∧
            t = { s with ann := t.ann } ∧ (∀ k, k ≠ g → t.group k = s.group k) ∧
            (∀ w, (t.window w).defn = (s.window w).defn ∧ (t.window w).state = (s.window w).state ∧
              (t.window w).count = (s.window w).count) ∧
            (d.firstOut = false → v.state ≠ .armed →
              t.group g = { v with defn := some d, state := .armed, foWindow := none, foPoint := none, settle := none }) ∧
            (d.firstOut = true ∨ v.state = .armed → t.group g = { v with defn := some d }) ∧
            (∀ h, old.horn ≠ d.horn → old.horn = some h → (t.horn h).fastCount = (s.horn h).fastCount - fast) ∧
            (∀ h, old.horn ≠ d.horn → d.horn = some h → (t.horn h).fastCount = (s.horn h).fastCount + fast) ∧
            (∀ h, old.horn = d.horn ∨ (old.horn ≠ some h ∧ d.horn ≠ some h) → t.horn h = s.horn h))) ∧
    (s.mode = .configuring ∨ groupInUse s g = false →
      exec (.clearGroup src index) s = .next ((s.setGroup g {}).answered src (entryOk 0x03 .group index)) ∧
      ∀ rest : List Byte, rest.length = 3 →
        exec (.writeGroup src index (0x00 :: rest)) s = .next ((s.setGroup g {}).answered src (entryOk 0x02 .group index)))

/-- Writes and clears of driver addresses, horn sounds and patterns, each with the frames it puts on wait (R70, R71, R95). That a driver's
address written again joins the list, and that a horn's changed output puts a PHASE frame on wait, is the model's reading (log entries
11 and 12). -/
def Obligations.DriverHornAndPatternEntries : Prop :=
  ∀ (src : Byte) (index : BitVec 16) (s : State), s.ready src →
    (∀ d : Fin 6, index.toNat = d.val →
      (∀ a : Byte, 1 ≤ a.toNat → a.toNat ≤ 239 → (∀ j, j ≠ d → s.driver j ≠ some a.toNat) →
        ∃ t : State, exec (.writeDriver src index [a]) s = .next (t.answered src (entryOk 0x02 .driver index)) ∧
          t = { s.setDriver d (some a.toNat) with ann := { (s.setDriver d (some a.toNat)).ann with
                waiting := if d ∈ s.ann.waiting then s.ann.waiting else s.ann.waiting ++ [d] } }) ∧
      ∃ t : State, exec (.writeDriver src index [0xFF]) s = .next (t.answered src (entryOk 0x02 .driver index)) ∧
        exec (.clearDriver src index) s = .next (t.answered src (entryOk 0x03 .driver index)) ∧
        t = { s.setDriver d none with ann := { (s.setDriver d none).ann with
              waiting := s.ann.waiting.filter (fun j => decide (j ≠ d)) } }) ∧
    (∀ h : Fin 4, index.toNat = h.val →
      let put (x : Sound) : State := { s.setHorn h { s.horn h with sound := x } with
        ann := { (s.setHorn h { s.horn h with sound := x }).ann with
          phaseWaiting := s.ann.phaseWaiting || decide ((s.horn h).state = .sounding ∧ (s.horn h).sound ≠ x) } }
      exec (.writeHorn src index [0x00]) s = .next ((put .continuous).answered src (entryOk 0x02 .horn index)) ∧
      exec (.writeHorn src index [0x01]) s = .next ((put .pulsed).answered src (entryOk 0x02 .horn index)) ∧
      exec (.clearHorn src index) s = .next ((put .continuous).answered src (entryOk 0x03 .horn index))) ∧
    ∀ i : Fin 4, index.toNat = i.val →
      let put (x : PatternEntry) : State := { s with ann := { s.ann with patterns := s.ann.patterns.set i x, phaseWaiting := true } }
      (∀ period onTime : Byte, 2 ≤ period.toNat → period.toNat ≤ 200 → 1 ≤ onTime.toNat →
        exec (.writePattern src index [period, onTime]) s = .next
          ((put { period := period.toNat, onTime := min onTime.toNat (period.toNat - 1) }).answered src
            (entryOk 0x02 .pattern index))) ∧
      exec (.clearPattern src index) s = .next ((put (State.reset.ann.patterns.get i)).answered src (entryOk 0x03 .pattern index))

/-- After every step window states agree with active counts, every window shows its derived pattern, a horn is QUIET exactly when its FAST
count is 0, and every group holds what its state says (R62 to R69, R77, R79, R80, R82, R90, R95); the derived pattern is the first case of
R69 that applies; outside CONFIGURING a defined window's group is defined (R59, R83, R180), the FAST count of a horn is the number of
windows in FAST whose group names it (R95), and a window is marked exactly as the first-out window of its group (R82). -/
def Obligations.EveryStepKeepsTheAnnunciatorSound : Prop :=
  (∀ (s : State) (w : Fin 192), derivedPattern s w =
    if s.ann.lampTest = true then .on
    else if s.mode = .configuring ∨ (s.window w).defn = none then .off
    else match (s.window w).state, (s.window w).mark with
      | .dark, _ => .off
      | .fast, true => .first
      | .fast, false => .fast
      | .steady, true => .first
      | .steady, false => .on
      | .slow, _ => .slow) ∧
  (∀ s t : State, s.groupsKnown → step s = .next t → t.groupsKnown) ∧
  (∀ s t : State, s.canonical = true → s.windowsSound → s.groupsKnown → s.fastCounted → step s = .next t → t.fastCounted) ∧
  (∀ s t : State, s.windowsSound → s.groupsSound → s.groupsKnown → s.marksSound → step s = .next t → t.marksSound) ∧
  (∀ s t : State, s.windowsSound → step s = .next t → t.windowsSound) ∧
  (∀ s t : State, s.patternsDerived → step s = .next t → t.patternsDerived) ∧
  (∀ s t : State, s.hornsSound → step s = .next t → t.hornsSound) ∧
  ∀ s t : State, s.groupsSound → step s = .next t → t.groupsSound

/-! ### The Trip Matrix -/

/-- An input is active by its point's quality and condition, its sense and the quality policy (R102); the sum is the total of the weights
of the active inputs, and the picked and dropped tests compare it with pickup and dropout, the forced flag deciding both (R104). -/
def Obligations.VoteOfAnElement : Prop :=
  (∀ (policy : Policy) (i : ElementInput) (v : Point) (held : Bool),
    (v.quality = .good → (contribution policy i v held = true ↔
      (i.sense = .onAlarm ∧ v.condition = .alarm) ∨ (i.sense = .onNormal ∧ v.condition = .normal))) ∧
    (v.quality = .bad → contribution .badCounts i v held = true ∧ contribution .badIgnored i v held = false ∧
      contribution .badHolds i v held = held)) ∧
  voteSum [] [] = 0 ∧
  (∀ (i : ElementInput) (is : List ElementInput) (c : Bool) (cs : List Bool),
    voteSum (i :: is) (c :: cs) = (if c then i.weight else 0) + voteSum is cs) ∧
  ∀ (d : ElementDef) (el : Element), d.inRange →
    voteSum d.inputs el.contrib ≤ 120 ∧
    (el.picked d = true ↔ d.pickup ≤ el.sum ∨ el.forced = true) ∧
    (el.dropped d = true ↔ el.sum ≤ d.dropout ∧ el.forced = false) ∧
    ¬ (el.picked d = true ∧ el.dropped d = true) ∧
    ∀ (e : Fin 64) (s : State), s.element e = el → el.defn = some d → el.picked d = false → el.dropped d = false →
      evaluateElement .moves e s = s

/-- The move an evaluation makes by delay mode and state, on the picked test and on the dropped test, with its timer and records; where
the output changes, each target takes the change after the records (R106 to R111, R113, R114); where it reaches IDLE, a pending
definition is then installed and evaluated at once, or a pending clear done (R118). A delivery of a point reaches each defined element
that lists it, by rising number: its inputs on the point are computed anew, then its sum, and outside CONFIGURING it is evaluated
(R105). The targets take a change within the exit from TEST to RUN as counts only (R131); all else of a move is the same there. -/
def Obligations.EvaluationMovesByTheDelayMode : Prop :=
  (∀ (p : Fin 1024) (s : State), s.canonical = true →
    let v := s.point p
    let listing := (List.finRange 64).filter (fun e =>
      match (s.element e).defn with
      | some d => d.inputs.any (fun i => decide (i.point = p))
      | none => false)
    tripDeliver p s = State.each listing (fun e u =>
      match (s.element e).defn with
      | some d =>
        let el := u.element e
        let now := (d.inputs.zip (el.contrib.zip el.held)).map (fun x =>
          let active := contribution d.policy x.1 v x.2.2
          if x.1.point = p then (active, if v.quality = .good then active else x.2.2) else x.2)
        let w := u.setElement e { el with
          contrib := now.map Prod.fst, held := now.map Prod.snd, sum := voteSum d.inputs (now.map Prod.fst) }
        if s.mode = .configuring then w else evaluateElement .moves e w
      | none => u) s) ∧
  ∀ (taking : Taking) (e : Fin 64) (d : ElementDef) (s : State), (s.element e).defn = some d →
    let el := s.element e
    let t := evaluateElement taking e s
    let moved (state : ElementState) (timer : Option Nat) (records : List RecordKind) (changes : Option Bool) : Prop :=
      let u := State.each records (fun k v => offerNow k .trip e.val el.sum 0 v)
        (s.setElement e { el with state := state, timer := timer })
      let w := match changes with
        | some asserted => State.each d.targets (deliverDemand taking asserted) u
        | none => u
      (w.element e = { el with state := state, timer := timer }) ∧
      ((state ≠ .idle ∨ el.pending = .none) → t = w) ∧
      (state = .idle → el.pending = .clear → t = w.setElement e {}) ∧
      ∀ x, state = .idle → el.pending = .definition x →
        t = evaluateElement taking e (w.setElement e (({ el with state := .idle, timer := timer } : Element).installed s x))
    (el.picked d = true →
      (el.state = .idle → d.mode = .instant ∨ d.mode = .offDelay ∨ (d.mode = .onDelay ∧ d.delay = 0) →
        moved .operated none [.elementPickup, .elementOperate] (some true)) ∧
      (el.state = .idle → d.mode = .onDelay → 0 < d.delay → moved .timing (some d.delay) [.elementPickup] none) ∧
      (el.state = .idle → d.mode = .pulse → moved .operated (some d.delay) [.elementPickup, .elementOperate] (some true)) ∧
      (el.state = .holding → d.mode = .offDelay → moved .operated none [] none) ∧
      (el.state = .timing ∨ el.state = .operated ∨ el.state = .spent → t = s)) ∧
    (el.picked d = false → el.dropped d = true →
      (el.state = .timing → d.mode = .onDelay → moved .idle none [.elementDropout] none) ∧
      (el.state = .operated → d.mode = .instant ∨ d.mode = .onDelay ∨ (d.mode = .offDelay ∧ d.delay = 0) →
        moved .idle none [.elementRelease] (some false)) ∧
      (el.state = .operated → d.mode = .offDelay → 0 < d.delay → moved .holding (some d.delay) [] none) ∧
      (el.state = .spent → d.mode = .pulse → moved .idle none [] none) ∧
      (el.state = .idle ∨ el.state = .holding ∨ (el.state = .operated ∧ d.mode = .pulse) → t = s))

/-- The expiry of an element's delay: an ON_DELAY element operates, an OFF_DELAY one releases, a PULSE one releases and rests SPENT until
dropped; a pending definition is installed, or a pending clear done, where the element reaches IDLE (R108 to R110, R112, R118). -/
def Obligations.ElementDelayExpires : Prop :=
  ∀ (e : Fin 64) (d : ElementDef) (s : State), s.resetLow = false → (s.element e).timer = some 0 →
    (s.element e).defn = some d →
    let el := s.element e
    let moved (state : ElementState) (record : RecordKind) (asserted : Bool) : State :=
      State.each d.targets (deliverDemand .moves asserted)
        (offerNow record .trip e.val el.sum 0 (s.setElement e { el with state := state, timer := none }))
    (d.mode = .onDelay → el.state = .timing →
      exec (.elementDelayExpiry e) s = .next (moved .operated .elementOperate true)) ∧
    (d.mode = .offDelay → el.state = .holding → el.pending = .none →
      exec (.elementDelayExpiry e) s = .next (moved .idle .elementRelease false)) ∧
    (d.mode = .pulse → el.state = .operated → el.pending = .none → el.dropped d = true →
      exec (.elementDelayExpiry e) s = .next (moved .idle .elementRelease false)) ∧
    (d.mode = .pulse → el.state = .operated → el.pending = .none → el.dropped d = false →
      exec (.elementDelayExpiry e) s = .next (moved .spent .elementRelease false)) ∧
    ((d.mode = .offDelay ∧ el.state = .holding) ∨ (d.mode = .pulse ∧ el.state = .operated) →
      ∃ t : State, exec (.elementDelayExpiry e) s = .next t ∧ s.onlyElements t ∧ (∀ j, j ≠ e → t.element j = s.element j) ∧
        (t.element e).pending = .none ∧ (∀ x, el.pending = .definition x → (t.element e).defn = some x) ∧
        (el.pending = .clear → t.element e = {}))

/-- An accepted element write is stored while the element is busy, else installed with contributions, held contributions and sum computed
anew, and in RUN and TEST evaluated; a clear is stored while busy, else the element becomes undefined (R115 to R117). An input equal in
point and sense to one of the definition replaced starts from that input's held contribution, any other from inactive, and a GOOD point's
contribution is then held (R103). -/
def Obligations.ElementEntryIsWrittenAndCleared : Prop :=
  (∀ (src : Byte) (index : BitVec 16) (e : Fin 64) (s : State), s.ready src → s.frozen = false → index.toNat = e.val →
    let el := s.element e
    let busy := el.state = .timing ∨ el.state = .operated ∨ el.state = .holding
    (∀ (entry : List Byte) (d : ElementDef), readElement entry = .define d →
      (s.mode ≠ .configuring → elementKnown s d = true) →
      (busy → exec (.writeElement src index entry) s = .next
        ((s.setElement e { el with pending := .definition d }).answered src (entryOk 0x02 .element index))) ∧
      (¬ busy →
        let contrib := d.inputs.map (fun i => contribution d.policy i (s.point i.point) (inheritedHeld el.defn el i))
        let u := s.setElement e { el with
          defn := some d, pending := .none, state := .idle, sum := voteSum d.inputs contrib, contrib := contrib
          held := d.inputs.map (fun i => (computeInput d.policy i (s.point i.point) (inheritedHeld el.defn el i)).2) }
        (s.mode = .configuring → exec (.writeElement src index entry) s = .next
          (u.answered src (entryOk 0x02 .element index))) ∧
        (s.mode ≠ .configuring → exec (.writeElement src index entry) s = .next
          ((evaluateElement .moves e u).answered src (entryOk 0x02 .element index))))) ∧
    let cleared := if el.state = .timing ∨ el.state = .operated ∨ el.state = .holding
      then s.setElement e { el with pending := .clear } else s.setElement e {}
    exec (.writeElement src index [0x00]) s = .next (cleared.answered src (entryOk 0x02 .element index)) ∧
    exec (.clearElement src index) s = .next (cleared.answered src (entryOk 0x03 .element index))) ∧
  (∀ (policy : Policy) (i : ElementInput) (v : Point) (start : Bool),
    (computeInput policy i v start).2 = if v.quality = .good then contribution policy i v start else start) ∧
  ∀ (i : ElementInput) (el : Element),
    inheritedHeld none el i = false ∧
    ∀ old : ElementDef,
      ((∀ j ∈ old.inputs, j.point ≠ i.point ∨ j.sense ≠ i.sense) → inheritedHeld (some old) el i = false) ∧
      ∀ (n : Nat) (j : ElementInput) (c h : Bool), (old.inputs.map (fun k => (k.point, k.sense))).Nodup →
        old.inputs[n]? = some j → el.contrib[n]? = some c → el.held[n]? = some h → j.point = i.point → j.sense = i.sense →
        inheritedHeld (some old) el i = h

/-- In TEST a defined element is forced and unforced, and a change of the flag evaluates it at once; in another mode the command is
refused WRONG_MODE (R119). -/
def Obligations.ForcedElementIsEvaluated : Prop :=
  ∀ (src element : Byte) (e : Fin 64) (s : State), s.ready src → element.toNat = e.val →
    (s.mode = .test → (s.element e).defn ≠ none →
      let put (on : Bool) : State := if (s.element e).forced = on then s
        else evaluateElement .moves e (s.setElement e { s.element e with forced := on })
      exec (.forceElementOn src element) s = .next ((put true).answered src [0x31, 0x00]) ∧
      exec (.forceElementOff src element) s = .next ((put false).answered src [0x31, 0x00]) ∧
      ∀ on, s.onlyElements (put on) ∧ (∀ j, j ≠ e → (put on).element j = s.element j) ∧
        ((s.element e).pending = .none → ((put on).element e).forced = on ∧
          ((put on).element e).defn = (s.element e).defn ∧ ((put on).element e).sum = (s.element e).sum)) ∧
    (s.mode ≠ .test →
      exec (.forceElementOn src element) s = .next (s.refused src 0x31 .wrongMode) ∧
      exec (.forceElementOff src element) s = .next (s.refused src 0x31 .wrongMode))

/-- Every defined element's contributions and sum are current after every step (R103, R105, R113). -/
def Obligations.EveryStepKeepsSumsCurrent : Prop :=
  ∀ s t : State, s.sumsCurrent → step s = .next t → t.sumsCurrent

/-! ### The Channel Unit -/

/-- The first demand trips a channel, from LOCKED without a change of output; the last loss locks a channel with lockout and returns one
without to NORMAL; a change of output puts the module on the TRIP list and activates or clears the channel's window (R131, R132, R134,
R135); within the exit from TEST to RUN only the count follows (R131); LOCKOUT RESET returns a LOCKED channel to NORMAL and is refused of
a TRIPPED one (R133). -/
def Obligations.ChannelFollowsItsDemand : Prop :=
  (∀ (asserted : Bool) (c : Fin 16) (s : State), deliverDemand .countsOnly asserted c s = s.setChannel c { s.channel c with
    demand := if asserted then (s.channel c).demand + 1 else (s.channel c).demand - 1 }) ∧
  (∀ (c : Fin 16) (d : ChannelDef) (s : State), (s.channel c).defn = some d →
    let v := s.channel c
    let joined := if (s.outputModule d.outputModule).address.isSome ∧ d.outputModule ∉ s.trip.waiting
      then s.trip.waiting ++ [d.outputModule] else s.trip.waiting
    let becomes (t : State) (u : Channel) (record : Option RecordKind) (waiting : List (Fin 8)) (ann : Annunciator) : Prop :=
      s.onlyChannels t ∧ t.channel c = u ∧ (∀ j, j ≠ c → t.channel j = s.channel j) ∧ t.trip.outputs = s.trip.outputs ∧
      t.trip.waiting = waiting ∧ t.ann = ann ∧
      t.events = match record with
        | some k => (offerNow k .trip c.val 0 0 s).events
        | none => s.events
    let gain := deliverDemand .moves true c s
    let loss := deliverDemand .moves false c s
    (0 < v.demand → becomes gain { v with demand := v.demand + 1 } none s.trip.waiting s.ann) ∧
    (v.demand = 0 → v.state = .normal →
      becomes gain { v with demand := 1, state := .tripped } (some .channelTrip) joined (activateAt d.window none s).ann) ∧
    (v.demand = 0 → v.state = .locked →
      becomes gain { v with demand := 1, state := .tripped } (some .channelTrip) s.trip.waiting s.ann) ∧
    (1 < v.demand → becomes loss { v with demand := v.demand - 1 } none s.trip.waiting s.ann) ∧
    (v.demand = 1 → v.state = .tripped → d.lockout = true →
      becomes loss { v with demand := 0, state := .locked } (some .channelLockout) s.trip.waiting s.ann) ∧
    (v.demand = 1 → v.state = .tripped → d.lockout = false →
      becomes loss { v with demand := 0, state := .normal } (some .channelNormal) joined (clearAt d.window s).ann)) ∧
  ∀ (src channel : Byte) (c : Fin 16) (d : ChannelDef) (s : State), s.ready src → channel.toNat = c.val →
    (s.channel c).defn = some d →
    ((s.channel c).state = .normal → exec (.lockoutReset src channel) s = .next (s.answered src [0x30, 0x00])) ∧
    ((s.channel c).state = .tripped → exec (.lockoutReset src channel) s = .next (s.refused src 0x30 .stillActive)) ∧
    ((s.channel c).state = .locked → ∃ t : State,
      exec (.lockoutReset src channel) s = .next (t.answered src [0x30, 0x00]) ∧ s.onlyChannels t ∧
      t.channel c = { s.channel c with state := .normal } ∧ (∀ j, j ≠ c → t.channel j = s.channel j) ∧
      t.trip.outputs = s.trip.outputs ∧ t.events = (offerNow .channelNormal .trip c.val 0 0 s).events ∧
      t.ann = (clearAt d.window s).ann ∧
      t.trip.waiting = if (s.outputModule d.outputModule).address.isSome ∧ d.outputModule ∉ s.trip.waiting
        then s.trip.waiting ++ [d.outputModule] else s.trip.waiting)

/-- A TRIP frame carries the TEST flag, a count, and every defined channel of its module with the state of its output, by rising output
number, and is recorded for confirmation: the awaited sequence and list, the deadline if it was STOPPED, what each channel was commanded,
and AWAITING, or MISSING once PASSED, then with the record, the delivery to the system window and the backup line of such a change (R134,
R136, R139 to R141). -/
def Obligations.TripHandoverAwaitsItsConfirm : Prop :=
  (∀ (k : Fin 8) (c : Fin 16) (s : State), (hostedBy s k).contains c = true ↔
    ∃ d, (s.channel c).defn = some d ∧ d.outputModule = k) ∧
  ∀ (k : Fin 8) (rest : List (Fin 8)) (a : Nat) (s : State), s.resetLow = false → s.outputsSound →
    s.arbiterB = some .trip → s.trip.waiting = k :: rest → (s.outputModule k).address = some a →
    let v := s.outputModule k
    let sent := s.portB.sending s.node (lowByte a) 0x61
      ([if s.mode = .test then 0x01 else 0x00, lowByte (tripPairs s k).length] ++
        (tripPairs s k).flatMap (fun p => [lowByte p.1.val, if p.2 then 0x01 else 0x00]))
    let recorded := { v with
      awaitedSeq := some s.portB.txSeq, awaited := tripPairs s k
      deadline := if v.deadline = .stopped then .running v.timeout else v.deadline }
    (∀ (o : Fin 16) (x : Bool), (o, x) ∈ tripPairs s k ↔ ∃ (c : Fin 16) (d : ChannelDef), (s.channel c).defn = some d ∧
      d.outputModule = k ∧ d.output = o ∧ x = (s.channel c).state.asserted) ∧
    ((tripPairs s k).map (fun p => p.1)).Pairwise (fun x y => x < y) ∧
    ∃ t : State, exec .tripHandover s = .next t ∧
      t = State.each (tripPairs s k) (fun x u =>
          match (List.finRange 16).find? (fun c =>
            match (s.channel c).defn with
            | some d => decide (d.outputModule = k ∧ d.output = x.1)
            | none => false) with
          | some c =>
            let w := u.setChannel c { u.channel c with commanded := x.2 }
            if v.deadline = .passed then becomeMissing c w
            else if (u.channel c).confirmation = .confirmed then
              w.setChannel c { u.channel c with commanded := x.2, confirmation := .awaiting }
            else w
          | none => u)
        ({ s with portB := sent, trip := { s.trip with waiting := rest } }.setOutputModule k recorded) ∧
      s.onlyChannels { t with portB := s.portB } ∧ t.portB = sent ∧ t.trip.waiting = rest ∧ t.outputModule k = recorded ∧
      (∀ j, j ≠ k → t.outputModule j = s.outputModule j) ∧
      ∀ c, let x := s.channel c
        (hostedBy s k).contains c = false ∧ t.channel c = x ∨ (hostedBy s k).contains c = true ∧ t.channel c = { x with
          commanded := x.state.asserted
          confirmation := if v.deadline = .passed then .missing
            else if x.confirmation = .confirmed then .awaiting else x.confirmation }

/-- A CONFIRM frame is of a present output module that holds its source address, and of none where no module holds it (R137). One from no
present module, a malformed one and one that echoes another sequence are counted; a matching one stops the
deadline and, in the list's order, makes each awaited channel CONFIRMED or MISSING by the state reported, the last pair of an output
(R137, R138), each with the record, the delivery to the system window and the backup line of such a change (R134, R140, R141). -/
def Obligations.ConfirmFrameIsMatched : Prop :=
  (∀ (a : Byte) (s : State),
    (∀ k, outputModuleAt s a = some k → (s.outputModule k).address = some a.toNat) ∧
    (outputModuleAt s a = none ↔ ∀ k, (s.outputModule k).address ≠ some a.toNat)) ∧
  (∀ (before after : List Held) (h : Held) (s : State), s.resetLow = false → s.flowSettled → s.outputsSound →
    s.portB.buf = before ++ h :: after → Held.owned 0x62 h = true → (∀ k ∈ before, Held.owned 0x62 k = false) →
    let given (t : State) : State := { t with portB := t.portB.withGiven t.settings.lowB (before ++ after) }
    (outputModuleAt s h.frame.src = none →
      exec .confirmFrame s = .next (given { s with unknownConfirms := min (s.unknownConfirms + 1) 65535 })) ∧
    ∀ k : Fin 8, outputModuleAt s h.frame.src = some k →
      let v := s.outputModule k
      (parseConfirm h.frame.payload = none → exec .confirmFrame s = .next
        (given (s.setOutputModule k { v with malformed := min (v.malformed + 1) 65535 }))) ∧
      ∀ (seq : Nat) (pairs : List (Byte × Byte)), parseConfirm h.frame.payload = some (seq, pairs) →
        (v.awaitedSeq ≠ some seq → exec .confirmFrame s = .next
          (given (s.setOutputModule k { v with stray := min (v.stray + 1) 65535 }))) ∧
        (v.awaitedSeq = some seq → ∃ t : State, exec .confirmFrame s = .next (given t) ∧
          t = State.each v.awaited (fun x u =>
              match (List.finRange 16).find? (fun c =>
                match (s.channel c).defn with
                | some d => decide (d.outputModule = k ∧ d.output = x.1)
                | none => false) with
              | some c => if reported pairs x.1 = some x.2 then becomeConfirmed true c u else becomeMissing c u
              | none => u)
            (s.setOutputModule k { v with awaitedSeq := none, awaited := [], deadline := .stopped }) ∧
          s.onlyChannels t ∧
          t.trip.waiting = s.trip.waiting ∧
          t.outputModule k = { v with awaitedSeq := none, awaited := [], deadline := .stopped } ∧
          (∀ j, j ≠ k → t.outputModule j = s.outputModule j) ∧
          ∀ c, let x := s.channel c
            (∀ d value, x.defn = some d → d.outputModule = k → (d.output, value) ∈ v.awaited → t.channel c = { x with
              confirmation := if reported pairs d.output = some value then .confirmed else .missing }) ∧
            ((∀ d value, x.defn = some d → d.outputModule = k → (d.output, value) ∉ v.awaited) → t.channel c = x))) ∧
  (∀ (b c : Byte) (body : List Byte),
    let pair (i : Nat) : Byte × Byte := (body.getD (2 * i) 0, body.getD (2 * i + 1) 0)
    parseConfirm [] = none ∧ parseConfirm [b] = none ∧
    (16 < c.toNat ∨ body.length ≠ 2 * c.toNat → parseConfirm (b :: c :: body) = none) ∧
    (c.toNat ≤ 16 → body.length = 2 * c.toNat →
      ((∃ i < c.toNat, 1 < (pair i).2.toNat) → parseConfirm (b :: c :: body) = none) ∧
      ((∀ i < c.toNat, (pair i).2.toNat ≤ 1) →
        parseConfirm (b :: c :: body) = some (b.toNat, (List.range c.toNat).map pair)))) ∧
  ∀ o : Fin 16,
    (∀ pairs : List (Byte × Byte), (∀ x ∈ pairs, x.1.toNat ≠ o.val) → reported pairs o = none) ∧
    ∀ (before after : List (Byte × Byte)) (n v : Byte), n.toNat = o.val → (∀ x ∈ after, x.1.toNat ≠ o.val) →
      reported (before ++ (n, v) :: after) o = some (decide (v = 0x01))

/-- At the expiry of a confirm deadline each awaited channel still AWAITING becomes MISSING, in the list's order (R139). A channel that
becomes MISSING or is confirmed again offers its record, moves the system window, and has the backup line of its half judged (R134,
R140, R141). -/
def Obligations.DeadlineExpiryMissesTheAwaited : Prop :=
  (∀ (k : Fin 8) (s : State), s.resetLow = false → s.outputsSound → (s.outputModule k).deadline = .running 0 →
    ∃ t : State, exec (.confirmDeadlineExpiry k) s = .next t ∧
      t = State.each (s.outputModule k).awaited (fun x u =>
          match (List.finRange 16).find? (fun c =>
            match (s.channel c).defn with
            | some d => decide (d.outputModule = k ∧ d.output = x.1)
            | none => false) with
          | some c => if (u.channel c).confirmation = .awaiting then becomeMissing c u else u
          | none => u)
        (s.setOutputModule k { s.outputModule k with deadline := .passed }) ∧
      s.onlyChannels t ∧ t.trip.waiting = s.trip.waiting ∧
      t.outputModule k = { s.outputModule k with deadline := .passed } ∧
      (∀ j, j ≠ k → t.outputModule j = s.outputModule j) ∧
      ∀ c, let x := s.channel c
        (∀ d value, x.defn = some d → d.outputModule = k → (d.output, value) ∈ (s.outputModule k).awaited →
          x.confirmation = .awaiting → t.channel c = { x with confirmation := .missing }) ∧
        ((∀ d value, x.defn = some d → d.outputModule = k → x.confirmation = .awaiting →
          (d.output, value) ∉ (s.outputModule k).awaited) → t.channel c = x)) ∧
  ∀ (c : Fin 16) (s : State),
    let becomes (t : State) (confirmation : Confirmation) (events : EventQueue) (ann : Annunciator) : Prop :=
      s.onlyChannels t ∧ t.channel c = { s.channel c with confirmation := confirmation } ∧
      (∀ j, j ≠ c → t.channel j = s.channel j) ∧ t.trip.outputs = s.trip.outputs ∧ t.trip.waiting = s.trip.waiting ∧
      t.events = events ∧ t.ann = ann ∧
      (t.bktDrivenLow (halfOf c) = true ↔ s.mode = .run ∧ ∃ j : Fin 16, halfOf j = halfOf c ∧
        (t.channel j).state.asserted = true ∧ (t.channel j).confirmation = .missing) ∧
      ∀ l, l ≠ halfOf c → t.bktDrivenLow l = s.bktDrivenLow l
    ((s.channel c).confirmation ≠ .missing →
      becomes (becomeMissing c s) .missing (offerNow .confirmMissing .trip c.val 0 0 s).events
        (activateAt s.settings.systemWindow none s).ann) ∧
    ((s.channel c).confirmation = .missing →
      becomeMissing c s = s ∧
      becomes (becomeConfirmed true c s) .confirmed (offerNow .confirmRestored .trip c.val 0 0 s).events
        (clearAt s.settings.systemWindow s).ann ∧
      becomes (becomeConfirmed false c s) .confirmed s.events (clearAt s.settings.systemWindow s).ann) ∧
    ((s.channel c).confirmation ≠ .missing → ∀ m, becomeConfirmed m c s =
      s.setChannel c { s.channel c with confirmation := .confirmed })

/-- An output module's accepted write or clear: the address and timeout; a changed address forgets what was awaited and puts a module
that hosts channels on the TRIP list, a removed one takes it off and confirms its channels, those that were MISSING with a clear of the
system window (R126, R140). -/
def Obligations.OutputEntryIsWrittenAndCleared : Prop :=
  ∀ (src : Byte) (index : BitVec 16) (k : Fin 8) (s : State), s.ready src → s.frozen = false → index.toNat = k.val →
    hostsAsserted s k = false →
    let v := s.outputModule k
    let changed (address : Option Nat) (timeout : Nat) (t : State) : Prop :=
      s.onlyChannels t ∧ t.events = s.events ∧ (∀ j, j ≠ k → t.outputModule j = s.outputModule j) ∧
      (v.address = address → t = s.setOutputModule k { v with timeout := timeout }) ∧
      (∀ a, v.address ≠ address → address = some a → t.ann = s.ann ∧ t.trip.channels = s.trip.channels ∧
        t.trip.waiting = (if hostedBy s k ≠ [] ∧ k ∉ s.trip.waiting then s.trip.waiting ++ [k] else s.trip.waiting) ∧
        (v.address = none → t.outputModule k = { v with address := address, timeout := timeout }) ∧
        (v.address ≠ none → t.outputModule k = { v with address := address, timeout := timeout, awaitedSeq := none,
                                                        awaited := [], deadline := .stopped })) ∧
      (v.address ≠ none → address = none →
        t.outputModule k = { v with address := none, timeout := timeout, awaitedSeq := none, awaited := [],
                                    deadline := .stopped } ∧
        t.trip.waiting = s.trip.waiting.filter (fun j => decide (j ≠ k)) ∧
        (∀ c, t.channel c = if (hostedBy s k).contains c then { s.channel c with confirmation := .confirmed } else s.channel c) ∧
        (s.canonical = true → t = State.each ((List.finRange 16).filter (hostedBy s k).contains) (becomeConfirmed false)
          ({ s with trip := { s.trip with waiting := s.trip.waiting.filter (fun j => decide (j ≠ k)) } }.setOutputModule k
            { v with address := none, timeout := timeout, awaitedSeq := none, awaited := [], deadline := .stopped })))
    (∀ (entry : List Byte) (address : Option Nat) (timeout : Nat), readOutput entry = some (address, timeout) →
      outputAddressTaken s k address = false → (s.mode = .configuring ∨ address ≠ none ∨ hostedBy s k = []) →
      ∃ t, exec (.writeOutput src index entry) s = .next (t.answered src (entryOk 0x02 .output index)) ∧
        changed address timeout t) ∧
    (s.mode = .configuring ∨ hostedBy s k = [] →
      ∃ t, exec (.clearOutput src index) s = .next (t.answered src (entryOk 0x03 .output index)) ∧ changed none 20 t)

/-- A channel's accepted write or clear while its output is not asserted: a new channel and one on a new output are put to their
module by a TRIP frame, the old output is awaited no more, a channel that leaves an output is CONFIRMED, and the module it leaves joins
the waiting list while it hosts a channel and is off it where it hosts none; where the channel was MISSING the system window takes a clear
and the line of its half is judged, and nothing else of the Annunciation Unit or the lines changes (R140, R141); a write with defined no
is a clear (R129, R130). -/
def Obligations.ChannelEntryIsWrittenAndCleared : Prop :=
  ∀ (src : Byte) (index : BitVec 16) (c : Fin 16) (s : State), s.ready src → s.frozen = false → index.toNat = c.val →
    (s.channel c).state.asserted = false →
    let v := s.channel c
    let dropped (k : Fin 8) (o : Fin 16) (t : State) : Prop := ∀ j, t.outputModule j = if j = k then { s.outputModule k with
      awaited := (s.outputModule k).awaited.filter (fun p => decide (p.1 ≠ o)) } else s.outputModule j
    let left (k : Fin 8) (t : State) : Prop :=
      (hostedBy t k = [] → k ∉ t.trip.waiting) ∧
      (hostedBy t k ≠ [] → (s.outputModule k).address.isSome = true → k ∈ t.trip.waiting)
    let restored (t : State) : Prop :=
      t.ann = (if v.confirmation = .missing then (clearAt s.settings.systemWindow s).ann else s.ann) ∧
      ∀ l : Fin 2, (t.bktDrivenLow l = true ↔ if v.confirmation = .missing ∧ l = halfOf c then
        s.mode = .run ∧ ∃ j : Fin 16, halfOf j = l ∧ (t.channel j).state.asserted = true ∧ (t.channel j).confirmation = .missing
      else s.bktDrivenLow l = true)
    (∀ (entry : List Byte) (d : ChannelDef), readChannel entry = some (some d) → outputTaken s c d = false →
      (s.mode ≠ .configuring → (s.outputModule d.outputModule).address ≠ none ∧ windowKnown s d.window = true) →
      windowFull s (fun w => channelNames s w c) d.window = false →
      ∃ t : State, exec (.writeChannel src index entry) s = .next (t.answered src (entryOk 0x02 .channel index)) ∧
        s.onlyChannels t ∧ t.events = s.events ∧ (∀ j, j ≠ c → t.channel j = s.channel j) ∧
        (v.defn = none → t.channel c = { defn := some d } ∧ t.trip.outputs = s.trip.outputs ∧ t.ann = s.ann ∧
          (∀ l, t.bktDrivenLow l = s.bktDrivenLow l) ∧
          t.trip.waiting = if (s.outputModule d.outputModule).address.isSome ∧ d.outputModule ∉ s.trip.waiting
            then s.trip.waiting ++ [d.outputModule] else s.trip.waiting) ∧
        ∀ old, v.defn = some old →
          (old.outputModule = d.outputModule → old.output = d.output → t = s.setChannel c { v with defn := some d }) ∧
          (old.outputModule ≠ d.outputModule ∨ old.output ≠ d.output →
            t.channel c = { v with defn := some d, confirmation := .confirmed } ∧
            dropped old.outputModule old.output t ∧ restored t ∧
            ((s.outputModule d.outputModule).address.isSome = true → d.outputModule ∈ t.trip.waiting) ∧ left old.outputModule t)) ∧
    ((∀ e, elementTargets s c e = false) →
      ∃ t : State, exec (.clearChannel src index) s = .next (t.answered src (entryOk 0x03 .channel index)) ∧
        (∀ rest : List Byte, rest.length = 4 →
          exec (.writeChannel src index (0x00 :: rest)) s = .next (t.answered src (entryOk 0x02 .channel index))) ∧
        s.onlyChannels t ∧ t.events = s.events ∧ (∀ j, j ≠ c → t.channel j = s.channel j) ∧ (v.defn = none → t = s) ∧
        ∀ old, v.defn = some old → t.channel c = {} ∧ dropped old.outputModule old.output t ∧ left old.outputModule t ∧ restored t)

/-- After every step a defined channel is TRIPPED exactly with demand and LOCKED only with lockout, no output is two channels', and a backup
line is asserted exactly when the mode is RUN and a channel of its half is asserted and MISSING (R129, R131, R132, R141); the demand count
of every channel is the number of asserted elements that target it (R131), where elements target channels as R100 and R115 allow, and
are IDLE in CONFIGURING (R121). -/
def Obligations.EveryStepKeepsTheChannelsSound : Prop :=
  (∀ s t : State, s.channelsSound → s.targetsSound → s.demandCounted → step s = .next t →
    t.targetsSound ∧ t.demandCounted) ∧
  ((∀ s t : State, s.channelsSound → step s = .next t → t.channelsSound) ∧
  ∀ s t : State, s.outputsSound → step s = .next t → t.outputsSound) ∧
  ∀ s t : State, s.linesSound → step s = .next t → t.linesSound

/-! ### The Command Unit -/

/-- A CMD frame does what the row of the command it carries does, answers it, and gives up its place; from a source outside 1..239 it is
discarded, and while a REPLY waits it is not taken (R165, R172 to R174). That the row of a named command carries its operands is the
model's choice (log entry 4). -/
def Obligations.CmdFrameRunsItsCommand : Prop :=
  ∀ (before after : List Held) (h : Held) (s : State), s.resetLow = false → s.flowSettled →
    s.portA.buf = before ++ h :: after → Held.owned 0x31 h = true → (∀ k ∈ before, Held.owned 0x31 k = false) →
    let given (t : State) : State := { t with portA := t.portA.withGiven t.settings.lowA (before ++ after) }
    (∀ (c : Instr) (src : Byte) (payload : List Byte), s.ready src → commandPayload c = some (src, payload) →
      h.frame.src = src → h.frame.payload = payload →
      ∃ t : State, exec c s = .next t ∧ t.reply ≠ none ∧ exec .cmdFrame s = .next (given t)) ∧
    (∀ (src : Byte) (payload : List Byte), s.ready src → Instr.unknownPayload payload = true → h.frame.src = src →
      h.frame.payload = payload →
      ∃ t : State, exec (.cmdUnknown src payload) s = .next t ∧ exec .cmdFrame s = .next (given t)) ∧
    (s.reply = none → h.frame.src.toNat = 0 ∨ 239 < h.frame.src.toNat → exec .cmdFrame s = .next (given s)) ∧
    (s.reply ≠ none → exec .cmdFrame s = .next s)

/-- Every command that is taken is answered to its source with its own code, and one whose status is not OK changes nothing but the reply
that waits; an empty payload is LENGTH, an unlisted code UNKNOWN (R172, R173). A number that names no group, horn, channel or element is
RANGE; so are other mode codes, lamp-test values and force values of a CMD frame, a listed code with parameters of a wrong length is LENGTH,
and a table identifier that is not listed UNKNOWN (R94, R119, R133, R173, R174, R179). -/
def Obligations.RefusedCommandsChangeNothing : Prop :=
  (∀ (c : Instr) (src code : Byte) (params : List Byte) (s : State), s.ready src →
    commandPayload c = some (src, code :: params) →
    ∃ (t : State) (status : Byte) (data : List Byte), exec c s = .next t ∧
      t.reply = some { dest := src, payload := code :: status :: data } ∧
      (status ≠ 0x00 → t = { s with reply := t.reply })) ∧
  (∀ (src : Byte) (s : State), s.ready src →
    exec (.cmdUnknown src []) s = .next (s.refused src 0x00 .length) ∧
    (∀ (code : Byte) (params : List Byte),
      code ∉ [0x01, 0x02, 0x03, 0x04, 0x10, 0x11, 0x12, 0x20, 0x21, 0x22, 0x23, 0x30, 0x31, 0x40] →
      exec (.cmdUnknown src (code :: params)) s = .next (s.refused src code .unknown)) ∧
    ∀ n : Byte,
      (s.definedGroup n = none →
        exec (.groupAck src n) s = .next (s.refused src 0x20 .range) ∧
        exec (.groupReset src n) s = .next (s.refused src 0x21 .range)) ∧
      (3 < n.toNat → exec (.hornSilence src n) s = .next (s.refused src 0x22 .range)) ∧
      ((∀ c : Fin 16, c.val = n.toNat → (s.channel c).defn = none) →
        exec (.lockoutReset src n) s = .next (s.refused src 0x30 .range)) ∧
      (s.mode = .test → (∀ e : Fin 64, e.val = n.toNat → (s.element e).defn = none) →
        exec (.forceElementOn src n) s = .next (s.refused src 0x31 .range) ∧
        exec (.forceElementOff src n) s = .next (s.refused src 0x31 .range))) ∧
  ∀ (before after : List Held) (h : Held) (s : State), s.ready h.frame.src → s.flowSettled →
    s.portA.buf = before ++ h :: after → Held.owned 0x31 h = true → (∀ k ∈ before, Held.owned 0x31 k = false) →
    let refusedBy (code : Byte) (st : Status) : Prop :=
      let t := s.refused h.frame.src code st
      exec .cmdFrame s = .next { t with portA := t.portA.withGiven t.settings.lowA (before ++ after) }
    (h.frame.payload = [] → refusedBy 0x00 .length) ∧
    ∀ (code : Byte) (params : List Byte), h.frame.payload = code :: params →
      (code ∈ [0x11, 0x12] → params ≠ [] → refusedBy code .length) ∧
      (code ∈ [0x10, 0x20, 0x21, 0x22, 0x23, 0x30, 0x40] → params.length ≠ 1 → refusedBy code .length) ∧
      (code = 0x31 → params.length ≠ 2 → refusedBy code .length) ∧
      (code ∈ [0x01, 0x02, 0x03, 0x04] → params.length < 3 → refusedBy code .length) ∧
      (∀ (table i1 i0 : Byte) (rest : List Byte), code ∈ [0x01, 0x02, 0x03, 0x04] → params = table :: i1 :: i0 :: rest →
        (0x0A < table.toNat → refusedBy code .unknown) ∧
        (table.toNat ≤ 0x0A → code ≠ 0x02 → rest ≠ [] → refusedBy code .length)) ∧
      (∀ x : Byte, params = [x] →
        (code = 0x10 → 2 < x.toNat → refusedBy code .range) ∧ (code = 0x23 → 1 < x.toNat → refusedBy code .range)) ∧
      ∀ e x : Byte, code = 0x31 → params = [e, x] → 1 < x.toNat →
        (s.mode = .test → refusedBy code .range) ∧ (s.mode ≠ .test → refusedBy code .wrongMode)

/-- The definitions of every table travel as their entry bytes: what READ ENTRY returns is read as the same definition, and what a write
accepts is in range (R1, R25, R57, R70, R71, R81, R95, R100, R124, R127, R163, R176). -/
def Obligations.DefinitionsRoundTrip : Prop :=
  (∀ v : Settings, v.inRange → readSettings v.entry = some v) ∧
  (∀ bytes v, readSettings bytes = some v → v.inRange) ∧
  (∀ v : InputModule, (∀ d, v.defn = some d → d.inRange) → readModule v.entry = some v.defn) ∧
  (∀ bytes d, readModule bytes = some (some d) → d.inRange) ∧
  (∀ v : Point, (∀ d, v.defn = some d → d.inRange) → readPoint v.entry = some v.defn) ∧
  (∀ bytes d, readPoint bytes = some (some d) → d.inRange) ∧
  (∀ v : Window, readWindow v.entry = some v.defn) ∧
  (∀ a : Option Nat, (∀ n, a = some n → 1 ≤ n ∧ n ≤ 239) → readDriver (driverEntry a) = some a) ∧
  (∀ v : Group, (∀ d, v.defn = some d → d.inRange) → readGroup v.entry = some v.defn) ∧
  (∀ bytes d, readGroup bytes = some (some d) → d.inRange) ∧
  (∀ v : Horn, readHorn v.entry = some v.sound) ∧
  (∀ v : PatternEntry, 2 ≤ v.period → v.period ≤ 200 → 1 ≤ v.onTime → v.onTime < v.period → readPattern v.entry = some v) ∧
  (∀ d : ElementDef, d.inRange → readElement d.entry = .define d) ∧
  (∀ bytes d, readElement bytes = .define d → d.inRange) ∧
  (∀ v : OutputModule, (∀ n, v.address = some n → 1 ≤ n ∧ n ≤ 239) → 5 ≤ v.timeout → v.timeout ≤ 100 →
    readOutput v.entry = some (v.address, v.timeout)) ∧
  ∀ v : Channel, readChannel v.entry = some v.defn

/-- READ ENTRY and READ STATE return an entry's definition or dynamic fields, refuse an index above the table RANGE and another table
UNKNOWN, and act on nothing (R174, R175); the definition fields of each table, an absent one FFH, the pending flag after an element's
(R1, R25, R57, R70, R71, R81, R95, R100, R124, R127, R176); the dynamic fields of each table (R2, R26, R58, R72, R82, R95, R101, R125,
R128; that an element's two fields stand input by input is log entry 17); READ STATUS returns its 55 bytes and clears the eleven counts
only with its flag (R171, R178). -/
def Obligations.ReadsReturnTheState : Prop :=
  (∀ (src : Byte) (t : TableId) (index : BitVec 16) (s : State), s.ready src →
    let size := match t with
      | .settings => 1
      | .module => 16
      | .point => 1024
      | .window => 192
      | .driver => 6
      | .group => 32
      | .horn => 4
      | .pattern => 4
      | .element => 64
      | .output => 8
      | .channel => 16
    (index.toNat < size → ∃ entry dynamic : List Byte,
      entryAt t index.toNat s = some entry ∧ dynamicAt t index.toNat s = some dynamic ∧
      exec (.readEntry src t.code index) s = .next (s.answered src (entryOk 0x01 t index ++ entry)) ∧
      exec (.readState src t.code index) s = .next (s.answered src (entryOk 0x04 t index ++ dynamic))) ∧
    (size ≤ index.toNat →
      exec (.readEntry src t.code index) s = .next (s.refused src 0x01 .range) ∧
      exec (.readState src t.code index) s = .next (s.refused src 0x04 .range)) ∧
    ∀ table : Byte, 0x0A < table.toNat →
      exec (.readEntry src table index) s = .next (s.refused src 0x01 .unknown) ∧
      exec (.readState src table index) s = .next (s.refused src 0x04 .unknown)) ∧
  (∀ s : State,
    let present {n : Nat} (x : Option (Fin n)) : Byte := match x with
      | some i => lowByte i.val
      | none => 0xFF
    let link (x : Option Nat) : Byte := match x with
      | some a => lowByte a
      | none => 0xFF
    (let v := s.settings
     let bytes := [lowByte v.gateway] ++ bytesOfNat 2 v.chatterInterval ++
       [lowByte v.highA, lowByte v.lowA, lowByte v.highB, lowByte v.lowB, lowByte v.batchLevel, lowByte v.batchTime] ++
       bytesOfNat 2 v.syncLimit ++ [present v.systemWindow]
     entryAt .settings 0 s = some bytes ∧ dynamicAt .settings 0 s = some bytes) ∧
    (∀ i : Fin 4, let v := s.ann.patterns.get i
      entryAt .pattern i.val s = some [lowByte v.period, lowByte v.onTime] ∧
      dynamicAt .pattern i.val s = some [lowByte v.period, lowByte v.onTime]) ∧
    (∀ m : Fin 16, entryAt .module m.val s = some
      (match (s.inputModule m).defn with
        | some d => [0x01, lowByte d.address, lowByte d.channels] ++ bytesOfNat 2 d.supervision ++ [present d.window]
        | none => [0x00, 0xFF, 0xFF, 0xFF, 0xFF, 0xFF])) ∧
    (∀ p : Fin 1024, entryAt .point p.val s = some
      (match (s.point p).defn with
        | some d => [0x01, if d.polarity = .alarmOnOpen then 1 else 0, if d.kind = .momentary then 1 else 0, present d.window,
            lowByte d.chatterLimit, if d.inhibited then 1 else 0, if d.cls = .trip then 1 else 0]
        | none => [0x00, 0xFF, 0xFF, 0xFF, 0xFF, 0xFF, 0xFF])) ∧
    (∀ w : Fin 192, entryAt .window w.val s = some
      (match (s.window w).defn with
        | some d => [0x01, lowByte d.group.val, if d.sequence = .autoReset then 1 else 0, if d.eligible then 1 else 0]
        | none => [0x00, 0xFF, 0xFF, 0xFF])) ∧
    (∀ d : Fin 6, entryAt .driver d.val s = some [link (s.driver d)]) ∧
    (∀ g : Fin 32, entryAt .group g.val s = some
      (match (s.group g).defn with
        | some d => [0x01, present d.horn, if d.firstOut then 1 else 0, lowByte d.settle]
        | none => [0x00, 0xFF, 0xFF, 0xFF])) ∧
    (∀ h : Fin 4, entryAt .horn h.val s = some [if (s.horn h).sound = .pulsed then 1 else 0]) ∧
    (∀ e : Fin 64, entryAt .element e.val s = some
      ((match (s.element e).defn with
        | some d => [0x01, lowByte d.inputs.length] ++
            d.inputs.flatMap (fun i => bytesOfNat 2 i.point.val ++ [lowByte i.weight, if i.sense = .onNormal then 1 else 0]) ++
            [lowByte d.pickup, lowByte d.dropout,
              match d.policy with
                | .badCounts => 0
                | .badIgnored => 1
                | .badHolds => 2,
              match d.mode with
                | .instant => 0
                | .onDelay => 1
                | .offDelay => 2
                | .pulse => 3] ++
            bytesOfNat 2 d.delay ++ [lowByte d.targets.length] ++ d.targets.map (fun c => lowByte c.val)
        | none => [0x00, 0xFF, 0xFF, 0xFF, 0xFF, 0xFF, 0xFF, 0xFF, 0xFF]) ++
        [match (s.element e).pending with
          | .none => 0
          | .definition _ => 1
          | .clear => 2])) ∧
    (∀ k : Fin 8, entryAt .output k.val s = some [link (s.outputModule k).address, lowByte (s.outputModule k).timeout]) ∧
    (∀ c : Fin 16, entryAt .channel c.val s = some
      (match (s.channel c).defn with
        | some d => [0x01, lowByte d.outputModule.val, lowByte d.output.val, if d.lockout then 1 else 0, present d.window]
        | none => [0x00, 0xFF, 0xFF, 0xFF, 0xFF])) ∧
    (∀ m : Fin 16, let v := s.inputModule m
      dynamicAt .module m.val s = some (
        ([match v.state with
          | .unseen => 0
          | .live => 1
          | .silent => 2] : List Byte) ++
        (match v.lastSeq with
          | some q => bytesOfNat 2 q
          | none => [0xFF, 0xFF]) ++
        (match v.supervision with
          | some n => bytesOfNat 2 n
          | none => [0xFF, 0xFF]) ++
        bytesOfNat 6 v.floor ++ bytesOfNat 2 v.ignored ++ bytesOfNat 2 v.duplicates ++ bytesOfNat 2 v.malformed)) ∧
    (∀ p : Fin 1024, let v := s.point p
      dynamicAt .point p.val s = some (
        [if v.contact then 1 else 0, if v.condition = .alarm then 1 else 0, if v.quality = .bad then 1 else 0,
          if v.announced = .alarm then 1 else 0, lowByte v.chatter, if v.suppressed then 1 else 0] ++ bytesOfNat 6 v.lastEvent)) ∧
    (∀ w : Fin 192, let v := s.window w
      dynamicAt .window w.val s = some
        [match v.state with
          | .dark => 0
          | .fast => 1
          | .steady => 2
          | .slow => 3,
         lowByte v.count, if v.mark then 1 else 0,
         match v.shown with
          | .off => 0
          | .on => 1
          | .fast => 2
          | .slow => 3
          | .first => 4]) ∧
    (∀ d : Fin 6, dynamicAt .driver d.val s = some ((if d ∈ s.ann.waiting then 1 else 0) :: imageBytes s d)) ∧
    (∀ (d : Fin 6) (k : Fin 16) (w x : Fin 192), w.val = 32 * d.val + 2 * k.val → x.val = 32 * d.val + 2 * k.val + 1 →
      (imageBytes s d).length = 16 ∧
      (imageBytes s d)[k.val]? = some (lowByte ((s.window w).shown.code * 16 + (s.window x).shown.code))) ∧
    (∀ g : Fin 32, let v := s.group g
      dynamicAt .group g.val s = some (
        ([match v.state with
          | .armed => 0
          | .provisional => 1
          | .captured => 2,
         match v.foWindow with
          | some w => lowByte w.val
          | none => 0xFF] : List Byte) ++
        (match v.foPoint with
          | some p => bytesOfNat 2 p.val
          | none => [0xFF, 0xFF]) ++
        bytesOfNat 6 v.captured ++
        [match v.settle with
          | some n => lowByte n
          | none => 0xFF])) ∧
    (∀ h : Fin 4, let v := s.horn h
      dynamicAt .horn h.val s = some
        [match v.state with
          | .quiet => 0
          | .sounding => 1
          | .silenced => 2,
         v.output, lowByte v.fastCount]) ∧
    (∀ e : Fin 64, let v := s.element e
      dynamicAt .element e.val s = some (
        [match v.state with
          | .idle => 0
          | .timing => 1
          | .operated => 2
          | .holding => 3
          | .spent => 4,
         if v.state = .operated ∨ v.state = .holding then 1 else 0, if v.forced then 1 else 0,
         match v.pending with
          | .none => 0
          | .definition _ => 1
          | .clear => 2,
         lowByte v.sum, if v.timer = none then 0 else 1] ++
        bytesOfNat 2 (v.timer.getD 0) ++
        [match v.defn with
          | some d => lowByte d.inputs.length
          | none => 0] ++
        (v.contrib.zip v.held).flatMap (fun x => [if x.1 then 1 else 0, if x.2 then 1 else 0]))) ∧
    (∀ k : Fin 8, let v := s.outputModule k
      dynamicAt .output k.val s = some (
        (match v.awaitedSeq with
          | some q => bytesOfNat 2 q
          | none => [0xFF, 0xFF]) ++
        (match v.deadline with
          | .stopped => [0, 0]
          | .running n => [1, lowByte n]
          | .passed => [2, 0]) ++
        [if k ∈ s.trip.waiting then 1 else 0, lowByte v.awaited.length] ++
        v.awaited.flatMap (fun x => [lowByte x.1.val, if x.2 then 1 else 0]) ++
        bytesOfNat 2 v.stray ++ bytesOfNat 2 v.malformed)) ∧
    ∀ c : Fin 16, let v := s.channel c
      dynamicAt .channel c.val s = some
        [match v.state with
          | .normal => 0
          | .tripped => 1
          | .locked => 2,
         if v.state = .normal then 0 else 1, lowByte v.demand,
         match v.confirmation with
          | .confirmed => 0
          | .awaiting => 1
          | .missing => 2,
         if v.commanded then 1 else 0]) ∧
  ∀ (src : Byte) (s : State), s.ready src →
    let counts (v : PortState) : List Byte :=
      bytesOfNat 2 v.charErrors ++ bytesOfNat 2 v.crcErrors ++ bytesOfNat 2 v.lengthErrors ++ bytesOfNat 2 v.overruns
    let bytes := [lowByte s.mode.code, boolByte s.frozen, lowByte s.time.quality.code] ++ bytesOfNat 6 s.time.station ++
      bytesOfNat 2 s.events.records.length ++ bytesOfNat 2 s.events.dropped ++
      (List.finRange 16).map (fun m => lowByte (s.inputModule m).state.code) ++
      [boolByte s.trip.bkt0, boolByte s.trip.bkt1, lowByte s.portA.buf.length, lowByte s.portB.buf.length] ++
      counts s.portA ++ bytesOfNat 2 s.unknownSource ++ counts s.portB ++ bytesOfNat 2 s.ignoredButtons ++
      bytesOfNat 2 s.unknownConfirms
    let clear (v : PortState) : PortState := { v with charErrors := 0, crcErrors := 0, lengthErrors := 0, overruns := 0 }
    bytes.length = 55 ∧
    exec (.readStatus src 0x00) s = .next (s.answered src ([0x40, 0x00] ++ bytes)) ∧
    exec (.readStatus src 0x01) s = .next ({ s with
      portA := clear s.portA, portB := clear s.portB, unknownSource := 0, ignoredButtons := 0, unknownConfirms := 0 }.answered
        src ([0x40, 0x00] ++ bytes)) ∧
    ∀ flag : Byte, 1 < flag.toNat → exec (.readStatus src flag) s = .next (s.refused src 0x40 .range)

/-- A settings write installs the record, judges both ports at its marks, and moves the source of each MISSING channel from the old
system window to the new; a clear installs the cold-reset values (R61, R166, R176, R177). -/
def Obligations.SettingsAreWrittenAndCleared : Prop :=
  ∀ (src : Byte) (s : State), s.ready src → s.canonical = true →
    let missing := ((List.finRange 16).filter (fun c => decide ((s.channel c).confirmation = .missing))).length
    let judged (high low : Nat) (v : PortState) : PortState :=
      if v.pauseAsserted = false ∧ high ≤ v.buf.length then { v with pauseAsserted := true, control := some .pause }
      else if v.pauseAsserted = true ∧ v.buf.length ≤ low then { v with pauseAsserted := false, control := some .resume }
      else v
    let installed (v : Settings) (t : State) : Prop :=
      t = { s with settings := v, portA := judged v.highA v.lowA s.portA, portB := judged v.highB v.lowB s.portB, ann := t.ann } ∧
      (v.systemWindow = s.settings.systemWindow ∨ missing = 0 → t.ann = s.ann) ∧
      (v.systemWindow ≠ s.settings.systemWindow → ∀ w,
        (s.settings.systemWindow = some w → (t.window w).count = (s.window w).count - missing) ∧
        (v.systemWindow = some w → (t.window w).count = (s.window w).count + missing) ∧
        (s.settings.systemWindow ≠ some w → v.systemWindow ≠ some w →
          (t.window w).state = (s.window w).state ∧ (t.window w).count = (s.window w).count))
    (∀ (entry : List Byte) (v : Settings), readSettings entry = some v →
      (s.mode ≠ .configuring → windowKnown s v.systemWindow = true) →
      ∃ t, exec (.writeSettings src 0 entry) s = .next (t.answered src (entryOk 0x02 .settings 0)) ∧ installed v t) ∧
    ∃ t, exec (.clearSettings src 0) s = .next (t.answered src (entryOk 0x03 .settings 0)) ∧
      installed { gateway := 1, chatterInterval := 1000, highA := 6, lowA := 3, highB := 6, lowB := 3, batchLevel := 4,
                  batchTime := 20, syncLimit := 60, systemWindow := none } t

/-- The first failing check decides an entry command's refusal: LENGTH, then WRONG_MODE of MODULE and FROZEN of ELEMENT, OUTPUT and CHANNEL,
then RANGE of the index and of the fields, then, in the order of the table's own rule, STILL_ACTIVE of OUTPUT and CHANNEL, RANGE of what
another entry holds and of what is named and undefined, and last FULL of a window's 33rd source; an entry in use is not cleared, nor
written with defined no (R18, R21, R27, R59, R71, R83, R95, R115, R116, R126, R129, R174, R177).
That IN_USE comes before the OK of an entry already undefined (log entry 18), and
which fields of a point may be absent with defined no (log entry 10), is the model's reading. -/
def Obligations.EntryChecksComeInOrder : Prop :=
  (∀ (src : Byte) (index : BitVec 16) (entry : List Byte) (s : State), s.ready src →
    let no (c : Instr) (code : Byte) (st : Status) : Prop := exec c s = .next (s.refused src code st)
    (entry.length ≠ 12 → no (.writeSettings src index entry) 0x02 .length) ∧
    (entry.length ≠ 6 → no (.writeModule src index entry) 0x02 .length) ∧
    (entry.length ≠ 7 → no (.writePoint src index entry) 0x02 .length) ∧
    (entry.length ≠ 4 → no (.writeWindow src index entry) 0x02 .length ∧ no (.writeGroup src index entry) 0x02 .length) ∧
    (entry.length ≠ 1 → no (.writeDriver src index entry) 0x02 .length ∧ no (.writeHorn src index entry) 0x02 .length) ∧
    (entry.length ≠ 2 → no (.writePattern src index entry) 0x02 .length ∧ no (.writeOutput src index entry) 0x02 .length) ∧
    (entry.length ≠ 5 → no (.writeChannel src index entry) 0x02 .length) ∧
    (entry = [] → no (.writeElement src index entry) 0x02 .length) ∧
    (s.mode ≠ .configuring → (entry.length = 6 → no (.writeModule src index entry) 0x02 .wrongMode) ∧
      no (.clearModule src index) 0x03 .wrongMode) ∧
    (s.frozen = true →
      (entry ≠ [] → no (.writeElement src index entry) 0x02 .frozen) ∧
      (entry.length = 2 → no (.writeOutput src index entry) 0x02 .frozen) ∧
      (entry.length = 5 → no (.writeChannel src index entry) 0x02 .frozen) ∧
      no (.clearElement src index) 0x03 .frozen ∧ no (.clearOutput src index) 0x03 .frozen ∧
      no (.clearChannel src index) 0x03 .frozen) ∧
    (entry.length = 12 → index.toNat ≠ 0 ∨ settingsBytesOut entry = true → no (.writeSettings src index entry) 0x02 .range) ∧
    (entry.length = 6 → s.mode = .configuring → 16 ≤ index.toNat ∨ moduleBytesOut entry = true →
      no (.writeModule src index entry) 0x02 .range) ∧
    (entry.length = 7 → 1024 ≤ index.toNat ∨ pointBytesOut entry = true → no (.writePoint src index entry) 0x02 .range) ∧
    (entry.length = 4 →
      (192 ≤ index.toNat ∨ windowBytesOut entry = true → no (.writeWindow src index entry) 0x02 .range) ∧
      (32 ≤ index.toNat ∨ groupBytesOut entry = true → no (.writeGroup src index entry) 0x02 .range)) ∧
    (entry.length = 1 →
      (6 ≤ index.toNat ∨ driverBytesOut entry = true → no (.writeDriver src index entry) 0x02 .range) ∧
      (4 ≤ index.toNat ∨ hornBytesOut entry = true → no (.writeHorn src index entry) 0x02 .range)) ∧
    (entry.length = 2 →
      (4 ≤ index.toNat ∨ patternBytesOut entry = true → no (.writePattern src index entry) 0x02 .range) ∧
      (s.frozen = false → 8 ≤ index.toNat ∨ outputBytesOut entry = true → no (.writeOutput src index entry) 0x02 .range)) ∧
    (entry.length = 5 → s.frozen = false → 16 ≤ index.toNat ∨ channelBytesOut entry = true →
      no (.writeChannel src index entry) 0x02 .range) ∧
    (entry ≠ [] → s.frozen = false → 64 ≤ index.toNat → no (.writeElement src index entry) 0x02 .range) ∧
    (index.toNat ≠ 0 → no (.clearSettings src index) 0x03 .range) ∧
    (16 ≤ index.toNat → (s.mode = .configuring → no (.clearModule src index) 0x03 .range) ∧
      (s.frozen = false → no (.clearChannel src index) 0x03 .range)) ∧
    (1024 ≤ index.toNat → no (.clearPoint src index) 0x03 .range) ∧
    (192 ≤ index.toNat → no (.clearWindow src index) 0x03 .range) ∧
    (6 ≤ index.toNat → no (.clearDriver src index) 0x03 .range) ∧
    (32 ≤ index.toNat → no (.clearGroup src index) 0x03 .range) ∧
    (4 ≤ index.toNat → no (.clearHorn src index) 0x03 .range ∧ no (.clearPattern src index) 0x03 .range) ∧
    (64 ≤ index.toNat → s.frozen = false → no (.clearElement src index) 0x03 .range) ∧
    (8 ≤ index.toNat → s.frozen = false → no (.clearOutput src index) 0x03 .range)) ∧
  (∀ (src : Byte) (index : BitVec 16) (df count : Byte) (body : List Byte) (s : State), s.ready src → s.frozen = false →
    index.toNat < 64 →
    let no (entry : List Byte) (st : Status) : Prop := exec (.writeElement src index entry) s = .next (s.refused src 0x02 st)
    let k := count.toNat
    let m := (body.getD (4 * k + 6) 0).toNat
    (1 < df.toNat → no (df :: body) .range) ∧
    no [0x01] .length ∧
    (k < 1 ∨ 8 < k → no (0x01 :: count :: body) .range) ∧
    (1 ≤ k → k ≤ 8 →
      (body.length ≤ 4 * k + 6 → no (0x01 :: count :: body) .length) ∧
      (4 * k + 6 < body.length →
        (m < 1 ∨ 4 < m → no (0x01 :: count :: body) .range) ∧
        (1 ≤ m → m ≤ 4 →
          (body.length ≠ 4 * k + 7 + m → no (0x01 :: count :: body) .length) ∧
          (body.length = 4 * k + 7 + m → elementBytesOut k body = true → no (0x01 :: count :: body) .range))))) ∧
  (∀ (src : Byte) (index : BitVec 16) (entry : List Byte) (s : State), s.ready src → s.frozen = false →
    let no (c : Instr) (code : Byte) (st : Status) : Prop := exec c s = .next (s.refused src code st)
    (∀ (k : Fin 8) (c : Fin 16), index.toNat = k.val → (hostedBy s k).contains c = true →
      ((s.channel c).state.asserted = true → no (.clearOutput src index) 0x03 .stillActive ∧
        ∀ address timeout, readOutput entry = some (address, timeout) → outputAddressTaken s k address = false →
          no (.writeOutput src index entry) 0x02 .stillActive) ∧
      (hostsAsserted s k = false → s.mode ≠ .configuring → no (.clearOutput src index) 0x03 .inUse ∧
        ∀ timeout, readOutput entry = some (none, timeout) → no (.writeOutput src index entry) 0x02 .inUse)) ∧
    (∀ (k j : Fin 8) (a timeout : Nat), index.toNat = k.val → j ≠ k → readOutput entry = some (some a, timeout) →
      (s.outputModule j).address = some a → no (.writeOutput src index entry) 0x02 .range) ∧
    (∀ (e : Fin 64) (d : ElementDef), index.toNat = e.val → readElement entry = .define d → s.mode ≠ .configuring →
      (∃ i ∈ d.inputs, (s.point i.point).defn = none) ∨ (∃ c ∈ d.targets, (s.channel c).defn = none) →
      no (.writeElement src index entry) 0x02 .range) ∧
    ∀ c : Fin 16, index.toNat = c.val →
      ((s.channel c).state.asserted = true → no (.clearChannel src index) 0x03 .stillActive ∧
        ∀ found, readChannel entry = some found → no (.writeChannel src index entry) 0x02 .stillActive) ∧
      ((s.channel c).state.asserted = false →
        (∀ e, elementTargets s c e = true → no (.clearChannel src index) 0x03 .inUse ∧
          (readChannel entry = some none → no (.writeChannel src index entry) 0x02 .inUse)) ∧
        ∀ d : ChannelDef, readChannel entry = some (some d) →
          (∀ (j : Fin 16) (x : ChannelDef), j ≠ c → (s.channel j).defn = some x → x.outputModule = d.outputModule →
            x.output = d.output → no (.writeChannel src index entry) 0x02 .range) ∧
          (s.mode ≠ .configuring → (s.outputModule d.outputModule).address = none → no (.writeChannel src index entry) 0x02 .range) ∧
          ∀ w : Fin 192, d.window = some w →
            (s.mode ≠ .configuring → (s.window w).defn = none → no (.writeChannel src index entry) 0x02 .range) ∧
            (outputTaken s c d = false → (s.mode = .configuring ∨
                ((s.outputModule d.outputModule).address ≠ none ∧ (s.window w).defn ≠ none)) →
              channelNames s w c = false → 32 ≤ ordinarySources s w → no (.writeChannel src index entry) 0x02 .full))) ∧
  (∀ (src : Byte) (index : BitVec 16) (entry : List Byte) (s : State), s.ready src →
    let no (c : Instr) (code : Byte) (st : Status) : Prop := exec c s = .next (s.refused src code st)
    (∀ (v : Settings) (w : Fin 192), readSettings entry = some v → v.systemWindow = some w → s.mode ≠ .configuring →
      (s.window w).defn = none → no (.writeSettings src index entry) 0x02 .range) ∧
    (∀ (m : Fin 16) (d : ModuleDef), index.toNat = m.val → s.mode = .configuring → readModule entry = some (some d) →
      (∀ (j : Fin 16) (x : ModuleDef), j ≠ m → (s.inputModule j).defn = some x → x.address = d.address →
        no (.writeModule src index entry) 0x02 .range) ∧
      ∀ w : Fin 192, moduleAddressTaken s m d.address = false → d.window = some w → moduleNames s w m = false →
        32 ≤ ordinarySources s w → no (.writeModule src index entry) 0x02 .full) ∧
    (∀ p : Fin 1024, index.toNat = p.val →
      (∀ e, elementLists s p e = true → no (.clearPoint src index) 0x03 .inUse ∧
        (readPoint entry = some none → no (.writePoint src index entry) 0x02 .inUse)) ∧
      ∀ d : PointDef, readPoint entry = some (some d) →
        (s.mode ≠ .configuring → (∀ x, (s.inputModule (moduleOf p)).defn = some x → x.channels ≤ p.val % 64) →
          no (.writePoint src index entry) 0x02 .range) ∧
        ∀ w : Fin 192, d.window = some w →
          (s.mode ≠ .configuring → (s.window w).defn = none → no (.writePoint src index entry) 0x02 .range) ∧
          ((s.mode = .configuring ∨ ((s.window w).defn ≠ none ∧ pointPlaced s p = true)) →
            pointNames s w p = false → 32 ≤ ordinarySources s w → no (.writePoint src index entry) 0x02 .full)) ∧
    (∀ w : Fin 192, index.toNat = w.val → s.mode ≠ .configuring →
      (windowInUse s w = true → no (.clearWindow src index) 0x03 .inUse ∧
        (readWindow entry = some none → no (.writeWindow src index entry) 0x02 .inUse)) ∧
      ∀ d : WindowDef, readWindow entry = some (some d) → (s.group d.group).defn = none →
        no (.writeWindow src index entry) 0x02 .range) ∧
    (∀ (g : Fin 32) (w : Fin 192) (d : WindowDef), index.toNat = g.val → s.mode ≠ .configuring →
      (s.window w).defn = some d → d.group = g → no (.clearGroup src index) 0x03 .inUse ∧
      (readGroup entry = some none → no (.writeGroup src index entry) 0x02 .inUse)) ∧
    ∀ (d j : Fin 6) (a : Nat), index.toNat = d.val → j ≠ d → readDriver entry = some (some a) → s.driver j = some a →
      no (.writeDriver src index entry) 0x02 .range) ∧
  ∀ (w : Fin 192) (s : State), s.canonical = true →
    (windowInUse s w = true ↔ (∃ p, pointNames s w p = true) ∨ (∃ m, moduleNames s w m = true) ∨
      (∃ c, channelNames s w c = true) ∨ s.settings.systemWindow = some w) ∧
    ordinarySources s w = ((List.finRange 1024).filter (pointNames s w)).length +
      ((List.finRange 16).filter (moduleNames s w)).length + ((List.finRange 16).filter (channelNames s w)).length ∧
    (∀ p, pointNames s w p = true ↔ ∃ d, (s.point p).defn = some d ∧ d.window = some w) ∧
    (∀ m, moduleNames s w m = true ↔ ∃ d, (s.inputModule m).defn = some d ∧ d.window = some w) ∧
    ∀ c, channelNames s w c = true ↔ ∃ d, (s.channel c).defn = some d ∧ d.window = some w

/-! ### Operating modes -/

/-- SET MODE RUN from CONFIGURING: the first entry that fails an item of the consistency check is reported (R180). A consistent part
enters RUN with MODE_CHANGE first and the dropped count handled (R152, R157), the decay timer started, every point announced (R23), every
window with active sources FAST with its horn sounding (R79, R99), the supervision of UNSEEN modules restarted (R38), then every defined
element evaluated in ascending number (R122) and both backup lines judged (R141); in RUN it is answered OK (R179, R181). That the drivers that
join the waiting list join it in ascending number is the model's reading (log entry 21). -/
def Obligations.SetModeRunEntersService : Prop :=
  (∀ (src : Byte) (s : State), s.ready src →
    (s.mode = .run → exec (.setModeRun src) s = .next (s.answered src [0x10, 0x00])) ∧
    (∀ (table : TableId) (k : Nat), s.mode = .configuring → consistencyFailure s = some (table, k) →
      exec (.setModeRun src) s = .next (s.answered src ([0x10, 0x08, table.code] ++ bytesOfNat 2 k))) ∧
    (s.mode = .configuring → consistencyFailure s = none →
      ∃ t : State, exec (.setModeRun src) s = .next (t.answered src [0x10, 0x00]) ∧
        t = { s with mode := .run, modules := t.modules, points := t.points, decay := some s.settings.chatterInterval,
                     ann := t.ann, elements := t.elements, trip := t.trip, events := t.events } ∧
        (∀ m, t.inputModule m = if (s.inputModule m).state = .unseen then
          (match (s.inputModule m).defn with
            | some d => { s.inputModule m with supervision := some d.supervision }
            | none => s.inputModule m) else s.inputModule m) ∧
        (∀ p, t.point p = match (s.point p).defn with
          | some d => { s.point p with announced := d.announce (s.point p) (s.point p).announced }
          | none => s.point p) ∧
        (∀ w, (t.window w).defn = (s.window w).defn) ∧ (∀ g, (t.group g).defn = (s.group g).defn) ∧
        (∃ later : List Record, t.events.records =
          (offerNow .modeChange .trip 65535 1 0 { s with mode := .run }).events.records ++ later) ∧
        t.trip.outputs = s.trip.outputs ∧
        (∀ k, t.bktDrivenLow k = true ↔ ∃ c : Fin 16, halfOf c = k ∧ (t.channel c).state.asserted = true ∧
          (t.channel c).confirmation = .missing) ∧
        (s.canonical = true → s.windowsSound → s.announcedDerived → ∃ u : State,
          let v := State.each ((List.finRange 64).filter (fun e => (s.element e).defn.isSome)) (evaluateElement .moves) u
          let entering (w : Fin 192) : Bool := (s.window w).defn.isSome && decide (0 < (u.window w).count)
          let entries (h : Fin 4) : Nat :=
            ((List.finRange 192).filter (fun w => entering w && decide (hornOfWindow s w = some h))).length
          t.elements = v.elements ∧ t.trip.channels = v.trip.channels ∧ t.trip.waiting = v.trip.waiting ∧ t.events = v.events ∧
          t.ann = { v.ann with waiting := t.ann.waiting } ∧
          u = { t with elements := s.elements, trip := s.trip, ann := u.ann, events := u.events } ∧
          u.events = (queueOverflow (offerNow .modeChange .trip 65535 1 0 { s with mode := .run })).events ∧
          u.ann = { s.ann with windows := u.ann.windows, horns := u.ann.horns, waiting := u.ann.waiting,
                               phaseWaiting := u.ann.phaseWaiting } ∧
          t.ann.waiting = s.ann.waiting ++ (List.finRange 6).filter (fun d => v.ann.waiting.contains d && !s.ann.waiting.contains d) ∧
          (∀ w, u.window w = { s.window w with
            state := if entering w then .fast else .dark
            count := (s.window w).count + ((List.finRange 1024).filter (fun p => match (s.point p).defn with
              | some d => decide (d.window = some w ∧ (t.point p).announced = .alarm)
              | none => false)).length
            shown := derivedPattern u w }) ∧
          (∀ h, u.horn h = if entries h = 0 then s.horn h
            else { s.horn h with state := .sounding, fastCount := (s.horn h).fastCount + entries h }) ∧
          (u.ann.phaseWaiting = true ↔ s.ann.phaseWaiting = true ∨
            ∃ h, 0 < entries h ∧ (s.horn h).state ≠ .sounding)))) ∧
  ∀ s : State, s.canonical = true →
    let placed (p : Fin 1024) : Prop := ∃ d, (s.inputModule (moduleOf p)).defn = some d ∧ p.val % 64 < d.channels
    let unknown (w : Option (Fin 192)) : Prop := ∃ x, w = some x ∧ (s.window x).defn = none
    let unaddressed (d : ChannelDef) : Prop := (s.outputModule d.outputModule).address = none
    let items : List (TableId × (Nat → Prop)) :=
      [ (.point, fun k => ∃ p : Fin 1024, p.val = k ∧ (s.point p).defn ≠ none ∧ ¬ placed p),
        (.element, fun k => ∃ (e : Fin 64) (d : ElementDef), e.val = k ∧ (s.element e).defn = some d ∧
          ∃ i ∈ d.inputs, (s.point i.point).defn = none),
        (.element, fun k => ∃ (e : Fin 64) (d : ElementDef), e.val = k ∧ (s.element e).defn = some d ∧
          ∃ c ∈ d.targets, ∀ x, (s.channel c).defn = some x → unaddressed x),
        (.channel, fun k => ∃ (c : Fin 16) (d : ChannelDef), c.val = k ∧ (s.channel c).defn = some d ∧ unaddressed d),
        (.point, fun k => ∃ (p : Fin 1024) (d : PointDef), p.val = k ∧ (s.point p).defn = some d ∧ unknown d.window),
        (.module, fun k => ∃ (m : Fin 16) (d : ModuleDef), m.val = k ∧ (s.inputModule m).defn = some d ∧ unknown d.window),
        (.channel, fun k => ∃ (c : Fin 16) (d : ChannelDef), c.val = k ∧ (s.channel c).defn = some d ∧ unknown d.window),
        (.settings, fun k => k = 0 ∧ unknown s.settings.systemWindow),
        (.window, fun k => ∃ (w : Fin 192) (d : WindowDef), w.val = k ∧ (s.window w).defn = some d ∧
          (s.group d.group).defn = none) ]
    ((∀ x ∈ items, ∀ k, ¬ x.2 k) → consistencyFailure s = none) ∧
    ∀ (n : Nat) (table : TableId) (fails : Nat → Prop) (k : Nat), items[n]? = some (table, fails) → fails k →
      (∀ j < k, ¬ fails j) → (∀ x ∈ items.take n, ∀ j, ¬ x.2 j) → consistencyFailure s = some (table, k)

/-- SET MODE TEST from RUN, with no output asserted, offers MODE_CHANGE, releases the backup lines and puts every qualifying module on the
TRIP list (R142, R152, R179, R182). SET MODE RUN from TEST offers MODE_CHANGE, then clears the flag of each forced element and evaluates it,
by rising number, the channels taking the counts only, and leaves every other element as it stands (R120, R123, R131); then every defined
channel, by rising number, is TRIPPED with CHANNEL_TRIP where it has demand and NORMAL where it has none, and its window takes an
activation or a clear where its output changed; then the modules join the TRIP list and the lines are judged (R141, R143). That the
drivers join the waiting list in ascending number is the model's reading (log entry 21). -/
def Obligations.TestIsEnteredAndLeft : Prop :=
  (∀ (src : Byte) (s : State), s.ready src →
    (s.mode = .test → exec (.setModeTest src) s = .next (s.answered src [0x10, 0x00])) ∧
    (s.mode = .configuring → exec (.setModeTest src) s = .next (s.refused src 0x10 .wrongMode)) ∧
    (s.mode = .run → (∃ c, (s.channel c).state.asserted = true) →
      exec (.setModeTest src) s = .next (s.refused src 0x10 .stillActive)) ∧
    (s.mode = .run → (∀ c, (s.channel c).state.asserted = false) →
      exec (.setModeTest src) s = .next ({ s with
        mode := .test
        events := (offerNow .modeChange .trip 65535 2 0 { s with mode := .test }).events
        trip := { s.trip with
          bkt0 := false, bkt1 := false
          waiting := s.trip.waiting ++ (List.finRange 8).filter (fun k => (s.outputModule k).address.isSome &&
            !(hostedBy s k).isEmpty && !s.trip.waiting.contains k) } }.answered src [0x10, 0x00]))) ∧
  ∀ (src : Byte) (s : State), s.ready src → s.mode = .test →
    ∃ t : State, exec (.setModeRun src) s = .next (t.answered src [0x10, 0x00]) ∧
      t = { s with mode := .run, ann := t.ann, elements := t.elements, trip := t.trip, events := t.events } ∧
      (∀ e, (t.element e).defn ≠ none → (t.element e).forced = false) ∧
      (∀ c d, (s.channel c).defn = some d → (t.channel c).defn = some d ∧
        (t.channel c).state = if 0 < (t.channel c).demand then .tripped else .normal) ∧
      (∀ k, (t.outputModule k) = s.outputModule k ∧
        ((s.outputModule k).address.isSome = true → hostedBy s k ≠ [] → k ∈ t.trip.waiting)) ∧
      t.trip.waiting = s.trip.waiting ++ (List.finRange 8).filter (fun k => (s.outputModule k).address.isSome &&
        !(hostedBy s k).isEmpty && !s.trip.waiting.contains k) ∧
      (∀ k, t.bktDrivenLow k = true ↔ ∃ c : Fin 16, halfOf c = k ∧ (t.channel c).state.asserted = true ∧
        (t.channel c).confirmation = .missing) ∧
      (∀ e, (s.element e).defn = none ∨ (s.element e).forced = false → t.element e = s.element e) ∧
      (s.canonical = true →
        let unforced := State.each
          ((List.finRange 64).filter (fun e => (s.element e).defn.isSome && (s.element e).forced))
          (fun e u => evaluateElement .countsOnly e (u.setElement e { u.element e with forced := false }))
          (offerNow .modeChange .trip 65535 1 0 { s with mode := .run })
        let exited := State.each ((List.finRange 16).filter (fun c => (s.channel c).defn.isSome))
          (fun c u =>
            let v := u.channel c
            let trips := decide (0 < v.demand)
            let window := match v.defn with
              | some d => d.window
              | none => none
            let w := if trips then offerNow .channelTrip .trip c.val 0 0 (u.setChannel c { v with state := .tripped })
              else u.setChannel c { v with state := .normal }
            if v.state.asserted = trips then w
            else if trips then activateAt window none w
            else clearAt window w)
          unforced
        t.elements = unforced.elements ∧ t.trip.channels = exited.trip.channels ∧ t.events = exited.events ∧
        t.ann = { exited.ann with waiting := s.ann.waiting ++
          (List.finRange 6).filter (fun d => exited.ann.waiting.contains d && !s.ann.waiting.contains d) }) ∧
      ∃ later : List Record, t.events.records =
        (offerNow .modeChange .trip 65535 1 0 { s with mode := .run }).events.records ++ later

/-- SET MODE CONFIGURING is refused of a frozen part and while an output is asserted; else MODE_CHANGE is offered and every unit returns
to rest: points announced NORMAL, windows DARK and dark, groups ARMED, horns QUIET, elements out of TIMING and SPENT with timers
stopped, forces cleared and what was pending installed (R22, R77, R98, R121, R141, R152, R179, R183). -/
def Obligations.SetModeConfiguringReturnsToRest : Prop :=
  ∀ (src : Byte) (s : State), s.ready src →
    (s.mode = .configuring → exec (.setModeConfiguring src) s = .next (s.answered src [0x10, 0x00])) ∧
    (s.mode ≠ .configuring → s.frozen = true → exec (.setModeConfiguring src) s = .next (s.refused src 0x10 .frozen)) ∧
    (s.mode ≠ .configuring → s.frozen = false → (∃ c, (s.channel c).state.asserted = true) →
      exec (.setModeConfiguring src) s = .next (s.refused src 0x10 .stillActive)) ∧
    (s.mode ≠ .configuring → s.frozen = false → (∀ c, (s.channel c).state.asserted = false) →
      ∃ t : State, exec (.setModeConfiguring src) s = .next (t.answered src [0x10, 0x00]) ∧
        t = { s with mode := .configuring, points := t.points, decay := none, ann := t.ann, elements := t.elements,
                     trip := { s.trip with bkt0 := false, bkt1 := false },
                     events := (offerNow .modeChange .trip 65535 0 0 s).events } ∧
        (∀ p, t.point p = { s.point p with announced := .normal, chatter := 0, suppressed := false }) ∧
        (∀ w, (t.window w).defn = (s.window w).defn ∧ (t.window w).state = .dark ∧ (t.window w).mark = false ∧
          (t.window w).shown = .off) ∧
        (∀ g, t.group g = { s.group g with state := .armed, foWindow := none, foPoint := none, settle := none }) ∧
        (∀ h, t.horn h = { s.horn h with state := .quiet, fastCount := 0 }) ∧
        t.ann.lampTest = false ∧
        (∀ e, (t.element e).pending = .none ∧
          ((s.element e).pending = .clear → t.element e = {}) ∧
          ((s.element e).pending ≠ .clear → (t.element e).timer = none ∧ (t.element e).forced = false ∧
            (t.element e).state = (if (s.element e).state = .timing ∨ (s.element e).state = .spent then .idle
              else (s.element e).state) ∧
            (t.element e).defn = match (s.element e).pending with
              | .definition d => some d
              | _ => (s.element e).defn)))

/-- FREEZE MATRIX sets the latch in RUN and TEST with nothing pending (R184), and while it is set no command but a cold reset changes the
definition of an element or a channel, or an output module's address and timeout. -/
def Obligations.FrozenProtectionIsKept : Prop :=
  (∀ (src : Byte) (s : State), s.ready src →
    (s.mode = .configuring → exec (.freezeMatrix src) s = .next (s.refused src 0x11 .wrongMode)) ∧
    (s.mode ≠ .configuring → (∃ e, (s.element e).pending ≠ .none) →
      exec (.freezeMatrix src) s = .next (s.refused src 0x11 .pending)) ∧
    (s.mode ≠ .configuring → (∀ e, (s.element e).pending = .none) →
      exec (.freezeMatrix src) s = .next ({ s with frozen := true }.answered src [0x11, 0x00]))) ∧
  ∀ (c : Instr) (s t : State), s.frozen = true → s.freezeSound → (∀ ads rsa rsb, c ≠ .coldReset ads rsa rsb) →
    exec c s = .next t →
    t.frozen = true ∧ (∀ e, (t.element e).defn = (s.element e).defn) ∧ (∀ b, (t.channel b).defn = (s.channel b).defn) ∧
    ∀ k, (t.outputModule k).address = (s.outputModule k).address ∧ (t.outputModule k).timeout = (s.outputModule k).timeout

/-- ANNUNCIATION RESTART, in RUN and TEST: only RESTART is offered; every defined point is out of chatter and announced; windows with
active sources are STEADY, the others DARK, none marked; groups are ARMED, horns QUIET, lamp test ended, a PHASE frame on wait; the
protection is untouched (R24, R80, R99, R153, R185). -/
def Obligations.AnnunciationRestartReturnsTheAlarms : Prop :=
  ∀ (src : Byte) (s : State), s.ready src →
    (s.mode = .configuring → exec (.annunciationRestart src) s = .next (s.refused src 0x12 .wrongMode)) ∧
    (s.mode ≠ .configuring →
      ∃ t : State, exec (.annunciationRestart src) s = .next (t.answered src [0x12, 0x00]) ∧
        t = { s with points := t.points, ann := t.ann, events := (offerNow .restart .alarm 65535 0 0 s).events } ∧
        (∀ p, t.point p = match (s.point p).defn with
          | some d =>
            let u : Point := { s.point p with chatter := 0, suppressed := false }
            { u with announced := d.announce u u.announced }
          | none => s.point p) ∧
        (∀ w, (t.window w).defn = (s.window w).defn ∧ (t.window w).mark = false ∧
          (t.window w).state = (if (s.window w).defn ≠ none ∧ 0 < (t.window w).count then .steady else .dark) ∧
          (t.window w).shown = (if (t.window w).state = .steady then .on else .off)) ∧
        (∀ g, t.group g = { s.group g with state := .armed, foWindow := none, foPoint := none, settle := none }) ∧
        (∀ h, t.horn h = { s.horn h with state := .quiet, fastCount := 0 }) ∧
        t.ann.lampTest = false ∧ t.ann.phaseWaiting = true)

/-! ### The invariants together -/

/-- Every table stays in its canonical form, and a frozen part stays in service with nothing pending, after every step (R184). -/
def Obligations.EveryStepKeepsTablesAndFreezeSound : Prop :=
  (∀ s t : State, s.canonical = true → step s = .next t → t.canonical = true) ∧
  ∀ s t : State, s.freezeSound → step s = .next t → t.freezeSound

/-- The state right after cold reset meets every invariant of the part. -/
def Obligations.InvariantsHoldAtReset : Prop :=
  State.reset.canonical = true ∧ State.reset.flowSettled ∧ State.reset.queueSound ∧ State.reset.conditionsDerived ∧
  State.reset.announcedDerived ∧ State.reset.windowsSound ∧ State.reset.patternsDerived ∧ State.reset.hornsSound ∧
  State.reset.groupsSound ∧ State.reset.sumsCurrent ∧ State.reset.channelsSound ∧ State.reset.outputsSound ∧
  State.reset.linesSound ∧ State.reset.freezeSound ∧ State.reset.waitingSound ∧ State.reset.groupsKnown ∧
  State.reset.fastCounted ∧ State.reset.marksSound ∧ State.reset.targetsSound ∧ State.reset.demandCounted
end

