-- ==== Sys2Proof/Laws/Table.lean ====
section
/-! SUPPORT. Reading after writing a table, and that every table operation keeps the canonical form. -/

set_option Elab.async false

namespace Sys2Proof.Machine

variable {n : Nat} {α : Type}

@[simp] theorem Table.get_nil (d : α) (i : Fin n) : Table.get d [] i = d := rfl

theorem Table.get_cons (d : α) (j i : Fin n) (v : α) (t : Table n α) :
    Table.get d ((j, v) :: t) i = if i = j then v else Table.get d t i := rfl

theorem Table.get_filter_ne (d : α) (t : Table n α) {i j : Fin n} (h : j ≠ i) :
    Table.get d (t.filter (fun c => decide (c.1 ≠ i))) j = Table.get d t j := by
  induction t with
  | nil => rfl
  | cons c t ih =>
    obtain ⟨k, v⟩ := c
    by_cases hk : k = i
    · subst hk
      simpa [Table.get_cons, h] using ih
    · simp only [ne_eq, decide_not] at ih
      simp [hk, Table.get_cons, ih]

theorem Table.get_filter_self (d : α) (t : Table n α) (i : Fin n) :
    Table.get d (t.filter (fun c => decide (c.1 ≠ i))) i = d := by
  induction t with
  | nil => rfl
  | cons c t ih =>
    obtain ⟨k, v⟩ := c
    by_cases hk : k = i
    · simpa [hk] using ih
    · simp only [ne_eq, decide_not] at ih
      simp [hk, Table.get_cons, Ne.symm hk, ih]

theorem Table.get_insertCell_ne (d : α) (v : α) (t : Table n α) {i j : Fin n} (h : j ≠ i) :
    Table.get d (Table.insertCell i v t) j = Table.get d t j := by
  induction t with
  | nil => simp [Table.insertCell, Table.get_cons, h]
  | cons c t ih =>
    obtain ⟨k, w⟩ := c
    by_cases hk : i < k
    · simp [Table.insertCell, hk, Table.get_cons, h]
    · simp [Table.insertCell, hk, Table.get_cons, ih]

theorem Table.get_insertCell_self (d : α) (v : α) (t : Table n α) (i : Fin n) (h : ∀ c ∈ t, c.1 ≠ i) :
    Table.get d (Table.insertCell i v t) i = v := by
  induction t with
  | nil => simp [Table.insertCell, Table.get_cons]
  | cons c t ih =>
    obtain ⟨k, w⟩ := c
    have hk : k ≠ i := h (k, w) (by simp)
    have ht : ∀ c ∈ t, c.1 ≠ i := fun c hc => h c (by simp [hc])
    by_cases hlt : i < k
    · simp [Table.insertCell, hlt, Table.get_cons]
    · simp [Table.insertCell, hlt, Table.get_cons, Ne.symm hk, ih ht]

variable [DecidableEq α]

/-- A read at the index written gives the value written. -/
@[simp] theorem Table.get_set_self (d : α) (t : Table n α) (i : Fin n) (v : α) :
    Table.get d (Table.set d t i v) i = v := by
  unfold Table.set
  by_cases hv : v = d
  · simp only [hv, if_true]
    exact Table.get_filter_self d t i
  · simp only [hv, if_false]
    exact Table.get_insertCell_self d v _ i (by intro c hc; simpa using (List.mem_filter.mp hc).2)

/-- A write leaves every other index alone. -/
theorem Table.get_set_ne (d : α) (t : Table n α) (v : α) {i j : Fin n} (h : j ≠ i) :
    Table.get d (Table.set d t i v) j = Table.get d t j := by
  unfold Table.set
  by_cases hv : v = d
  · simp only [hv, if_true]
    exact Table.get_filter_ne d t h
  · simp only [hv, if_false]
    rw [Table.get_insertCell_ne d v _ h, Table.get_filter_ne d t h]

/-- Read after write, both cases. -/
theorem Table.get_set (d : α) (t : Table n α) (i j : Fin n) (v : α) :
    Table.get d (Table.set d t i v) j = if j = i then v else Table.get d t j := by
  by_cases h : j = i
  · simp [h]
  · simp [h, Table.get_set_ne d t v h]

omit [DecidableEq α] in
theorem Table.filter_insertCell (i : Fin n) (v : α) (t : Table n α) :
    (Table.insertCell i v t).filter (fun c => decide (c.1 ≠ i)) = t.filter (fun c => decide (c.1 ≠ i)) := by
  induction t with
  | nil => simp [Table.insertCell]
  | cons c t ih => unfold Table.insertCell; split <;> simp_all [List.filter_cons]

/-- Of two writes of one entry the later stands. -/
@[simp] theorem Table.set_set (d : α) (t : Table n α) (i : Fin n) (v w : α) :
    Table.set d (Table.set d t i v) i w = Table.set d t i w := by
  have h : (Table.set d t i v).filter (fun c => decide (c.1 ≠ i)) = t.filter (fun c => decide (c.1 ≠ i)) := by
    unfold Table.set
    split
    · simp
    · rw [Table.filter_insertCell]; simp
  simp only [Table.set] at h ⊢
  rw [h]

/-- The canonical form, as two propositions. -/
theorem Table.wf_iff (d : α) (t : Table n α) :
    Table.wf d t = true ↔ t.Pairwise (fun a b => a.1 < b.1) ∧ ∀ c ∈ t, c.2 ≠ d := by
  simp [Table.wf, Bool.and_eq_true, List.all_eq_true]

theorem Table.wf_nil (d : α) : Table.wf d ([] : Table n α) = true := by
  simp [Table.wf]

theorem Table.mem_insertCell {i : Fin n} {v : α} {t : Table n α} {c : Fin n × α} :
    c ∈ Table.insertCell i v t ↔ c = (i, v) ∨ c ∈ t := by
  induction t with
  | nil => simp [Table.insertCell]
  | cons b t ih =>
    obtain ⟨k, w⟩ := b
    by_cases hk : i < k
    · simp [Table.insertCell, hk]
    · simp only [Table.insertCell, hk, if_false, List.mem_cons, ih]
      tauto

theorem Table.pairwise_insertCell {i : Fin n} {v : α} {t : Table n α}
    (ht : t.Pairwise (fun a b => a.1 < b.1)) (hi : ∀ c ∈ t, c.1 ≠ i) :
    (Table.insertCell i v t).Pairwise (fun a b => a.1 < b.1) := by
  induction t with
  | nil => simp [Table.insertCell]
  | cons b t ih =>
    obtain ⟨k, w⟩ := b
    have hrest := List.pairwise_cons.mp ht
    have hne : k ≠ i := hi (k, w) (by simp)
    by_cases hk : i < k
    · simp only [Table.insertCell, hk, if_true]
      refine List.pairwise_cons.mpr ⟨?_, ht⟩
      intro c hc
      rcases List.mem_cons.mp hc with rfl | hc
      · exact hk
      · exact lt_trans hk (hrest.1 c hc)
    · simp only [Table.insertCell, hk, if_false]
      refine List.pairwise_cons.mpr ⟨?_, ih hrest.2 (fun c hc => hi c (by simp [hc]))⟩
      intro c hc
      rcases Table.mem_insertCell.mp hc with rfl | hc
      · exact lt_of_le_of_ne (not_lt.mp hk) hne
      · exact hrest.1 c hc

/-- A write keeps the canonical form. -/
theorem Table.wf_set (d : α) (t : Table n α) (i : Fin n) (v : α) (h : Table.wf d t = true) :
    Table.wf d (Table.set d t i v) = true := by
  rw [Table.wf_iff] at h ⊢
  have hp := h.1.filter (p := fun c => decide (c.1 ≠ i))
  unfold Table.set
  by_cases hv : v = d
  · simp only [hv, if_true]
    exact ⟨hp, fun c hc => h.2 c (List.mem_filter.mp hc).1⟩
  · simp only [hv, if_false]
    refine ⟨Table.pairwise_insertCell hp (by intro c hc; simpa using (List.mem_filter.mp hc).2), ?_⟩
    intro c hc
    rcases Table.mem_insertCell.mp hc with rfl | hc
    · exact hv
    · exact h.2 c (List.mem_filter.mp hc).1

omit [DecidableEq α] in
theorem Table.get_of_forall_ne (d : α) (t : Table n α) (i : Fin n) (h : ∀ c ∈ t, c.1 ≠ i) : Table.get d t i = d := by
  induction t with
  | nil => rfl
  | cons c t ih =>
    obtain ⟨k, v⟩ := c
    have hk : i ≠ k := fun e => h (k, v) (by simp) e.symm
    simp [Table.get_cons, hk, ih (fun c hc => h c (by simp [hc]))]

/-- In a canonical table, a cell listed is what its index reads as. -/
theorem Table.get_of_mem {d : α} {t : Table n α} (h : Table.wf d t = true) {i : Fin n} {v : α} (hm : (i, v) ∈ t) :
    Table.get d t i = v := by
  rw [Table.wf_iff] at h
  induction t with
  | nil => simp at hm
  | cons c t ih =>
    obtain ⟨k, w⟩ := c
    have hp := List.pairwise_cons.mp h.1
    rcases List.mem_cons.mp hm with heq | hm
    · cases heq
      simp [Table.get_cons]
    · have hlt : k < i := hp.1 (i, v) hm
      have hne : i ≠ k := fun e => absurd (e ▸ hlt) (lt_irrefl k)
      simp only [Table.get_cons, hne, if_false]
      exact ih ⟨hp.2, fun c hc => h.2 c (by simp [hc])⟩ hm

omit [DecidableEq α] in
/-- An index that does not read as the initial entry is listed. -/
theorem Table.mem_keys_of_get_ne {d : α} {t : Table n α} {i : Fin n} (h : Table.get d t i ≠ d) : i ∈ Table.keys t := by
  by_contra hk
  refine h (Table.get_of_forall_ne d t i ?_)
  intro c hc e
  exact hk (by simpa [Table.keys] using ⟨c.2, by rw [← e]; exact hc⟩)

theorem Table.keys_nodup {d : α} {t : Table n α} (h : Table.wf d t = true) : (Table.keys t).Nodup := by
  rw [Table.wf_iff] at h
  unfold Table.keys
  rw [List.Nodup, List.pairwise_map]
  exact h.1.imp (fun {a b} hab e => absurd hab (by rw [e]; exact lt_irrefl _))

theorem Table.mapCells_subset (d : α) (f : α → α) (t : Table n α) {c : Fin n × α} (hc : c ∈ Table.mapCells d f t) :
    c.2 ≠ d ∧ ∃ v, (c.1, v) ∈ t ∧ c.2 = f v := by
  unfold Table.mapCells at hc
  obtain ⟨b, hb, he⟩ := List.mem_filterMap.mp hc
  by_cases hf : f b.2 = d
  · simp [hf] at he
  · simp only [hf, if_false, Option.some.injEq] at he
    subst he
    exact ⟨hf, b.2, hb, rfl⟩

/-- Applying a function to every entry keeps the canonical form. -/
theorem Table.wf_mapCells (d : α) (f : α → α) (t : Table n α) (h : Table.wf d t = true) :
    Table.wf d (Table.mapCells d f t) = true := by
  rw [Table.wf_iff] at h ⊢
  refine ⟨?_, fun c hc => (Table.mapCells_subset d f t hc).1⟩
  unfold Table.mapCells
  refine List.Pairwise.filterMap _ ?_ h.1
  intro a b hab a' ha' b' hb'
  by_cases hfa : f a.2 = d <;> by_cases hfb : f b.2 = d <;> simp [hfa, hfb] at ha' hb'
  subst ha' hb'
  exact hab

/-- A function that leaves the initial entry as it is acts on every entry of a canonical table. -/
theorem Table.get_mapCells (d : α) (f : α → α) (t : Table n α) (h : Table.wf d t = true) (hd : f d = d) (i : Fin n) :
    Table.get d (Table.mapCells d f t) i = f (Table.get d t i) := by
  induction t with
  | nil => simp [Table.mapCells, hd]
  | cons c t ih =>
    obtain ⟨k, v⟩ := c
    have hw := (Table.wf_iff d _).mp h
    have hp := List.pairwise_cons.mp hw.1
    have ht : Table.wf d t = true := (Table.wf_iff d t).mpr ⟨hp.2, fun c hc => hw.2 c (by simp [hc])⟩
    have hout : ∀ c ∈ Table.mapCells d f t, c.1 ≠ k := by
      intro c hc e
      obtain ⟨_, w, hm, _⟩ := Table.mapCells_subset d f t hc
      exact absurd (hp.1 _ hm) (by simp [e])
    have hcons : Table.mapCells d f ((k, v) :: t) =
        if f v = d then Table.mapCells d f t else (k, f v) :: Table.mapCells d f t := by
      by_cases hf : f v = d <;> simp [Table.mapCells, hf]
    rw [hcons]
    by_cases hik : i = k
    · subst hik
      by_cases hf : f v = d
      · simp [hf, Table.get_cons, Table.get_of_forall_ne d _ _ hout]
      · simp [hf, Table.get_cons]
    · by_cases hf : f v = d <;> simp [hf, Table.get_cons, hik, ih ht]

theorem Table.get_filterMap_mem (d : α) (f : Fin n → α) (is : List (Fin n)) (i : Fin n) (hi : i ∈ is) :
    Table.get d (is.filterMap (fun i => if f i = d then none else some (i, f i))) i = f i := by
  induction is with
  | nil => simp at hi
  | cons j is ih =>
    by_cases hij : i = j
    · subst hij
      by_cases hf : f i = d
      · by_cases hm : i ∈ is
        · simp [hf, ih hm]
        · simp only [List.filterMap_cons, hf, if_true]
          refine Table.get_of_forall_ne d _ _ ?_
          intro c hc e
          obtain ⟨b, hb, he⟩ := List.mem_filterMap.mp hc
          by_cases hfb : f b = d
          · simp [hfb] at he
          · simp only [hfb, if_false, Option.some.injEq] at he
            subst he
            exact hm (e ▸ hb)
      · simp [hf, Table.get_cons]
    · have hm : i ∈ is := by simpa [hij] using hi
      by_cases hf : f j = d <;> simp [hf, Table.get_cons, hij, ih hm]

/-- The table of a function reads as the function. -/
@[simp] theorem Table.get_ofFn (d : α) (f : Fin n → α) (i : Fin n) : Table.get d (Table.ofFn d f) i = f i :=
  Table.get_filterMap_mem d f (List.finRange n) i (List.mem_finRange i)

/-- The table of a function is canonical. -/
theorem Table.wf_ofFn (d : α) (f : Fin n → α) : Table.wf d (Table.ofFn d f) = true := by
  rw [Table.wf_iff]
  constructor
  · unfold Table.ofFn
    refine List.Pairwise.filterMap _ ?_ (List.pairwise_lt_finRange n)
    intro a b hab a' ha' b' hb'
    by_cases hfa : f a = d <;> by_cases hfb : f b = d <;> simp [hfa, hfb] at ha' hb'
    subst ha' hb'
    exact hab
  · intro c hc
    obtain ⟨b, _, he⟩ := List.mem_filterMap.mp hc
    by_cases hf : f b = d
    · simp [hf] at he
    · simp only [hf, if_false, Option.some.injEq] at he
      subst he
      exact hf

end Sys2Proof.Machine
end

