-- ==== Sys2Proof/Laws/State.lean ====
section
/-! SUPPORT. One lemma per field and per table for every update of the state, so that no proof unfolds an update. -/

set_option Elab.async false

namespace Sys2Proof.Machine

/-! ### Read after write of one table -/

@[simp] theorem State.setInputModule_inputModule_self (s : State) (m : Fin 16) (v : InputModule) : (s.setInputModule m v).inputModule m = v := by
  simp [State.setInputModule, State.inputModule]

theorem State.setInputModule_inputModule_ne (s : State) (v : InputModule) {m j : Fin 16} (hj : j ≠ m) :
    (s.setInputModule m v).inputModule j = s.inputModule j := by
  simp [State.setInputModule, State.inputModule, Table.get_set_ne _ _ _ hj]

theorem State.setInputModule_inputModule (s : State) (m j : Fin 16) (v : InputModule) :
    (s.setInputModule m v).inputModule j = if j = m then v else s.inputModule j := by
  simp [State.setInputModule, State.inputModule, Table.get_set]

@[simp] theorem State.setPoint_point_self (s : State) (p : Fin 1024) (v : Point) : (s.setPoint p v).point p = v := by
  simp [State.setPoint, State.point]

theorem State.setPoint_point_ne (s : State) (v : Point) {p j : Fin 1024} (hj : j ≠ p) :
    (s.setPoint p v).point j = s.point j := by
  simp [State.setPoint, State.point, Table.get_set_ne _ _ _ hj]

theorem State.setPoint_point (s : State) (p j : Fin 1024) (v : Point) :
    (s.setPoint p v).point j = if j = p then v else s.point j := by
  simp [State.setPoint, State.point, Table.get_set]

@[simp] theorem State.setWindow_window_self (s : State) (w : Fin 192) (v : Window) : (s.setWindow w v).window w = v := by
  simp [State.setWindow, State.window]

theorem State.setWindow_window_ne (s : State) (v : Window) {w j : Fin 192} (hj : j ≠ w) :
    (s.setWindow w v).window j = s.window j := by
  simp [State.setWindow, State.window, Table.get_set_ne _ _ _ hj]

theorem State.setWindow_window (s : State) (w j : Fin 192) (v : Window) :
    (s.setWindow w v).window j = if j = w then v else s.window j := by
  simp [State.setWindow, State.window, Table.get_set]

@[simp] theorem State.setDriver_driver_self (s : State) (d : Fin 6) (v : Option Nat) : (s.setDriver d v).driver d = v := by
  simp [State.setDriver, State.driver]

theorem State.setDriver_driver_ne (s : State) (v : Option Nat) {d j : Fin 6} (hj : j ≠ d) :
    (s.setDriver d v).driver j = s.driver j := by
  simp [State.setDriver, State.driver, Table.get_set_ne _ _ _ hj]

theorem State.setDriver_driver (s : State) (d j : Fin 6) (v : Option Nat) :
    (s.setDriver d v).driver j = if j = d then v else s.driver j := by
  simp [State.setDriver, State.driver, Table.get_set]

@[simp] theorem State.setGroup_group_self (s : State) (g : Fin 32) (v : Group) : (s.setGroup g v).group g = v := by
  simp [State.setGroup, State.group]

theorem State.setGroup_group_ne (s : State) (v : Group) {g j : Fin 32} (hj : j ≠ g) :
    (s.setGroup g v).group j = s.group j := by
  simp [State.setGroup, State.group, Table.get_set_ne _ _ _ hj]

theorem State.setGroup_group (s : State) (g j : Fin 32) (v : Group) :
    (s.setGroup g v).group j = if j = g then v else s.group j := by
  simp [State.setGroup, State.group, Table.get_set]

@[simp] theorem State.setHorn_horn_self (s : State) (h : Fin 4) (v : Horn) : (s.setHorn h v).horn h = v := by
  simp [State.setHorn, State.horn]

theorem State.setHorn_horn_ne (s : State) (v : Horn) {h j : Fin 4} (hj : j ≠ h) :
    (s.setHorn h v).horn j = s.horn j := by
  simp [State.setHorn, State.horn, Table.get_set_ne _ _ _ hj]

theorem State.setHorn_horn (s : State) (h j : Fin 4) (v : Horn) :
    (s.setHorn h v).horn j = if j = h then v else s.horn j := by
  simp [State.setHorn, State.horn, Table.get_set]

@[simp] theorem State.setElement_element_self (s : State) (e : Fin 64) (v : Element) : (s.setElement e v).element e = v := by
  simp [State.setElement, State.element]

theorem State.setElement_element_ne (s : State) (v : Element) {e j : Fin 64} (hj : j ≠ e) :
    (s.setElement e v).element j = s.element j := by
  simp [State.setElement, State.element, Table.get_set_ne _ _ _ hj]

theorem State.setElement_element (s : State) (e j : Fin 64) (v : Element) :
    (s.setElement e v).element j = if j = e then v else s.element j := by
  simp [State.setElement, State.element, Table.get_set]

@[simp] theorem State.setChannel_channel_self (s : State) (c : Fin 16) (v : Channel) : (s.setChannel c v).channel c = v := by
  simp [State.setChannel, State.channel]

theorem State.setChannel_channel_ne (s : State) (v : Channel) {c j : Fin 16} (hj : j ≠ c) :
    (s.setChannel c v).channel j = s.channel j := by
  simp [State.setChannel, State.channel, Table.get_set_ne _ _ _ hj]

theorem State.setChannel_channel (s : State) (c j : Fin 16) (v : Channel) :
    (s.setChannel c v).channel j = if j = c then v else s.channel j := by
  simp [State.setChannel, State.channel, Table.get_set]

@[simp] theorem State.setOutputModule_outputModule_self (s : State) (k : Fin 8) (v : OutputModule) : (s.setOutputModule k v).outputModule k = v := by
  simp [State.setOutputModule, State.outputModule]

theorem State.setOutputModule_outputModule_ne (s : State) (v : OutputModule) {k j : Fin 8} (hj : j ≠ k) :
    (s.setOutputModule k v).outputModule j = s.outputModule j := by
  simp [State.setOutputModule, State.outputModule, Table.get_set_ne _ _ _ hj]

theorem State.setOutputModule_outputModule (s : State) (k j : Fin 8) (v : OutputModule) :
    (s.setOutputModule k v).outputModule j = if j = k then v else s.outputModule j := by
  simp [State.setOutputModule, State.outputModule, Table.get_set]

/-! ### Every other table and field -/

@[simp] theorem State.setInputModule_point (s : State) (m : Fin 16) (v : InputModule) (j : Fin 1024) :
    (s.setInputModule m v).point j = s.point j := rfl
@[simp] theorem State.setInputModule_window (s : State) (m : Fin 16) (v : InputModule) (j : Fin 192) :
    (s.setInputModule m v).window j = s.window j := rfl
@[simp] theorem State.setInputModule_driver (s : State) (m : Fin 16) (v : InputModule) (j : Fin 6) :
    (s.setInputModule m v).driver j = s.driver j := rfl
@[simp] theorem State.setInputModule_group (s : State) (m : Fin 16) (v : InputModule) (j : Fin 32) :
    (s.setInputModule m v).group j = s.group j := rfl
@[simp] theorem State.setInputModule_horn (s : State) (m : Fin 16) (v : InputModule) (j : Fin 4) :
    (s.setInputModule m v).horn j = s.horn j := rfl
@[simp] theorem State.setInputModule_element (s : State) (m : Fin 16) (v : InputModule) (j : Fin 64) :
    (s.setInputModule m v).element j = s.element j := rfl
@[simp] theorem State.setInputModule_channel (s : State) (m : Fin 16) (v : InputModule) (j : Fin 16) :
    (s.setInputModule m v).channel j = s.channel j := rfl
@[simp] theorem State.setInputModule_outputModule (s : State) (m : Fin 16) (v : InputModule) (j : Fin 8) :
    (s.setInputModule m v).outputModule j = s.outputModule j := rfl
@[simp] theorem State.setInputModule_resetLow (s : State) (m : Fin 16) (v : InputModule) : (s.setInputModule m v).resetLow = s.resetLow := rfl
@[simp] theorem State.setInputModule_node (s : State) (m : Fin 16) (v : InputModule) : (s.setInputModule m v).node = s.node := rfl
@[simp] theorem State.setInputModule_portA (s : State) (m : Fin 16) (v : InputModule) : (s.setInputModule m v).portA = s.portA := rfl
@[simp] theorem State.setInputModule_portB (s : State) (m : Fin 16) (v : InputModule) : (s.setInputModule m v).portB = s.portB := rfl
@[simp] theorem State.setInputModule_unknownSource (s : State) (m : Fin 16) (v : InputModule) : (s.setInputModule m v).unknownSource = s.unknownSource := rfl
@[simp] theorem State.setInputModule_ignoredButtons (s : State) (m : Fin 16) (v : InputModule) : (s.setInputModule m v).ignoredButtons = s.ignoredButtons := rfl
@[simp] theorem State.setInputModule_unknownConfirms (s : State) (m : Fin 16) (v : InputModule) : (s.setInputModule m v).unknownConfirms = s.unknownConfirms := rfl
@[simp] theorem State.setInputModule_time (s : State) (m : Fin 16) (v : InputModule) : (s.setInputModule m v).time = s.time := rfl
@[simp] theorem State.setInputModule_points (s : State) (m : Fin 16) (v : InputModule) : (s.setInputModule m v).points = s.points := rfl
@[simp] theorem State.setInputModule_decay (s : State) (m : Fin 16) (v : InputModule) : (s.setInputModule m v).decay = s.decay := rfl
@[simp] theorem State.setInputModule_ann (s : State) (m : Fin 16) (v : InputModule) : (s.setInputModule m v).ann = s.ann := rfl
@[simp] theorem State.setInputModule_elements (s : State) (m : Fin 16) (v : InputModule) : (s.setInputModule m v).elements = s.elements := rfl
@[simp] theorem State.setInputModule_trip (s : State) (m : Fin 16) (v : InputModule) : (s.setInputModule m v).trip = s.trip := rfl
@[simp] theorem State.setInputModule_events (s : State) (m : Fin 16) (v : InputModule) : (s.setInputModule m v).events = s.events := rfl
@[simp] theorem State.setInputModule_mode (s : State) (m : Fin 16) (v : InputModule) : (s.setInputModule m v).mode = s.mode := rfl
@[simp] theorem State.setInputModule_frozen (s : State) (m : Fin 16) (v : InputModule) : (s.setInputModule m v).frozen = s.frozen := rfl
@[simp] theorem State.setInputModule_settings (s : State) (m : Fin 16) (v : InputModule) : (s.setInputModule m v).settings = s.settings := rfl
@[simp] theorem State.setInputModule_reply (s : State) (m : Fin 16) (v : InputModule) : (s.setInputModule m v).reply = s.reply := rfl
@[simp] theorem State.setInputModule_arriving (s : State) (m : Fin 16) (v : InputModule) : (s.setInputModule m v).arriving = s.arriving := rfl
@[simp] theorem State.setInputModule_pending (s : State) (m : Fin 16) (v : InputModule) : (s.setInputModule m v).pending = s.pending := rfl

@[simp] theorem State.setPoint_inputModule (s : State) (p : Fin 1024) (v : Point) (j : Fin 16) :
    (s.setPoint p v).inputModule j = s.inputModule j := rfl
@[simp] theorem State.setPoint_window (s : State) (p : Fin 1024) (v : Point) (j : Fin 192) :
    (s.setPoint p v).window j = s.window j := rfl
@[simp] theorem State.setPoint_driver (s : State) (p : Fin 1024) (v : Point) (j : Fin 6) :
    (s.setPoint p v).driver j = s.driver j := rfl
@[simp] theorem State.setPoint_group (s : State) (p : Fin 1024) (v : Point) (j : Fin 32) :
    (s.setPoint p v).group j = s.group j := rfl
@[simp] theorem State.setPoint_horn (s : State) (p : Fin 1024) (v : Point) (j : Fin 4) :
    (s.setPoint p v).horn j = s.horn j := rfl
@[simp] theorem State.setPoint_element (s : State) (p : Fin 1024) (v : Point) (j : Fin 64) :
    (s.setPoint p v).element j = s.element j := rfl
@[simp] theorem State.setPoint_channel (s : State) (p : Fin 1024) (v : Point) (j : Fin 16) :
    (s.setPoint p v).channel j = s.channel j := rfl
@[simp] theorem State.setPoint_outputModule (s : State) (p : Fin 1024) (v : Point) (j : Fin 8) :
    (s.setPoint p v).outputModule j = s.outputModule j := rfl
@[simp] theorem State.setPoint_resetLow (s : State) (p : Fin 1024) (v : Point) : (s.setPoint p v).resetLow = s.resetLow := rfl
@[simp] theorem State.setPoint_node (s : State) (p : Fin 1024) (v : Point) : (s.setPoint p v).node = s.node := rfl
@[simp] theorem State.setPoint_portA (s : State) (p : Fin 1024) (v : Point) : (s.setPoint p v).portA = s.portA := rfl
@[simp] theorem State.setPoint_portB (s : State) (p : Fin 1024) (v : Point) : (s.setPoint p v).portB = s.portB := rfl
@[simp] theorem State.setPoint_unknownSource (s : State) (p : Fin 1024) (v : Point) : (s.setPoint p v).unknownSource = s.unknownSource := rfl
@[simp] theorem State.setPoint_ignoredButtons (s : State) (p : Fin 1024) (v : Point) : (s.setPoint p v).ignoredButtons = s.ignoredButtons := rfl
@[simp] theorem State.setPoint_unknownConfirms (s : State) (p : Fin 1024) (v : Point) : (s.setPoint p v).unknownConfirms = s.unknownConfirms := rfl
@[simp] theorem State.setPoint_time (s : State) (p : Fin 1024) (v : Point) : (s.setPoint p v).time = s.time := rfl
@[simp] theorem State.setPoint_modules (s : State) (p : Fin 1024) (v : Point) : (s.setPoint p v).modules = s.modules := rfl
@[simp] theorem State.setPoint_decay (s : State) (p : Fin 1024) (v : Point) : (s.setPoint p v).decay = s.decay := rfl
@[simp] theorem State.setPoint_ann (s : State) (p : Fin 1024) (v : Point) : (s.setPoint p v).ann = s.ann := rfl
@[simp] theorem State.setPoint_elements (s : State) (p : Fin 1024) (v : Point) : (s.setPoint p v).elements = s.elements := rfl
@[simp] theorem State.setPoint_trip (s : State) (p : Fin 1024) (v : Point) : (s.setPoint p v).trip = s.trip := rfl
@[simp] theorem State.setPoint_events (s : State) (p : Fin 1024) (v : Point) : (s.setPoint p v).events = s.events := rfl
@[simp] theorem State.setPoint_mode (s : State) (p : Fin 1024) (v : Point) : (s.setPoint p v).mode = s.mode := rfl
@[simp] theorem State.setPoint_frozen (s : State) (p : Fin 1024) (v : Point) : (s.setPoint p v).frozen = s.frozen := rfl
@[simp] theorem State.setPoint_settings (s : State) (p : Fin 1024) (v : Point) : (s.setPoint p v).settings = s.settings := rfl
@[simp] theorem State.setPoint_reply (s : State) (p : Fin 1024) (v : Point) : (s.setPoint p v).reply = s.reply := rfl
@[simp] theorem State.setPoint_arriving (s : State) (p : Fin 1024) (v : Point) : (s.setPoint p v).arriving = s.arriving := rfl
@[simp] theorem State.setPoint_pending (s : State) (p : Fin 1024) (v : Point) : (s.setPoint p v).pending = s.pending := rfl

@[simp] theorem State.setWindow_inputModule (s : State) (w : Fin 192) (v : Window) (j : Fin 16) :
    (s.setWindow w v).inputModule j = s.inputModule j := rfl
@[simp] theorem State.setWindow_point (s : State) (w : Fin 192) (v : Window) (j : Fin 1024) :
    (s.setWindow w v).point j = s.point j := rfl
@[simp] theorem State.setWindow_driver (s : State) (w : Fin 192) (v : Window) (j : Fin 6) :
    (s.setWindow w v).driver j = s.driver j := rfl
@[simp] theorem State.setWindow_group (s : State) (w : Fin 192) (v : Window) (j : Fin 32) :
    (s.setWindow w v).group j = s.group j := rfl
@[simp] theorem State.setWindow_horn (s : State) (w : Fin 192) (v : Window) (j : Fin 4) :
    (s.setWindow w v).horn j = s.horn j := rfl
@[simp] theorem State.setWindow_element (s : State) (w : Fin 192) (v : Window) (j : Fin 64) :
    (s.setWindow w v).element j = s.element j := rfl
@[simp] theorem State.setWindow_channel (s : State) (w : Fin 192) (v : Window) (j : Fin 16) :
    (s.setWindow w v).channel j = s.channel j := rfl
@[simp] theorem State.setWindow_outputModule (s : State) (w : Fin 192) (v : Window) (j : Fin 8) :
    (s.setWindow w v).outputModule j = s.outputModule j := rfl
@[simp] theorem State.setWindow_resetLow (s : State) (w : Fin 192) (v : Window) : (s.setWindow w v).resetLow = s.resetLow := rfl
@[simp] theorem State.setWindow_node (s : State) (w : Fin 192) (v : Window) : (s.setWindow w v).node = s.node := rfl
@[simp] theorem State.setWindow_portA (s : State) (w : Fin 192) (v : Window) : (s.setWindow w v).portA = s.portA := rfl
@[simp] theorem State.setWindow_portB (s : State) (w : Fin 192) (v : Window) : (s.setWindow w v).portB = s.portB := rfl
@[simp] theorem State.setWindow_unknownSource (s : State) (w : Fin 192) (v : Window) : (s.setWindow w v).unknownSource = s.unknownSource := rfl
@[simp] theorem State.setWindow_ignoredButtons (s : State) (w : Fin 192) (v : Window) : (s.setWindow w v).ignoredButtons = s.ignoredButtons := rfl
@[simp] theorem State.setWindow_unknownConfirms (s : State) (w : Fin 192) (v : Window) : (s.setWindow w v).unknownConfirms = s.unknownConfirms := rfl
@[simp] theorem State.setWindow_time (s : State) (w : Fin 192) (v : Window) : (s.setWindow w v).time = s.time := rfl
@[simp] theorem State.setWindow_modules (s : State) (w : Fin 192) (v : Window) : (s.setWindow w v).modules = s.modules := rfl
@[simp] theorem State.setWindow_points (s : State) (w : Fin 192) (v : Window) : (s.setWindow w v).points = s.points := rfl
@[simp] theorem State.setWindow_decay (s : State) (w : Fin 192) (v : Window) : (s.setWindow w v).decay = s.decay := rfl
@[simp] theorem State.setWindow_elements (s : State) (w : Fin 192) (v : Window) : (s.setWindow w v).elements = s.elements := rfl
@[simp] theorem State.setWindow_trip (s : State) (w : Fin 192) (v : Window) : (s.setWindow w v).trip = s.trip := rfl
@[simp] theorem State.setWindow_events (s : State) (w : Fin 192) (v : Window) : (s.setWindow w v).events = s.events := rfl
@[simp] theorem State.setWindow_mode (s : State) (w : Fin 192) (v : Window) : (s.setWindow w v).mode = s.mode := rfl
@[simp] theorem State.setWindow_frozen (s : State) (w : Fin 192) (v : Window) : (s.setWindow w v).frozen = s.frozen := rfl
@[simp] theorem State.setWindow_settings (s : State) (w : Fin 192) (v : Window) : (s.setWindow w v).settings = s.settings := rfl
@[simp] theorem State.setWindow_reply (s : State) (w : Fin 192) (v : Window) : (s.setWindow w v).reply = s.reply := rfl
@[simp] theorem State.setWindow_arriving (s : State) (w : Fin 192) (v : Window) : (s.setWindow w v).arriving = s.arriving := rfl
@[simp] theorem State.setWindow_pending (s : State) (w : Fin 192) (v : Window) : (s.setWindow w v).pending = s.pending := rfl
@[simp] theorem State.setWindow_ann_drivers (s : State) (w : Fin 192) (v : Window) :
    (s.setWindow w v).ann.drivers = s.ann.drivers := rfl
@[simp] theorem State.setWindow_ann_waiting (s : State) (w : Fin 192) (v : Window) :
    (s.setWindow w v).ann.waiting = s.ann.waiting := rfl
@[simp] theorem State.setWindow_ann_groups (s : State) (w : Fin 192) (v : Window) :
    (s.setWindow w v).ann.groups = s.ann.groups := rfl
@[simp] theorem State.setWindow_ann_horns (s : State) (w : Fin 192) (v : Window) :
    (s.setWindow w v).ann.horns = s.ann.horns := rfl
@[simp] theorem State.setWindow_ann_patterns (s : State) (w : Fin 192) (v : Window) :
    (s.setWindow w v).ann.patterns = s.ann.patterns := rfl
@[simp] theorem State.setWindow_ann_lampTest (s : State) (w : Fin 192) (v : Window) :
    (s.setWindow w v).ann.lampTest = s.ann.lampTest := rfl
@[simp] theorem State.setWindow_ann_lampTimer (s : State) (w : Fin 192) (v : Window) :
    (s.setWindow w v).ann.lampTimer = s.ann.lampTimer := rfl
@[simp] theorem State.setWindow_ann_refresh (s : State) (w : Fin 192) (v : Window) :
    (s.setWindow w v).ann.refresh = s.ann.refresh := rfl
@[simp] theorem State.setWindow_ann_phase (s : State) (w : Fin 192) (v : Window) :
    (s.setWindow w v).ann.phase = s.ann.phase := rfl
@[simp] theorem State.setWindow_ann_phaseWaiting (s : State) (w : Fin 192) (v : Window) :
    (s.setWindow w v).ann.phaseWaiting = s.ann.phaseWaiting := rfl

@[simp] theorem State.setDriver_inputModule (s : State) (d : Fin 6) (v : Option Nat) (j : Fin 16) :
    (s.setDriver d v).inputModule j = s.inputModule j := rfl
@[simp] theorem State.setDriver_point (s : State) (d : Fin 6) (v : Option Nat) (j : Fin 1024) :
    (s.setDriver d v).point j = s.point j := rfl
@[simp] theorem State.setDriver_window (s : State) (d : Fin 6) (v : Option Nat) (j : Fin 192) :
    (s.setDriver d v).window j = s.window j := rfl
@[simp] theorem State.setDriver_group (s : State) (d : Fin 6) (v : Option Nat) (j : Fin 32) :
    (s.setDriver d v).group j = s.group j := rfl
@[simp] theorem State.setDriver_horn (s : State) (d : Fin 6) (v : Option Nat) (j : Fin 4) :
    (s.setDriver d v).horn j = s.horn j := rfl
@[simp] theorem State.setDriver_element (s : State) (d : Fin 6) (v : Option Nat) (j : Fin 64) :
    (s.setDriver d v).element j = s.element j := rfl
@[simp] theorem State.setDriver_channel (s : State) (d : Fin 6) (v : Option Nat) (j : Fin 16) :
    (s.setDriver d v).channel j = s.channel j := rfl
@[simp] theorem State.setDriver_outputModule (s : State) (d : Fin 6) (v : Option Nat) (j : Fin 8) :
    (s.setDriver d v).outputModule j = s.outputModule j := rfl
@[simp] theorem State.setDriver_resetLow (s : State) (d : Fin 6) (v : Option Nat) : (s.setDriver d v).resetLow = s.resetLow := rfl
@[simp] theorem State.setDriver_node (s : State) (d : Fin 6) (v : Option Nat) : (s.setDriver d v).node = s.node := rfl
@[simp] theorem State.setDriver_portA (s : State) (d : Fin 6) (v : Option Nat) : (s.setDriver d v).portA = s.portA := rfl
@[simp] theorem State.setDriver_portB (s : State) (d : Fin 6) (v : Option Nat) : (s.setDriver d v).portB = s.portB := rfl
@[simp] theorem State.setDriver_unknownSource (s : State) (d : Fin 6) (v : Option Nat) : (s.setDriver d v).unknownSource = s.unknownSource := rfl
@[simp] theorem State.setDriver_ignoredButtons (s : State) (d : Fin 6) (v : Option Nat) : (s.setDriver d v).ignoredButtons = s.ignoredButtons := rfl
@[simp] theorem State.setDriver_unknownConfirms (s : State) (d : Fin 6) (v : Option Nat) : (s.setDriver d v).unknownConfirms = s.unknownConfirms := rfl
@[simp] theorem State.setDriver_time (s : State) (d : Fin 6) (v : Option Nat) : (s.setDriver d v).time = s.time := rfl
@[simp] theorem State.setDriver_modules (s : State) (d : Fin 6) (v : Option Nat) : (s.setDriver d v).modules = s.modules := rfl
@[simp] theorem State.setDriver_points (s : State) (d : Fin 6) (v : Option Nat) : (s.setDriver d v).points = s.points := rfl
@[simp] theorem State.setDriver_decay (s : State) (d : Fin 6) (v : Option Nat) : (s.setDriver d v).decay = s.decay := rfl
@[simp] theorem State.setDriver_elements (s : State) (d : Fin 6) (v : Option Nat) : (s.setDriver d v).elements = s.elements := rfl
@[simp] theorem State.setDriver_trip (s : State) (d : Fin 6) (v : Option Nat) : (s.setDriver d v).trip = s.trip := rfl
@[simp] theorem State.setDriver_events (s : State) (d : Fin 6) (v : Option Nat) : (s.setDriver d v).events = s.events := rfl
@[simp] theorem State.setDriver_mode (s : State) (d : Fin 6) (v : Option Nat) : (s.setDriver d v).mode = s.mode := rfl
@[simp] theorem State.setDriver_frozen (s : State) (d : Fin 6) (v : Option Nat) : (s.setDriver d v).frozen = s.frozen := rfl
@[simp] theorem State.setDriver_settings (s : State) (d : Fin 6) (v : Option Nat) : (s.setDriver d v).settings = s.settings := rfl
@[simp] theorem State.setDriver_reply (s : State) (d : Fin 6) (v : Option Nat) : (s.setDriver d v).reply = s.reply := rfl
@[simp] theorem State.setDriver_arriving (s : State) (d : Fin 6) (v : Option Nat) : (s.setDriver d v).arriving = s.arriving := rfl
@[simp] theorem State.setDriver_pending (s : State) (d : Fin 6) (v : Option Nat) : (s.setDriver d v).pending = s.pending := rfl
@[simp] theorem State.setDriver_ann_windows (s : State) (d : Fin 6) (v : Option Nat) :
    (s.setDriver d v).ann.windows = s.ann.windows := rfl
@[simp] theorem State.setDriver_ann_waiting (s : State) (d : Fin 6) (v : Option Nat) :
    (s.setDriver d v).ann.waiting = s.ann.waiting := rfl
@[simp] theorem State.setDriver_ann_groups (s : State) (d : Fin 6) (v : Option Nat) :
    (s.setDriver d v).ann.groups = s.ann.groups := rfl
@[simp] theorem State.setDriver_ann_horns (s : State) (d : Fin 6) (v : Option Nat) :
    (s.setDriver d v).ann.horns = s.ann.horns := rfl
@[simp] theorem State.setDriver_ann_patterns (s : State) (d : Fin 6) (v : Option Nat) :
    (s.setDriver d v).ann.patterns = s.ann.patterns := rfl
@[simp] theorem State.setDriver_ann_lampTest (s : State) (d : Fin 6) (v : Option Nat) :
    (s.setDriver d v).ann.lampTest = s.ann.lampTest := rfl
@[simp] theorem State.setDriver_ann_lampTimer (s : State) (d : Fin 6) (v : Option Nat) :
    (s.setDriver d v).ann.lampTimer = s.ann.lampTimer := rfl
@[simp] theorem State.setDriver_ann_refresh (s : State) (d : Fin 6) (v : Option Nat) :
    (s.setDriver d v).ann.refresh = s.ann.refresh := rfl
@[simp] theorem State.setDriver_ann_phase (s : State) (d : Fin 6) (v : Option Nat) :
    (s.setDriver d v).ann.phase = s.ann.phase := rfl
@[simp] theorem State.setDriver_ann_phaseWaiting (s : State) (d : Fin 6) (v : Option Nat) :
    (s.setDriver d v).ann.phaseWaiting = s.ann.phaseWaiting := rfl

@[simp] theorem State.setGroup_inputModule (s : State) (g : Fin 32) (v : Group) (j : Fin 16) :
    (s.setGroup g v).inputModule j = s.inputModule j := rfl
@[simp] theorem State.setGroup_point (s : State) (g : Fin 32) (v : Group) (j : Fin 1024) :
    (s.setGroup g v).point j = s.point j := rfl
@[simp] theorem State.setGroup_window (s : State) (g : Fin 32) (v : Group) (j : Fin 192) :
    (s.setGroup g v).window j = s.window j := rfl
@[simp] theorem State.setGroup_driver (s : State) (g : Fin 32) (v : Group) (j : Fin 6) :
    (s.setGroup g v).driver j = s.driver j := rfl
@[simp] theorem State.setGroup_horn (s : State) (g : Fin 32) (v : Group) (j : Fin 4) :
    (s.setGroup g v).horn j = s.horn j := rfl
@[simp] theorem State.setGroup_element (s : State) (g : Fin 32) (v : Group) (j : Fin 64) :
    (s.setGroup g v).element j = s.element j := rfl
@[simp] theorem State.setGroup_channel (s : State) (g : Fin 32) (v : Group) (j : Fin 16) :
    (s.setGroup g v).channel j = s.channel j := rfl
@[simp] theorem State.setGroup_outputModule (s : State) (g : Fin 32) (v : Group) (j : Fin 8) :
    (s.setGroup g v).outputModule j = s.outputModule j := rfl
@[simp] theorem State.setGroup_resetLow (s : State) (g : Fin 32) (v : Group) : (s.setGroup g v).resetLow = s.resetLow := rfl
@[simp] theorem State.setGroup_node (s : State) (g : Fin 32) (v : Group) : (s.setGroup g v).node = s.node := rfl
@[simp] theorem State.setGroup_portA (s : State) (g : Fin 32) (v : Group) : (s.setGroup g v).portA = s.portA := rfl
@[simp] theorem State.setGroup_portB (s : State) (g : Fin 32) (v : Group) : (s.setGroup g v).portB = s.portB := rfl
@[simp] theorem State.setGroup_unknownSource (s : State) (g : Fin 32) (v : Group) : (s.setGroup g v).unknownSource = s.unknownSource := rfl
@[simp] theorem State.setGroup_ignoredButtons (s : State) (g : Fin 32) (v : Group) : (s.setGroup g v).ignoredButtons = s.ignoredButtons := rfl
@[simp] theorem State.setGroup_unknownConfirms (s : State) (g : Fin 32) (v : Group) : (s.setGroup g v).unknownConfirms = s.unknownConfirms := rfl
@[simp] theorem State.setGroup_time (s : State) (g : Fin 32) (v : Group) : (s.setGroup g v).time = s.time := rfl
@[simp] theorem State.setGroup_modules (s : State) (g : Fin 32) (v : Group) : (s.setGroup g v).modules = s.modules := rfl
@[simp] theorem State.setGroup_points (s : State) (g : Fin 32) (v : Group) : (s.setGroup g v).points = s.points := rfl
@[simp] theorem State.setGroup_decay (s : State) (g : Fin 32) (v : Group) : (s.setGroup g v).decay = s.decay := rfl
@[simp] theorem State.setGroup_elements (s : State) (g : Fin 32) (v : Group) : (s.setGroup g v).elements = s.elements := rfl
@[simp] theorem State.setGroup_trip (s : State) (g : Fin 32) (v : Group) : (s.setGroup g v).trip = s.trip := rfl
@[simp] theorem State.setGroup_events (s : State) (g : Fin 32) (v : Group) : (s.setGroup g v).events = s.events := rfl
@[simp] theorem State.setGroup_mode (s : State) (g : Fin 32) (v : Group) : (s.setGroup g v).mode = s.mode := rfl
@[simp] theorem State.setGroup_frozen (s : State) (g : Fin 32) (v : Group) : (s.setGroup g v).frozen = s.frozen := rfl
@[simp] theorem State.setGroup_settings (s : State) (g : Fin 32) (v : Group) : (s.setGroup g v).settings = s.settings := rfl
@[simp] theorem State.setGroup_reply (s : State) (g : Fin 32) (v : Group) : (s.setGroup g v).reply = s.reply := rfl
@[simp] theorem State.setGroup_arriving (s : State) (g : Fin 32) (v : Group) : (s.setGroup g v).arriving = s.arriving := rfl
@[simp] theorem State.setGroup_pending (s : State) (g : Fin 32) (v : Group) : (s.setGroup g v).pending = s.pending := rfl
@[simp] theorem State.setGroup_ann_windows (s : State) (g : Fin 32) (v : Group) :
    (s.setGroup g v).ann.windows = s.ann.windows := rfl
@[simp] theorem State.setGroup_ann_drivers (s : State) (g : Fin 32) (v : Group) :
    (s.setGroup g v).ann.drivers = s.ann.drivers := rfl
@[simp] theorem State.setGroup_ann_waiting (s : State) (g : Fin 32) (v : Group) :
    (s.setGroup g v).ann.waiting = s.ann.waiting := rfl
@[simp] theorem State.setGroup_ann_horns (s : State) (g : Fin 32) (v : Group) :
    (s.setGroup g v).ann.horns = s.ann.horns := rfl
@[simp] theorem State.setGroup_ann_patterns (s : State) (g : Fin 32) (v : Group) :
    (s.setGroup g v).ann.patterns = s.ann.patterns := rfl
@[simp] theorem State.setGroup_ann_lampTest (s : State) (g : Fin 32) (v : Group) :
    (s.setGroup g v).ann.lampTest = s.ann.lampTest := rfl
@[simp] theorem State.setGroup_ann_lampTimer (s : State) (g : Fin 32) (v : Group) :
    (s.setGroup g v).ann.lampTimer = s.ann.lampTimer := rfl
@[simp] theorem State.setGroup_ann_refresh (s : State) (g : Fin 32) (v : Group) :
    (s.setGroup g v).ann.refresh = s.ann.refresh := rfl
@[simp] theorem State.setGroup_ann_phase (s : State) (g : Fin 32) (v : Group) :
    (s.setGroup g v).ann.phase = s.ann.phase := rfl
@[simp] theorem State.setGroup_ann_phaseWaiting (s : State) (g : Fin 32) (v : Group) :
    (s.setGroup g v).ann.phaseWaiting = s.ann.phaseWaiting := rfl

@[simp] theorem State.setHorn_inputModule (s : State) (h : Fin 4) (v : Horn) (j : Fin 16) :
    (s.setHorn h v).inputModule j = s.inputModule j := rfl
@[simp] theorem State.setHorn_point (s : State) (h : Fin 4) (v : Horn) (j : Fin 1024) :
    (s.setHorn h v).point j = s.point j := rfl
@[simp] theorem State.setHorn_window (s : State) (h : Fin 4) (v : Horn) (j : Fin 192) :
    (s.setHorn h v).window j = s.window j := rfl
@[simp] theorem State.setHorn_driver (s : State) (h : Fin 4) (v : Horn) (j : Fin 6) :
    (s.setHorn h v).driver j = s.driver j := rfl
@[simp] theorem State.setHorn_group (s : State) (h : Fin 4) (v : Horn) (j : Fin 32) :
    (s.setHorn h v).group j = s.group j := rfl
@[simp] theorem State.setHorn_element (s : State) (h : Fin 4) (v : Horn) (j : Fin 64) :
    (s.setHorn h v).element j = s.element j := rfl
@[simp] theorem State.setHorn_channel (s : State) (h : Fin 4) (v : Horn) (j : Fin 16) :
    (s.setHorn h v).channel j = s.channel j := rfl
@[simp] theorem State.setHorn_outputModule (s : State) (h : Fin 4) (v : Horn) (j : Fin 8) :
    (s.setHorn h v).outputModule j = s.outputModule j := rfl
@[simp] theorem State.setHorn_resetLow (s : State) (h : Fin 4) (v : Horn) : (s.setHorn h v).resetLow = s.resetLow := rfl
@[simp] theorem State.setHorn_node (s : State) (h : Fin 4) (v : Horn) : (s.setHorn h v).node = s.node := rfl
@[simp] theorem State.setHorn_portA (s : State) (h : Fin 4) (v : Horn) : (s.setHorn h v).portA = s.portA := rfl
@[simp] theorem State.setHorn_portB (s : State) (h : Fin 4) (v : Horn) : (s.setHorn h v).portB = s.portB := rfl
@[simp] theorem State.setHorn_unknownSource (s : State) (h : Fin 4) (v : Horn) : (s.setHorn h v).unknownSource = s.unknownSource := rfl
@[simp] theorem State.setHorn_ignoredButtons (s : State) (h : Fin 4) (v : Horn) : (s.setHorn h v).ignoredButtons = s.ignoredButtons := rfl
@[simp] theorem State.setHorn_unknownConfirms (s : State) (h : Fin 4) (v : Horn) : (s.setHorn h v).unknownConfirms = s.unknownConfirms := rfl
@[simp] theorem State.setHorn_time (s : State) (h : Fin 4) (v : Horn) : (s.setHorn h v).time = s.time := rfl
@[simp] theorem State.setHorn_modules (s : State) (h : Fin 4) (v : Horn) : (s.setHorn h v).modules = s.modules := rfl
@[simp] theorem State.setHorn_points (s : State) (h : Fin 4) (v : Horn) : (s.setHorn h v).points = s.points := rfl
@[simp] theorem State.setHorn_decay (s : State) (h : Fin 4) (v : Horn) : (s.setHorn h v).decay = s.decay := rfl
@[simp] theorem State.setHorn_elements (s : State) (h : Fin 4) (v : Horn) : (s.setHorn h v).elements = s.elements := rfl
@[simp] theorem State.setHorn_trip (s : State) (h : Fin 4) (v : Horn) : (s.setHorn h v).trip = s.trip := rfl
@[simp] theorem State.setHorn_events (s : State) (h : Fin 4) (v : Horn) : (s.setHorn h v).events = s.events := rfl
@[simp] theorem State.setHorn_mode (s : State) (h : Fin 4) (v : Horn) : (s.setHorn h v).mode = s.mode := rfl
@[simp] theorem State.setHorn_frozen (s : State) (h : Fin 4) (v : Horn) : (s.setHorn h v).frozen = s.frozen := rfl
@[simp] theorem State.setHorn_settings (s : State) (h : Fin 4) (v : Horn) : (s.setHorn h v).settings = s.settings := rfl
@[simp] theorem State.setHorn_reply (s : State) (h : Fin 4) (v : Horn) : (s.setHorn h v).reply = s.reply := rfl
@[simp] theorem State.setHorn_arriving (s : State) (h : Fin 4) (v : Horn) : (s.setHorn h v).arriving = s.arriving := rfl
@[simp] theorem State.setHorn_pending (s : State) (h : Fin 4) (v : Horn) : (s.setHorn h v).pending = s.pending := rfl
@[simp] theorem State.setHorn_ann_windows (s : State) (h : Fin 4) (v : Horn) :
    (s.setHorn h v).ann.windows = s.ann.windows := rfl
@[simp] theorem State.setHorn_ann_drivers (s : State) (h : Fin 4) (v : Horn) :
    (s.setHorn h v).ann.drivers = s.ann.drivers := rfl
@[simp] theorem State.setHorn_ann_waiting (s : State) (h : Fin 4) (v : Horn) :
    (s.setHorn h v).ann.waiting = s.ann.waiting := rfl
@[simp] theorem State.setHorn_ann_groups (s : State) (h : Fin 4) (v : Horn) :
    (s.setHorn h v).ann.groups = s.ann.groups := rfl
@[simp] theorem State.setHorn_ann_patterns (s : State) (h : Fin 4) (v : Horn) :
    (s.setHorn h v).ann.patterns = s.ann.patterns := rfl
@[simp] theorem State.setHorn_ann_lampTest (s : State) (h : Fin 4) (v : Horn) :
    (s.setHorn h v).ann.lampTest = s.ann.lampTest := rfl
@[simp] theorem State.setHorn_ann_lampTimer (s : State) (h : Fin 4) (v : Horn) :
    (s.setHorn h v).ann.lampTimer = s.ann.lampTimer := rfl
@[simp] theorem State.setHorn_ann_refresh (s : State) (h : Fin 4) (v : Horn) :
    (s.setHorn h v).ann.refresh = s.ann.refresh := rfl
@[simp] theorem State.setHorn_ann_phase (s : State) (h : Fin 4) (v : Horn) :
    (s.setHorn h v).ann.phase = s.ann.phase := rfl
@[simp] theorem State.setHorn_ann_phaseWaiting (s : State) (h : Fin 4) (v : Horn) :
    (s.setHorn h v).ann.phaseWaiting = s.ann.phaseWaiting := rfl

@[simp] theorem State.setElement_inputModule (s : State) (e : Fin 64) (v : Element) (j : Fin 16) :
    (s.setElement e v).inputModule j = s.inputModule j := rfl
@[simp] theorem State.setElement_point (s : State) (e : Fin 64) (v : Element) (j : Fin 1024) :
    (s.setElement e v).point j = s.point j := rfl
@[simp] theorem State.setElement_window (s : State) (e : Fin 64) (v : Element) (j : Fin 192) :
    (s.setElement e v).window j = s.window j := rfl
@[simp] theorem State.setElement_driver (s : State) (e : Fin 64) (v : Element) (j : Fin 6) :
    (s.setElement e v).driver j = s.driver j := rfl
@[simp] theorem State.setElement_group (s : State) (e : Fin 64) (v : Element) (j : Fin 32) :
    (s.setElement e v).group j = s.group j := rfl
@[simp] theorem State.setElement_horn (s : State) (e : Fin 64) (v : Element) (j : Fin 4) :
    (s.setElement e v).horn j = s.horn j := rfl
@[simp] theorem State.setElement_channel (s : State) (e : Fin 64) (v : Element) (j : Fin 16) :
    (s.setElement e v).channel j = s.channel j := rfl
@[simp] theorem State.setElement_outputModule (s : State) (e : Fin 64) (v : Element) (j : Fin 8) :
    (s.setElement e v).outputModule j = s.outputModule j := rfl
@[simp] theorem State.setElement_resetLow (s : State) (e : Fin 64) (v : Element) : (s.setElement e v).resetLow = s.resetLow := rfl
@[simp] theorem State.setElement_node (s : State) (e : Fin 64) (v : Element) : (s.setElement e v).node = s.node := rfl
@[simp] theorem State.setElement_portA (s : State) (e : Fin 64) (v : Element) : (s.setElement e v).portA = s.portA := rfl
@[simp] theorem State.setElement_portB (s : State) (e : Fin 64) (v : Element) : (s.setElement e v).portB = s.portB := rfl
@[simp] theorem State.setElement_unknownSource (s : State) (e : Fin 64) (v : Element) : (s.setElement e v).unknownSource = s.unknownSource := rfl
@[simp] theorem State.setElement_ignoredButtons (s : State) (e : Fin 64) (v : Element) : (s.setElement e v).ignoredButtons = s.ignoredButtons := rfl
@[simp] theorem State.setElement_unknownConfirms (s : State) (e : Fin 64) (v : Element) : (s.setElement e v).unknownConfirms = s.unknownConfirms := rfl
@[simp] theorem State.setElement_time (s : State) (e : Fin 64) (v : Element) : (s.setElement e v).time = s.time := rfl
@[simp] theorem State.setElement_modules (s : State) (e : Fin 64) (v : Element) : (s.setElement e v).modules = s.modules := rfl
@[simp] theorem State.setElement_points (s : State) (e : Fin 64) (v : Element) : (s.setElement e v).points = s.points := rfl
@[simp] theorem State.setElement_decay (s : State) (e : Fin 64) (v : Element) : (s.setElement e v).decay = s.decay := rfl
@[simp] theorem State.setElement_ann (s : State) (e : Fin 64) (v : Element) : (s.setElement e v).ann = s.ann := rfl
@[simp] theorem State.setElement_trip (s : State) (e : Fin 64) (v : Element) : (s.setElement e v).trip = s.trip := rfl
@[simp] theorem State.setElement_events (s : State) (e : Fin 64) (v : Element) : (s.setElement e v).events = s.events := rfl
@[simp] theorem State.setElement_mode (s : State) (e : Fin 64) (v : Element) : (s.setElement e v).mode = s.mode := rfl
@[simp] theorem State.setElement_frozen (s : State) (e : Fin 64) (v : Element) : (s.setElement e v).frozen = s.frozen := rfl
@[simp] theorem State.setElement_settings (s : State) (e : Fin 64) (v : Element) : (s.setElement e v).settings = s.settings := rfl
@[simp] theorem State.setElement_reply (s : State) (e : Fin 64) (v : Element) : (s.setElement e v).reply = s.reply := rfl
@[simp] theorem State.setElement_arriving (s : State) (e : Fin 64) (v : Element) : (s.setElement e v).arriving = s.arriving := rfl
@[simp] theorem State.setElement_pending (s : State) (e : Fin 64) (v : Element) : (s.setElement e v).pending = s.pending := rfl

@[simp] theorem State.setChannel_inputModule (s : State) (c : Fin 16) (v : Channel) (j : Fin 16) :
    (s.setChannel c v).inputModule j = s.inputModule j := rfl
@[simp] theorem State.setChannel_point (s : State) (c : Fin 16) (v : Channel) (j : Fin 1024) :
    (s.setChannel c v).point j = s.point j := rfl
@[simp] theorem State.setChannel_window (s : State) (c : Fin 16) (v : Channel) (j : Fin 192) :
    (s.setChannel c v).window j = s.window j := rfl
@[simp] theorem State.setChannel_driver (s : State) (c : Fin 16) (v : Channel) (j : Fin 6) :
    (s.setChannel c v).driver j = s.driver j := rfl
@[simp] theorem State.setChannel_group (s : State) (c : Fin 16) (v : Channel) (j : Fin 32) :
    (s.setChannel c v).group j = s.group j := rfl
@[simp] theorem State.setChannel_horn (s : State) (c : Fin 16) (v : Channel) (j : Fin 4) :
    (s.setChannel c v).horn j = s.horn j := rfl
@[simp] theorem State.setChannel_element (s : State) (c : Fin 16) (v : Channel) (j : Fin 64) :
    (s.setChannel c v).element j = s.element j := rfl
@[simp] theorem State.setChannel_outputModule (s : State) (c : Fin 16) (v : Channel) (j : Fin 8) :
    (s.setChannel c v).outputModule j = s.outputModule j := rfl
@[simp] theorem State.setChannel_resetLow (s : State) (c : Fin 16) (v : Channel) : (s.setChannel c v).resetLow = s.resetLow := rfl
@[simp] theorem State.setChannel_node (s : State) (c : Fin 16) (v : Channel) : (s.setChannel c v).node = s.node := rfl
@[simp] theorem State.setChannel_portA (s : State) (c : Fin 16) (v : Channel) : (s.setChannel c v).portA = s.portA := rfl
@[simp] theorem State.setChannel_portB (s : State) (c : Fin 16) (v : Channel) : (s.setChannel c v).portB = s.portB := rfl
@[simp] theorem State.setChannel_unknownSource (s : State) (c : Fin 16) (v : Channel) : (s.setChannel c v).unknownSource = s.unknownSource := rfl
@[simp] theorem State.setChannel_ignoredButtons (s : State) (c : Fin 16) (v : Channel) : (s.setChannel c v).ignoredButtons = s.ignoredButtons := rfl
@[simp] theorem State.setChannel_unknownConfirms (s : State) (c : Fin 16) (v : Channel) : (s.setChannel c v).unknownConfirms = s.unknownConfirms := rfl
@[simp] theorem State.setChannel_time (s : State) (c : Fin 16) (v : Channel) : (s.setChannel c v).time = s.time := rfl
@[simp] theorem State.setChannel_modules (s : State) (c : Fin 16) (v : Channel) : (s.setChannel c v).modules = s.modules := rfl
@[simp] theorem State.setChannel_points (s : State) (c : Fin 16) (v : Channel) : (s.setChannel c v).points = s.points := rfl
@[simp] theorem State.setChannel_decay (s : State) (c : Fin 16) (v : Channel) : (s.setChannel c v).decay = s.decay := rfl
@[simp] theorem State.setChannel_ann (s : State) (c : Fin 16) (v : Channel) : (s.setChannel c v).ann = s.ann := rfl
@[simp] theorem State.setChannel_elements (s : State) (c : Fin 16) (v : Channel) : (s.setChannel c v).elements = s.elements := rfl
@[simp] theorem State.setChannel_events (s : State) (c : Fin 16) (v : Channel) : (s.setChannel c v).events = s.events := rfl
@[simp] theorem State.setChannel_mode (s : State) (c : Fin 16) (v : Channel) : (s.setChannel c v).mode = s.mode := rfl
@[simp] theorem State.setChannel_frozen (s : State) (c : Fin 16) (v : Channel) : (s.setChannel c v).frozen = s.frozen := rfl
@[simp] theorem State.setChannel_settings (s : State) (c : Fin 16) (v : Channel) : (s.setChannel c v).settings = s.settings := rfl
@[simp] theorem State.setChannel_reply (s : State) (c : Fin 16) (v : Channel) : (s.setChannel c v).reply = s.reply := rfl
@[simp] theorem State.setChannel_arriving (s : State) (c : Fin 16) (v : Channel) : (s.setChannel c v).arriving = s.arriving := rfl
@[simp] theorem State.setChannel_pending (s : State) (c : Fin 16) (v : Channel) : (s.setChannel c v).pending = s.pending := rfl
@[simp] theorem State.setChannel_trip_outputs (s : State) (c : Fin 16) (v : Channel) :
    (s.setChannel c v).trip.outputs = s.trip.outputs := rfl
@[simp] theorem State.setChannel_trip_waiting (s : State) (c : Fin 16) (v : Channel) :
    (s.setChannel c v).trip.waiting = s.trip.waiting := rfl
@[simp] theorem State.setChannel_trip_refresh (s : State) (c : Fin 16) (v : Channel) :
    (s.setChannel c v).trip.refresh = s.trip.refresh := rfl
@[simp] theorem State.setChannel_trip_bkt0 (s : State) (c : Fin 16) (v : Channel) :
    (s.setChannel c v).trip.bkt0 = s.trip.bkt0 := rfl
@[simp] theorem State.setChannel_trip_bkt1 (s : State) (c : Fin 16) (v : Channel) :
    (s.setChannel c v).trip.bkt1 = s.trip.bkt1 := rfl

@[simp] theorem State.setOutputModule_inputModule (s : State) (k : Fin 8) (v : OutputModule) (j : Fin 16) :
    (s.setOutputModule k v).inputModule j = s.inputModule j := rfl
@[simp] theorem State.setOutputModule_point (s : State) (k : Fin 8) (v : OutputModule) (j : Fin 1024) :
    (s.setOutputModule k v).point j = s.point j := rfl
@[simp] theorem State.setOutputModule_window (s : State) (k : Fin 8) (v : OutputModule) (j : Fin 192) :
    (s.setOutputModule k v).window j = s.window j := rfl
@[simp] theorem State.setOutputModule_driver (s : State) (k : Fin 8) (v : OutputModule) (j : Fin 6) :
    (s.setOutputModule k v).driver j = s.driver j := rfl
@[simp] theorem State.setOutputModule_group (s : State) (k : Fin 8) (v : OutputModule) (j : Fin 32) :
    (s.setOutputModule k v).group j = s.group j := rfl
@[simp] theorem State.setOutputModule_horn (s : State) (k : Fin 8) (v : OutputModule) (j : Fin 4) :
    (s.setOutputModule k v).horn j = s.horn j := rfl
@[simp] theorem State.setOutputModule_element (s : State) (k : Fin 8) (v : OutputModule) (j : Fin 64) :
    (s.setOutputModule k v).element j = s.element j := rfl
@[simp] theorem State.setOutputModule_channel (s : State) (k : Fin 8) (v : OutputModule) (j : Fin 16) :
    (s.setOutputModule k v).channel j = s.channel j := rfl
@[simp] theorem State.setOutputModule_resetLow (s : State) (k : Fin 8) (v : OutputModule) : (s.setOutputModule k v).resetLow = s.resetLow := rfl
@[simp] theorem State.setOutputModule_node (s : State) (k : Fin 8) (v : OutputModule) : (s.setOutputModule k v).node = s.node := rfl
@[simp] theorem State.setOutputModule_portA (s : State) (k : Fin 8) (v : OutputModule) : (s.setOutputModule k v).portA = s.portA := rfl
@[simp] theorem State.setOutputModule_portB (s : State) (k : Fin 8) (v : OutputModule) : (s.setOutputModule k v).portB = s.portB := rfl
@[simp] theorem State.setOutputModule_unknownSource (s : State) (k : Fin 8) (v : OutputModule) : (s.setOutputModule k v).unknownSource = s.unknownSource := rfl
@[simp] theorem State.setOutputModule_ignoredButtons (s : State) (k : Fin 8) (v : OutputModule) : (s.setOutputModule k v).ignoredButtons = s.ignoredButtons := rfl
@[simp] theorem State.setOutputModule_unknownConfirms (s : State) (k : Fin 8) (v : OutputModule) : (s.setOutputModule k v).unknownConfirms = s.unknownConfirms := rfl
@[simp] theorem State.setOutputModule_time (s : State) (k : Fin 8) (v : OutputModule) : (s.setOutputModule k v).time = s.time := rfl
@[simp] theorem State.setOutputModule_modules (s : State) (k : Fin 8) (v : OutputModule) : (s.setOutputModule k v).modules = s.modules := rfl
@[simp] theorem State.setOutputModule_points (s : State) (k : Fin 8) (v : OutputModule) : (s.setOutputModule k v).points = s.points := rfl
@[simp] theorem State.setOutputModule_decay (s : State) (k : Fin 8) (v : OutputModule) : (s.setOutputModule k v).decay = s.decay := rfl
@[simp] theorem State.setOutputModule_ann (s : State) (k : Fin 8) (v : OutputModule) : (s.setOutputModule k v).ann = s.ann := rfl
@[simp] theorem State.setOutputModule_elements (s : State) (k : Fin 8) (v : OutputModule) : (s.setOutputModule k v).elements = s.elements := rfl
@[simp] theorem State.setOutputModule_events (s : State) (k : Fin 8) (v : OutputModule) : (s.setOutputModule k v).events = s.events := rfl
@[simp] theorem State.setOutputModule_mode (s : State) (k : Fin 8) (v : OutputModule) : (s.setOutputModule k v).mode = s.mode := rfl
@[simp] theorem State.setOutputModule_frozen (s : State) (k : Fin 8) (v : OutputModule) : (s.setOutputModule k v).frozen = s.frozen := rfl
@[simp] theorem State.setOutputModule_settings (s : State) (k : Fin 8) (v : OutputModule) : (s.setOutputModule k v).settings = s.settings := rfl
@[simp] theorem State.setOutputModule_reply (s : State) (k : Fin 8) (v : OutputModule) : (s.setOutputModule k v).reply = s.reply := rfl
@[simp] theorem State.setOutputModule_arriving (s : State) (k : Fin 8) (v : OutputModule) : (s.setOutputModule k v).arriving = s.arriving := rfl
@[simp] theorem State.setOutputModule_pending (s : State) (k : Fin 8) (v : OutputModule) : (s.setOutputModule k v).pending = s.pending := rfl
@[simp] theorem State.setOutputModule_trip_channels (s : State) (k : Fin 8) (v : OutputModule) :
    (s.setOutputModule k v).trip.channels = s.trip.channels := rfl
@[simp] theorem State.setOutputModule_trip_waiting (s : State) (k : Fin 8) (v : OutputModule) :
    (s.setOutputModule k v).trip.waiting = s.trip.waiting := rfl
@[simp] theorem State.setOutputModule_trip_refresh (s : State) (k : Fin 8) (v : OutputModule) :
    (s.setOutputModule k v).trip.refresh = s.trip.refresh := rfl
@[simp] theorem State.setOutputModule_trip_bkt0 (s : State) (k : Fin 8) (v : OutputModule) :
    (s.setOutputModule k v).trip.bkt0 = s.trip.bkt0 := rfl
@[simp] theorem State.setOutputModule_trip_bkt1 (s : State) (k : Fin 8) (v : OutputModule) :
    (s.setOutputModule k v).trip.bkt1 = s.trip.bkt1 := rfl

/-! ### Ports -/

@[simp] theorem State.setPort_port_self (s : State) (p : Port) (v : PortState) : (s.setPort p v).port p = v := by
  cases p <;> rfl

@[simp] theorem State.setPort_port_other (s : State) (p : Port) (v : PortState) :
    (s.setPort p v).port p.other = s.port p.other := by
  cases p <;> rfl

@[simp] theorem State.setPort_resetLow (s : State) (p : Port) (v : PortState) : (s.setPort p v).resetLow = s.resetLow := by
  cases p <;> rfl
@[simp] theorem State.setPort_node (s : State) (p : Port) (v : PortState) : (s.setPort p v).node = s.node := by
  cases p <;> rfl
@[simp] theorem State.setPort_unknownSource (s : State) (p : Port) (v : PortState) : (s.setPort p v).unknownSource = s.unknownSource := by
  cases p <;> rfl
@[simp] theorem State.setPort_ignoredButtons (s : State) (p : Port) (v : PortState) : (s.setPort p v).ignoredButtons = s.ignoredButtons := by
  cases p <;> rfl
@[simp] theorem State.setPort_unknownConfirms (s : State) (p : Port) (v : PortState) : (s.setPort p v).unknownConfirms = s.unknownConfirms := by
  cases p <;> rfl
@[simp] theorem State.setPort_time (s : State) (p : Port) (v : PortState) : (s.setPort p v).time = s.time := by
  cases p <;> rfl
@[simp] theorem State.setPort_modules (s : State) (p : Port) (v : PortState) : (s.setPort p v).modules = s.modules := by
  cases p <;> rfl
@[simp] theorem State.setPort_points (s : State) (p : Port) (v : PortState) : (s.setPort p v).points = s.points := by
  cases p <;> rfl
@[simp] theorem State.setPort_decay (s : State) (p : Port) (v : PortState) : (s.setPort p v).decay = s.decay := by
  cases p <;> rfl
@[simp] theorem State.setPort_ann (s : State) (p : Port) (v : PortState) : (s.setPort p v).ann = s.ann := by
  cases p <;> rfl
@[simp] theorem State.setPort_elements (s : State) (p : Port) (v : PortState) : (s.setPort p v).elements = s.elements := by
  cases p <;> rfl
@[simp] theorem State.setPort_trip (s : State) (p : Port) (v : PortState) : (s.setPort p v).trip = s.trip := by
  cases p <;> rfl
@[simp] theorem State.setPort_events (s : State) (p : Port) (v : PortState) : (s.setPort p v).events = s.events := by
  cases p <;> rfl
@[simp] theorem State.setPort_mode (s : State) (p : Port) (v : PortState) : (s.setPort p v).mode = s.mode := by
  cases p <;> rfl
@[simp] theorem State.setPort_frozen (s : State) (p : Port) (v : PortState) : (s.setPort p v).frozen = s.frozen := by
  cases p <;> rfl
@[simp] theorem State.setPort_settings (s : State) (p : Port) (v : PortState) : (s.setPort p v).settings = s.settings := by
  cases p <;> rfl
@[simp] theorem State.setPort_reply (s : State) (p : Port) (v : PortState) : (s.setPort p v).reply = s.reply := by
  cases p <;> rfl
@[simp] theorem State.setPort_arriving (s : State) (p : Port) (v : PortState) : (s.setPort p v).arriving = s.arriving := by
  cases p <;> rfl
@[simp] theorem State.setPort_pending (s : State) (p : Port) (v : PortState) : (s.setPort p v).pending = s.pending := by
  cases p <;> rfl
@[simp] theorem State.setPort_inputModule (s : State) (p : Port) (v : PortState) (j : Fin 16) :
    (s.setPort p v).inputModule j = s.inputModule j := by
  cases p <;> rfl
@[simp] theorem State.setInputModule_port (s : State) (m : Fin 16) (v : InputModule) (q : Port) :
    (s.setInputModule m v).port q = s.port q := by
  cases q <;> rfl
@[simp] theorem State.setPort_point (s : State) (p : Port) (v : PortState) (j : Fin 1024) :
    (s.setPort p v).point j = s.point j := by
  cases p <;> rfl
@[simp] theorem State.setPoint_port (s : State) (p : Fin 1024) (v : Point) (q : Port) :
    (s.setPoint p v).port q = s.port q := by
  cases q <;> rfl
@[simp] theorem State.setPort_window (s : State) (p : Port) (v : PortState) (j : Fin 192) :
    (s.setPort p v).window j = s.window j := by
  cases p <;> rfl
@[simp] theorem State.setWindow_port (s : State) (w : Fin 192) (v : Window) (q : Port) :
    (s.setWindow w v).port q = s.port q := by
  cases q <;> rfl
@[simp] theorem State.setPort_driver (s : State) (p : Port) (v : PortState) (j : Fin 6) :
    (s.setPort p v).driver j = s.driver j := by
  cases p <;> rfl
@[simp] theorem State.setDriver_port (s : State) (d : Fin 6) (v : Option Nat) (q : Port) :
    (s.setDriver d v).port q = s.port q := by
  cases q <;> rfl
@[simp] theorem State.setPort_group (s : State) (p : Port) (v : PortState) (j : Fin 32) :
    (s.setPort p v).group j = s.group j := by
  cases p <;> rfl
@[simp] theorem State.setGroup_port (s : State) (g : Fin 32) (v : Group) (q : Port) :
    (s.setGroup g v).port q = s.port q := by
  cases q <;> rfl
@[simp] theorem State.setPort_horn (s : State) (p : Port) (v : PortState) (j : Fin 4) :
    (s.setPort p v).horn j = s.horn j := by
  cases p <;> rfl
@[simp] theorem State.setHorn_port (s : State) (h : Fin 4) (v : Horn) (q : Port) :
    (s.setHorn h v).port q = s.port q := by
  cases q <;> rfl
@[simp] theorem State.setPort_element (s : State) (p : Port) (v : PortState) (j : Fin 64) :
    (s.setPort p v).element j = s.element j := by
  cases p <;> rfl
@[simp] theorem State.setElement_port (s : State) (e : Fin 64) (v : Element) (q : Port) :
    (s.setElement e v).port q = s.port q := by
  cases q <;> rfl
@[simp] theorem State.setPort_channel (s : State) (p : Port) (v : PortState) (j : Fin 16) :
    (s.setPort p v).channel j = s.channel j := by
  cases p <;> rfl
@[simp] theorem State.setChannel_port (s : State) (c : Fin 16) (v : Channel) (q : Port) :
    (s.setChannel c v).port q = s.port q := by
  cases q <;> rfl
@[simp] theorem State.setPort_outputModule (s : State) (p : Port) (v : PortState) (j : Fin 8) :
    (s.setPort p v).outputModule j = s.outputModule j := by
  cases p <;> rfl
@[simp] theorem State.setOutputModule_port (s : State) (k : Fin 8) (v : OutputModule) (q : Port) :
    (s.setOutputModule k v).port q = s.port q := by
  cases q <;> rfl

end Sys2Proof.Machine
end

