-- ==== Sys2Proof/Laws/Touches.lean ====
section
/-! SUPPORT. What each shared operation leaves unchanged, said once: the parts of the state that an operation of each block can
touch, by the relations of Safety.lean. -/

set_option Elab.async false

namespace Sys2Proof.Machine

/-! ### The relations -/

theorem State.onlyEvents.refl (s : State) : s.onlyEvents s := rfl
theorem State.onlyAnnunciation.refl (s : State) : s.onlyAnnunciation s := rfl
theorem State.onlyChannels.refl (s : State) : s.onlyChannels s := rfl
theorem State.onlyElements.refl (s : State) : s.onlyElements s := rfl
theorem State.onlyPoints.refl (s : State) : s.onlyPoints s := rfl
theorem State.onlyModules.refl (s : State) : s.onlyModules s := rfl
theorem State.onlyScan.refl (s : State) : s.onlyScan s := rfl

variable {s t u : State}

theorem State.onlyEvents.trans (h : s.onlyEvents t) (k : t.onlyEvents u) : s.onlyEvents u := by
  unfold State.onlyEvents at *; rw [k, h]
theorem State.onlyAnnunciation.trans (h : s.onlyAnnunciation t) (k : t.onlyAnnunciation u) : s.onlyAnnunciation u := by
  unfold State.onlyAnnunciation at *; rw [k, h]
theorem State.onlyChannels.trans (h : s.onlyChannels t) (k : t.onlyChannels u) : s.onlyChannels u := by
  unfold State.onlyChannels at *; rw [k, h]
theorem State.onlyElements.trans (h : s.onlyElements t) (k : t.onlyElements u) : s.onlyElements u := by
  unfold State.onlyElements at *; rw [k, h]
theorem State.onlyPoints.trans (h : s.onlyPoints t) (k : t.onlyPoints u) : s.onlyPoints u := by
  unfold State.onlyPoints at *; rw [k, h]
theorem State.onlyModules.trans (h : s.onlyModules t) (k : t.onlyModules u) : s.onlyModules u := by
  unfold State.onlyModules at *; rw [k, h]
theorem State.onlyScan.trans (h : s.onlyScan t) (k : t.onlyScan u) : s.onlyScan u := by
  unfold State.onlyScan at *; rw [k, h]

theorem State.onlyEvents.ann (h : s.onlyEvents t) : s.onlyAnnunciation t := by
  unfold State.onlyEvents at h; unfold State.onlyAnnunciation; rw [h]
theorem State.onlyAnnunciation.channels (h : s.onlyAnnunciation t) : s.onlyChannels t := by
  unfold State.onlyAnnunciation at h; unfold State.onlyChannels; rw [h]
theorem State.onlyChannels.elements (h : s.onlyChannels t) : s.onlyElements t := by
  unfold State.onlyChannels at h; unfold State.onlyElements; rw [h]
theorem State.onlyElements.points (h : s.onlyElements t) : s.onlyPoints t := by
  unfold State.onlyElements at h; unfold State.onlyPoints; rw [h]
theorem State.onlyPoints.modules (h : s.onlyPoints t) : s.onlyModules t := by
  unfold State.onlyPoints at h; unfold State.onlyModules; rw [h]
theorem State.onlyModules.scan (h : s.onlyModules t) : s.onlyScan t := by
  unfold State.onlyModules at h; unfold State.onlyScan; rw [h]

/-- A relation that holds of every step of an iteration, and composes, holds of the whole iteration. -/
theorem State.each_rel {ι : Type} {R : State → State → Prop} (refl : ∀ s, R s s)
    (trans : ∀ {s t u}, R s t → R t u → R s u) {f : ι → State → State} (hf : ∀ i s, R s (f i s)) (is : List ι) (s : State) :
    R s (State.each is f s) := by
  induction is generalizing s with
  | nil => exact refl s
  | cons i is ih => exact trans (hf i s) (ih (f i s))

/-- A property that every step of an iteration keeps holds after the whole iteration. -/
theorem State.each_keeps {ι : Type} {P : State → Prop} {f : ι → State → State} (hf : ∀ i s, P s → P (f i s)) (is : List ι)
    (s : State) (h : P s) : P (State.each is f s) := by
  induction is generalizing s with
  | nil => exact h
  | cons i is ih => exact ih (f i s) (hf i s h)

@[simp] theorem State.each_nil {ι : Type} (f : ι → State → State) (s : State) : State.each [] f s = s := rfl
@[simp] theorem State.each_cons {ι : Type} (i : ι) (is : List ι) (f : ι → State → State) (s : State) :
    State.each (i :: is) f s = State.each is f (f i s) := rfl

/-! ### The Event Queue -/

theorem startBatch_touches (s : State) : s.onlyEvents (startBatch s) := by
  unfold startBatch State.onlyEvents
  split
  · rfl
  · dsimp only; split <;> rfl

theorem acceptRecord_touches (o : Offer) (s : State) : s.onlyEvents (acceptRecord o s) := by
  unfold acceptRecord
  dsimp only
  split
  · exact State.onlyEvents.trans (by rfl) (startBatch_touches _)
  · rfl

theorem offer_touches (o : Offer) (s : State) : s.onlyEvents (offer o s) := by
  unfold offer
  split
  · rfl
  split
  · exact acceptRecord_touches o s
  · rfl

theorem offerNow_touches (k : RecordKind) (c : RecClass) (a v x : Nat) (s : State) : s.onlyEvents (offerNow k c a v x s) :=
  offer_touches _ s

theorem queueOverflow_touches (s : State) : s.onlyEvents (queueOverflow s) := by
  unfold queueOverflow
  split
  · exact State.onlyEvents.trans (acceptRecord_touches _ s) rfl
  · rfl

theorem removeEvents_touches (s : State) : s.onlyEvents (removeEvents s) :=
  State.onlyEvents.trans (by rfl) (State.onlyEvents.trans (queueOverflow_touches _) (startBatch_touches _))

theorem batchExpiry_touches (s : State) : s.onlyEvents (batchExpiry s) := by
  unfold batchExpiry; split <;> rfl

/-! ### The Annunciation Unit -/

theorem setWindow_touches (w : Fin 192) (v : Window) (s : State) : s.onlyAnnunciation (s.setWindow w v) := rfl
theorem setGroup_touches (g : Fin 32) (v : Group) (s : State) : s.onlyAnnunciation (s.setGroup g v) := rfl
theorem setHorn_touches (h : Fin 4) (v : Horn) (s : State) : s.onlyAnnunciation (s.setHorn h v) := rfl
theorem setDriver_touches (d : Fin 6) (v : Option Nat) (s : State) : s.onlyAnnunciation (s.setDriver d v) := rfl

theorem joinDriver_touches (d : Fin 6) (s : State) : s.onlyAnnunciation (joinDriver d s) := by
  unfold joinDriver; split <;> rfl

theorem redisplay_touches (w : Fin 192) (s : State) : s.onlyAnnunciation (redisplay w s) := by
  unfold redisplay
  split
  · rfl
  · exact State.onlyAnnunciation.trans (by rfl) (joinDriver_touches _ _)

theorem redisplayBoth_touches (v w : Fin 192) (s : State) : s.onlyAnnunciation (redisplayBoth v w s) := by
  unfold redisplayBoth
  split <;> exact State.onlyAnnunciation.trans (redisplay_touches _ s) (redisplay_touches _ _)

theorem redisplayAll_touches (s : State) : s.onlyAnnunciation (redisplayAll s) :=
  State.onlyAnnunciation.trans (by rfl) (State.each_rel State.onlyAnnunciation.refl State.onlyAnnunciation.trans joinDriver_touches _ _)

theorem putHorn_touches (h : Fin 4) (v : Horn) (s : State) : s.onlyAnnunciation (putHorn h v s) := by
  unfold putHorn; split <;> rfl

theorem hornEnter_touches (h : Option (Fin 4)) (s : State) : s.onlyAnnunciation (hornEnter h s) := by
  cases h with
  | none => rfl
  | some h => exact putHorn_touches _ _ _

theorem hornExit_touches (h : Option (Fin 4)) (s : State) : s.onlyAnnunciation (hornExit h s) := by
  cases h with
  | none => rfl
  | some h => exact putHorn_touches _ _ _

theorem silenceHorn_touches (h : Fin 4) (s : State) : s.onlyAnnunciation (silenceHorn h s) := by
  unfold silenceHorn
  split
  · exact State.onlyAnnunciation.trans (putHorn_touches _ _ s) (offerNow_touches _ _ _ _ _ _).ann
  · rfl

theorem unmark_touches (w : Option (Fin 192)) (s : State) : s.onlyAnnunciation (unmark w s) := by
  cases w <;> rfl

theorem rearm_touches (g : Fin 32) (s : State) : s.onlyAnnunciation (rearm g s) :=
  State.onlyAnnunciation.trans (unmark_touches _ s) rfl

theorem recordFirstOut_touches (g : Fin 32) (w : Fin 192) (p : Fin 1024) (n : Nat) (s : State) :
    s.onlyAnnunciation (recordFirstOut g w p n s) :=
  State.onlyAnnunciation.trans (unmark_touches _ s) rfl

theorem takeOffer_touches (g : Fin 32) (w : Fin 192) (p : Fin 1024) (n : Nat) (s : State) :
    s.onlyAnnunciation (takeOffer g w p n s) := by
  have hr := recordFirstOut_touches g w p n s
  unfold takeOffer
  split
  · dsimp only
    split
    · split
      · exact hr.trans (State.onlyAnnunciation.trans (by rfl) (offer_touches _ _).ann)
      · exact hr.trans (by rfl)
    · rfl
  · dsimp only
    split
    · split
      · exact hr
      · rfl
    · rfl
  · rfl

theorem offerActivation_touches (w : Fin 192) (p : Fin 1024) (n : Nat) (s : State) :
    s.onlyAnnunciation (offerActivation w p n s) := by
  unfold offerActivation
  split
  · split
    · split
      · exact takeOffer_touches _ w p n s
      · rfl
    · rfl
  · rfl

theorem reachedDark_touches (w : Fin 192) (s : State) : s.onlyAnnunciation (reachedDark w s) := by
  unfold reachedDark
  split
  · split
    · exact rearm_touches _ s
    · rfl
  · rfl

theorem settleExpiry_touches (g : Fin 32) (s : State) : s.onlyAnnunciation (settleExpiry g s) := by
  unfold settleExpiry
  split
  · exact State.onlyAnnunciation.trans (by rfl) (offer_touches _ _).ann
  · rfl

theorem enterFast_touches (w : Fin 192) (s : State) : s.onlyAnnunciation (enterFast w s) := by
  unfold enterFast
  split
  · rfl
  · exact State.onlyAnnunciation.trans (by rfl) (hornEnter_touches _ _)

theorem leaveFast_touches (w : Fin 192) (n : WindowState) (s : State) : s.onlyAnnunciation (leaveFast w n s) := by
  have hx : s.onlyAnnunciation (hornExit (hornOfWindow s w) (s.setWindow w { s.window w with state := n })) :=
    State.onlyAnnunciation.trans (by rfl) (hornExit_touches _ _)
  unfold leaveFast
  dsimp only
  split
  · exact hx.trans (reachedDark_touches _ _)
  · exact hx

theorem goDark_touches (w : Fin 192) (s : State) : s.onlyAnnunciation (goDark w s) :=
  State.onlyAnnunciation.trans (by rfl) (reachedDark_touches _ _)

theorem activate_touches (w : Fin 192) (c : Option (Fin 1024 × Nat)) (s : State) : s.onlyAnnunciation (activate w c s) := by
  have h0 : s.onlyAnnunciation (countActivation w s) := rfl
  unfold activate
  dsimp only
  split
  · have h1 := h0.trans (enterFast_touches w _)
    refine State.onlyAnnunciation.trans ?_ (redisplayBoth_touches _ _ _)
    split
    · exact h1.trans (offerActivation_touches _ _ _ _)
    · exact h1
  · exact h0.trans (redisplay_touches _ _)

theorem clearSource_touches (w : Fin 192) (s : State) : s.onlyAnnunciation (clearSource w s) := by
  have h0 : s.onlyAnnunciation (countClear w s) := rfl
  unfold clearSource
  dsimp only
  split
  · split
    · split
      · exact h0.trans (State.onlyAnnunciation.trans (by rfl) (redisplay_touches _ _))
      · exact h0.trans ((goDark_touches _ _).trans (redisplay_touches _ _))
    · exact h0.trans (redisplay_touches _ _)
  · exact h0.trans (redisplay_touches _ _)

theorem activateAt_touches (w : Option (Fin 192)) (c : Option (Fin 1024 × Nat)) (s : State) :
    s.onlyAnnunciation (activateAt w c s) := by
  cases w with
  | none => rfl
  | some w => exact activate_touches w c s

theorem clearAt_touches (w : Option (Fin 192)) (s : State) : s.onlyAnnunciation (clearAt w s) := by
  cases w with
  | none => rfl
  | some w => exact clearSource_touches w s

theorem ackWindow_touches (w : Fin 192) (s : State) : s.onlyAnnunciation (ackWindow w s) := by
  unfold ackWindow
  split
  · split
    · exact (leaveFast_touches _ _ _).trans (redisplay_touches _ _)
    · rfl
  · rfl

theorem resetWindow_touches (w : Fin 192) (s : State) : s.onlyAnnunciation (resetWindow w s) := by
  unfold resetWindow
  split
  · exact (goDark_touches _ _).trans (redisplay_touches _ _)
  · rfl

theorem ackGroup_touches (g : Fin 32) (o : Nat) (s : State) : s.onlyAnnunciation (ackGroup g o s) := by
  unfold ackGroup
  split
  · rfl
  · exact (State.each_rel State.onlyAnnunciation.refl State.onlyAnnunciation.trans ackWindow_touches _ s).trans
      (offerNow_touches _ _ _ _ _ _).ann

theorem resetGroup_touches (g : Fin 32) (s : State) : s.onlyAnnunciation (resetGroup g s) := by
  unfold resetGroup
  split
  · rfl
  · exact (State.each_rel State.onlyAnnunciation.refl State.onlyAnnunciation.trans resetWindow_touches _ s).trans
      (offerNow_touches _ _ _ _ _ _).ann

theorem lampOn_touches (s : State) : s.onlyAnnunciation (lampOn s) := by
  unfold lampOn
  split
  · rfl
  · exact State.onlyAnnunciation.trans (by rfl) (State.onlyAnnunciation.trans (redisplayAll_touches _) rfl)

theorem lampOff_touches (s : State) : s.onlyAnnunciation (lampOff s) := by
  unfold lampOff
  split
  · exact State.onlyAnnunciation.trans (by rfl) (State.onlyAnnunciation.trans (redisplayAll_touches _) rfl)
  · rfl

theorem lampLimitExpiry_touches (s : State) : s.onlyAnnunciation (lampLimitExpiry s) := by
  unfold lampLimitExpiry
  split
  · exact lampOff_touches s
  · rfl

theorem windowRefreshExpiry_touches (s : State) : s.onlyAnnunciation (windowRefreshExpiry s) := by
  unfold windowRefreshExpiry
  split
  · exact State.onlyAnnunciation.trans (by rfl)
      (State.each_rel State.onlyAnnunciation.refl State.onlyAnnunciation.trans joinDriver_touches _ _)
  · rfl

theorem phaseIntervalExpiry_touches (s : State) : s.onlyAnnunciation (phaseIntervalExpiry s) := by
  unfold phaseIntervalExpiry phaseOnWait
  split <;> rfl

theorem quietHorns_touches (s : State) : s.onlyAnnunciation (quietHorns s) :=
  State.each_rel State.onlyAnnunciation.refl State.onlyAnnunciation.trans (fun _ _ => putHorn_touches _ _ _) _ s

theorem rearmAll_touches (s : State) : s.onlyAnnunciation (rearmAll s) :=
  State.each_rel State.onlyAnnunciation.refl State.onlyAnnunciation.trans rearm_touches _ s

theorem lampEnds_touches (s : State) : s.onlyAnnunciation (lampEnds s) := by
  unfold lampEnds; split <;> rfl

theorem setWindowStates_touches (f : Window → WindowState) (s : State) : s.onlyAnnunciation (setWindowStates f s) := rfl

theorem phaseOnWait_touches (s : State) : s.onlyAnnunciation (phaseOnWait s) := rfl

theorem annEnterConfiguring_touches (s : State) : s.onlyAnnunciation (annEnterConfiguring s) :=
  State.onlyAnnunciation.trans (setWindowStates_touches _ s)
    ((rearmAll_touches _).trans ((quietHorns_touches _).trans ((lampEnds_touches _).trans (redisplayAll_touches _))))

theorem annEnterRun_touches (s : State) : s.onlyAnnunciation (annEnterRun s) := by
  refine State.onlyAnnunciation.trans (State.each_rel State.onlyAnnunciation.refl State.onlyAnnunciation.trans ?_ _ s)
    (redisplayAll_touches _)
  intro w s
  split
  · exact enterFast_touches w s
  · rfl

theorem annRestart_touches (s : State) : s.onlyAnnunciation (annRestart s) := by
  unfold annRestart
  exact State.onlyAnnunciation.trans (setWindowStates_touches _ s)
    ((rearmAll_touches _).trans ((quietHorns_touches _).trans ((lampEnds_touches _).trans
      ((redisplayAll_touches _).trans (phaseOnWait_touches _)))))

/-! ### The Channel Unit -/

theorem setChannel_touches (c : Fin 16) (v : Channel) (s : State) : s.onlyChannels (s.setChannel c v) := rfl
theorem setOutputModule_touches (k : Fin 8) (v : OutputModule) (s : State) : s.onlyChannels (s.setOutputModule k v) := rfl

theorem joinTrip_touches (k : Fin 8) (s : State) : s.onlyChannels (joinTrip k s) := by
  unfold joinTrip; split <;> rfl

theorem joinTripAll_touches (s : State) : s.onlyChannels (joinTripAll s) :=
  State.each_rel State.onlyChannels.refl State.onlyChannels.trans joinTrip_touches _ s

theorem tripRefreshExpiry_touches (s : State) : s.onlyChannels (tripRefreshExpiry s) := by
  unfold tripRefreshExpiry
  split
  · exact State.onlyChannels.trans (by rfl) (joinTripAll_touches _)
  · rfl

theorem judgeLine_touches (k : Fin 2) (s : State) : s.onlyChannels (judgeLine k s) := by
  unfold judgeLine; split <;> rfl

theorem judgeLines_touches (s : State) : s.onlyChannels (judgeLines s) :=
  (judgeLine_touches 0 s).trans (judgeLine_touches 1 _)

theorem channelRecord_touches (k : RecordKind) (c : Fin 16) (s : State) : s.onlyEvents (channelRecord k c s) :=
  offerNow_touches _ _ _ _ _ s

theorem becomeMissing_touches (c : Fin 16) (s : State) : s.onlyChannels (becomeMissing c s) := by
  unfold becomeMissing
  split
  · rfl
  · exact State.onlyChannels.trans (by rfl) ((channelRecord_touches _ _ _).ann.channels.trans
      ((activateAt_touches _ _ _).channels.trans (judgeLine_touches _ _)))

theorem becomeConfirmed_touches (m : Bool) (c : Fin 16) (s : State) : s.onlyChannels (becomeConfirmed m c s) := by
  unfold becomeConfirmed
  dsimp only
  split
  · refine State.onlyChannels.trans (t := s.setChannel c { s.channel c with confirmation := .confirmed }) rfl ?_
    refine State.onlyChannels.trans ?_ ((clearAt_touches _ _).channels.trans (judgeLine_touches _ _))
    split
    · exact (channelRecord_touches _ _ _).ann.channels
    · rfl
  · rfl

theorem outputChanged_touches (c : Fin 16) (a : Bool) (s : State) : s.onlyChannels (outputChanged c a s) := by
  unfold outputChanged
  split
  · rename_i d hd
    refine (joinTrip_touches d.outputModule s).trans (State.onlyChannels.trans ?_ (judgeLine_touches _ _))
    split
    · exact (activateAt_touches _ _ _).channels
    · exact (clearAt_touches _ _).channels
  · rfl

theorem gainDemand_touches (c : Fin 16) (s : State) : s.onlyChannels (gainDemand c s) := by
  unfold gainDemand
  split
  · exact State.onlyChannels.trans (by rfl) ((channelRecord_touches _ _ _).ann.channels.trans (outputChanged_touches _ _ _))
  · rfl
  · exact State.onlyChannels.trans (by rfl) (channelRecord_touches _ _ _).ann.channels

theorem loseDemand_touches (c : Fin 16) (s : State) : s.onlyChannels (loseDemand c s) := by
  unfold loseDemand
  split
  · split
    · exact State.onlyChannels.trans (by rfl) (channelRecord_touches _ _ _).ann.channels
    · exact State.onlyChannels.trans (by rfl) ((channelRecord_touches _ _ _).ann.channels.trans (outputChanged_touches _ _ _))
  · rfl

theorem deliverDemand_touches (k : Taking) (a : Bool) (c : Fin 16) (s : State) : s.onlyChannels (deliverDemand k a c s) := by
  unfold deliverDemand
  have h0 : s.onlyChannels (s.setChannel c { s.channel c with
      demand := if a then (s.channel c).demand + 1 else (s.channel c).demand - 1 }) := setChannel_touches c _ s
  dsimp only
  generalize s.setChannel c _ = t at h0 ⊢
  by_cases h1 : k = .countsOnly ∨ (t.channel c).defn = none
  · rw [if_pos h1]; exact h0
  rw [if_neg h1]
  split
  · exact h0.trans (gainDemand_touches c t)
  split
  · exact h0.trans (loseDemand_touches c t)
  · exact h0

theorem commandChannel_touches (b : Bool) (c : Fin 16) (v : Bool) (s : State) : s.onlyChannels (commandChannel b c v s) := by
  unfold commandChannel
  have h0 : s.onlyChannels (s.setChannel c { s.channel c with commanded := v }) := setChannel_touches c _ s
  dsimp only
  generalize s.setChannel c _ = t at h0 ⊢
  split
  · exact h0.trans (becomeMissing_touches c t)
  split
  · exact h0.trans (setChannel_touches c _ t)
  · exact h0

theorem recordCommand_touches (k : Fin 8) (n : Nat) (ps : List (Fin 16 × Bool)) (s : State) :
    s.onlyChannels (recordCommand k n ps s) := by
  unfold recordCommand
  refine State.onlyChannels.trans (setOutputModule_touches k _ s)
    (State.each_rel State.onlyChannels.refl State.onlyChannels.trans ?_ ps _)
  intro p s
  split
  · exact commandChannel_touches _ _ _ s
  · rfl

theorem judgeConfirm_touches (k : Fin 8) (ps : List (Byte × Byte)) (p : Fin 16 × Bool) (s : State) :
    s.onlyChannels (judgeConfirm k ps p s) := by
  unfold judgeConfirm
  split
  · split
    · exact becomeConfirmed_touches _ _ s
    · exact becomeMissing_touches _ s
  · rfl

theorem matchConfirm_touches (k : Fin 8) (n : Nat) (ps : List (Byte × Byte)) (s : State) :
    s.onlyChannels (matchConfirm k n ps s) := by
  unfold matchConfirm
  dsimp only
  split
  · exact State.onlyChannels.trans (by rfl)
      (State.each_rel State.onlyChannels.refl State.onlyChannels.trans (judgeConfirm_touches k ps) _ _)
  · rfl

theorem deadlineExpiry_touches (k : Fin 8) (s : State) : s.onlyChannels (deadlineExpiry k s) := by
  unfold deadlineExpiry
  split
  · refine State.onlyChannels.trans (by rfl) (State.each_rel State.onlyChannels.refl State.onlyChannels.trans ?_ _ _)
    intro p s
    unfold expireChannel
    split
    · split
      · exact becomeMissing_touches _ s
      · rfl
    · rfl
  · rfl

theorem exitTest_touches (s : State) : s.onlyChannels (exitTest s) := by
  refine State.onlyChannels.trans (State.each_rel State.onlyChannels.refl State.onlyChannels.trans ?_ _ s)
    ((joinTripAll_touches _).trans (judgeLines_touches _))
  intro c s
  have hc : s.onlyChannels (if 0 < (s.channel c).demand
      then channelRecord .channelTrip c (s.setChannel c { s.channel c with state := .tripped })
      else s.setChannel c { s.channel c with state := .normal }) := by
    split
    · exact State.onlyChannels.trans (by rfl) (channelRecord_touches _ _ _).ann.channels
    · rfl
  unfold exitChannel
  dsimp only at hc ⊢
  generalize (if 0 < (s.channel c).demand then _ else _ : State) = t at hc ⊢
  cases (t.channel c).defn with
  | none => exact hc
  | some d =>
    dsimp only
    split
    · exact hc
    split
    · exact hc.trans (activateAt_touches _ _ _).channels
    · exact hc.trans (clearAt_touches _ _).channels

/-! ### The Trip Matrix -/

theorem setElement_touches (e : Fin 64) (v : Element) (s : State) : s.onlyElements (s.setElement e v) := rfl

theorem performMove_touches (k : Taking) (e : Fin 64) (d : ElementDef) (mv : Move) (s : State) :
    s.onlyElements (performMove k e d mv s) := by
  unfold performMove
  dsimp only
  refine State.onlyElements.trans (t := State.each mv.records (fun r t => offerNow r .trip e.val (s.element e).sum 0 t)
    (s.setElement e { s.element e with state := mv.state, timer := mv.timer })) ?_ ?_
  · exact State.onlyElements.trans (by rfl) (State.each_rel State.onlyElements.refl State.onlyElements.trans
      (fun _ _ => (offerNow_touches _ _ _ _ _ _).ann.channels.elements) _ _)
  · split
    · exact State.onlyElements.refl _
    · exact State.each_rel State.onlyElements.refl State.onlyElements.trans
        (fun c s => (deliverDemand_touches k _ c s).elements) _ _

theorem evaluateOnce_touches (k : Taking) (e : Fin 64) (s : State) : s.onlyElements (evaluateOnce k e s) := by
  unfold evaluateOnce
  split
  · split
    · exact performMove_touches _ _ _ _ s
    · rfl
  · rfl

theorem installPending_touches (k : Taking) (e : Fin 64) (s : State) : s.onlyElements (installPending k e s) := by
  unfold installPending
  split
  · rfl
  · exact State.onlyElements.trans (by rfl) (evaluateOnce_touches k e _)
  · rfl

theorem moveAndInstall_touches (k : Taking) (e : Fin 64) (d : ElementDef) (mv : Move) (s : State) :
    s.onlyElements (moveAndInstall k e d mv s) := by
  unfold moveAndInstall
  dsimp only
  split
  · exact (performMove_touches k e d mv s).trans (installPending_touches k e _)
  · exact performMove_touches k e d mv s

theorem evaluateElement_touches (k : Taking) (e : Fin 64) (s : State) : s.onlyElements (evaluateElement k e s) := by
  unfold evaluateElement
  split
  · split
    · exact moveAndInstall_touches _ _ _ _ s
    · rfl
  · rfl

theorem elementTakes_touches (p : Fin 1024) (e : Fin 64) (s : State) : s.onlyElements (elementTakes p e s) := by
  unfold elementTakes
  split
  · split
    · dsimp only
      split
      · rfl
      · exact State.onlyElements.trans (by rfl) (evaluateElement_touches _ e _)
    · rfl
  · rfl

theorem tripDeliver_touches (p : Fin 1024) (s : State) : s.onlyElements (tripDeliver p s) :=
  State.each_rel State.onlyElements.refl State.onlyElements.trans (elementTakes_touches p) _ s

theorem elementDelayExpiry_touches (e : Fin 64) (s : State) : s.onlyElements (elementDelayExpiry e s) := by
  unfold elementDelayExpiry
  split
  · dsimp only
    split
    · split
      · exact State.onlyElements.trans (by rfl) (moveAndInstall_touches _ _ _ _ _)
      · rfl
    · rfl
  · rfl

theorem applyElementWrite_touches (e : Fin 64) (d : ElementDef) (s : State) : s.onlyElements (applyElementWrite e d s) := by
  unfold applyElementWrite
  split
  · rfl
  · dsimp only
    split
    · rfl
    · exact State.onlyElements.trans (by rfl) (evaluateElement_touches _ e _)

theorem applyElementClear_touches (e : Fin 64) (s : State) : s.onlyElements (applyElementClear e s) := by
  unfold applyElementClear; split <;> rfl

theorem forceElement_touches (k : Taking) (on : Bool) (e : Fin 64) (s : State) : s.onlyElements (forceElement k on e s) := by
  unfold forceElement
  split
  · rfl
  · exact State.onlyElements.trans (by rfl) (evaluateElement_touches k e _)

theorem elementsToConfiguring_touches (s : State) : s.onlyElements (elementsToConfiguring s) := by
  refine State.each_rel State.onlyElements.refl State.onlyElements.trans ?_ _ s
  intro e s
  unfold elementToConfiguring
  dsimp only
  split <;> rfl

theorem elementsToRun_touches (s : State) : s.onlyElements (elementsToRun s) :=
  State.each_rel State.onlyElements.refl State.onlyElements.trans (evaluateElement_touches _) _ s

theorem clearForces_touches (s : State) : s.onlyElements (clearForces s) :=
  State.each_rel State.onlyElements.refl State.onlyElements.trans (forceElement_touches _ _) _ s

/-! ### The Point Unit -/

theorem setPoint_touches (p : Fin 1024) (v : Point) (s : State) : s.onlyPoints (s.setPoint p v) := rfl

theorem deliverSource_touches (a : Announcing) (p : Fin 1024) (w : Option (Fin 192)) (c : Condition) (s : State) :
    s.onlyAnnunciation (deliverSource a p w c s) := by
  cases a <;> cases c
  · exact clearAt_touches w s
  · exact activateAt_touches w _ s
  · exact clearAt_touches w s
  · exact activateAt_touches w none s
  all_goals cases w <;> rfl

theorem reannounce_touches (a : Announcing) (p : Fin 1024) (s : State) : s.onlyPoints (reannounce a p s) := by
  unfold reannounce
  split
  · dsimp only
    split
    · rfl
    · exact State.onlyPoints.trans (by rfl) (deliverSource_touches _ _ _ _ _).channels.elements.points
  · rfl

theorem offerPointRecord_touches (p : Fin 1024) (d : PointDef) (c : Condition) (st : Stamp) (b : Bool) (s : State) :
    s.onlyEvents (offerPointRecord p d c st b s) := by
  unfold offerPointRecord
  split
  · exact offer_touches _ s
  · rfl

theorem countChatter_touches (p : Fin 1024) (d : PointDef) (st : Stamp) (s : State) : s.onlyPoints (countChatter p d st s) := by
  unfold countChatter
  split
  · rfl
  · dsimp only
    split
    · exact State.onlyPoints.trans (by rfl) (offer_touches _ _).ann.channels.elements.points
    · rfl

theorem conditionChange_touches (p : Fin 1024) (d : PointDef) (c : Condition) (st : Stamp) (x y : Bool) (s : State) :
    s.onlyPoints (conditionChange p d c st x y s) := by
  unfold conditionChange
  refine State.onlyPoints.trans (setPoint_touches p { s.point p with condition := c } s) ?_
  refine State.onlyPoints.trans (tripDeliver_touches p _).points ?_
  refine State.onlyPoints.trans (offerPointRecord_touches p d c st x _).ann.channels.elements.points ?_
  refine State.onlyPoints.trans ?_ (reannounce_touches _ p _)
  split
  · exact countChatter_touches p d st _
  · exact State.onlyPoints.refl _

theorem applyTransition_touches (p : Fin 1024) (tr : Transition) (s : State) : s.onlyPoints (applyTransition p tr s) := by
  unfold applyTransition
  split
  · rfl
  · split
    · rfl
    · dsimp only
      split
      · split
        · rfl
        · exact State.onlyPoints.trans (by rfl) (conditionChange_touches _ _ _ _ _ _ _)
      · split
        · exact State.onlyPoints.trans (by rfl)
            ((conditionChange_touches _ _ _ _ _ _ _).trans (conditionChange_touches _ _ _ _ _ _ _))
        · rfl

theorem deliverQuality_touches (p : Fin 1024) (q : Quality) (st : Stamp) (r : Bool) (s : State) :
    s.onlyPoints (deliverQuality p q st r s) := by
  unfold deliverQuality
  split
  · rfl
  · split
    · rfl
    · dsimp only
      have h0 := (State.onlyPoints.trans (s := s) (t := s.setPoint p { s.point p with quality := q }) rfl
        (tripDeliver_touches p _).points).trans (reannounce_touches .standing p _)
      split
      · exact h0.trans (offer_touches _ _).ann.channels.elements.points
      · exact h0

theorem modulePointsBad_touches (m : Fin 16) (s : State) : s.onlyPoints (modulePointsBad m s) :=
  State.each_rel State.onlyPoints.refl State.onlyPoints.trans (fun _ _ => deliverQuality_touches _ _ _ _ _) _ s

theorem decayPoint_touches (p : Fin 1024) (s : State) : s.onlyPoints (decayPoint p s) := by
  unfold decayPoint
  dsimp only
  split
  · rfl
  split
  · exact State.onlyPoints.trans (by rfl)
      ((offerNow_touches _ _ _ _ _ _).ann.channels.elements.points.trans (reannounce_touches _ p _))
  · rfl

theorem pointsRestart_touches (s : State) : s.onlyPoints (pointsRestart s) :=
  State.each_rel State.onlyPoints.refl State.onlyPoints.trans
    (fun p s => (setPoint_touches p _ s).trans (reannounce_touches _ p _)) _ s

theorem deriveWritten_touches (p : Fin 1024) (d : PointDef) (s : State) : s.onlyPoints (deriveWritten p d s) := by
  unfold deriveWritten
  dsimp only
  split
  · rfl
  · exact (State.onlyPoints.trans (by rfl) (tripDeliver_touches p _).points).trans
      (offerPointRecord_touches _ _ _ _ _ _).ann.channels.elements.points

theorem announceWritten_touches (p : Fin 1024) (d : PointDef) (h : Condition) (s : State) :
    s.onlyPoints (announceWritten p d h s) := by
  unfold announceWritten
  dsimp only
  split
  · exact State.onlyPoints.trans (by rfl) (activateAt_touches _ _ _).channels.elements.points
  · rfl

theorem removeContribution_touches (p : Fin 1024) (s : State) : s.onlyAnnunciation (removeContribution p s) := by
  unfold removeContribution
  split
  · exact clearAt_touches _ s
  · rfl

theorem applyPointWrite_touches (p : Fin 1024) (d : PointDef) (s : State) : s.onlyPoints (applyPointWrite p d s) := by
  unfold applyPointWrite
  dsimp only
  split
  · exact State.onlyPoints.trans (by rfl) (deriveWritten_touches p d _)
  · exact (removeContribution_touches p s).channels.elements.points.trans
      (State.onlyPoints.trans (by rfl) ((deriveWritten_touches p d _).trans (announceWritten_touches p d _ _)))

theorem applyPointClear_touches (p : Fin 1024) (s : State) : s.onlyPoints (applyPointClear p s) := by
  unfold applyPointClear
  split
  · rfl
  · exact (removeContribution_touches p s).channels.elements.points.trans (by rfl)

/-! ### Scan Intake -/

theorem setInputModule_touches (m : Fin 16) (v : InputModule) (s : State) : s.onlyModules (s.setInputModule m v) := rfl

theorem takeReport_touches (m : Fin 16) (n : Nat) (r : Report) (s : State) : s.onlyModules (takeReport m n r s) := by
  unfold takeReport
  dsimp only
  split
  · rfl
  · rename_i p hp
    have h0 := (setInputModule_touches m { s.inputModule m with
        floor := (stampReport n r.age (s.inputModule m).floor).time } s).trans
      (deliverQuality_touches p r.quality (stampReport n r.age (s.inputModule m).floor) true _).modules
    split
    · exact h0
    · exact h0.trans (State.each_rel State.onlyModules.refl State.onlyModules.trans
        (fun tr s => (applyTransition_touches _ tr s).modules) _ _)

/-- A TIME frame that arrives leaves all but the Time Base, the modules' floors, port A and the event queue as it is (R47 to R50). -/
theorem timeArrives_touches (a : TimeArrival) (s : State) : s.onlyScan (timeArrives a s) := by
  have hp (h : Held) (s : State) : s.onlyScan (takePlace .A h s) := by
    unfold takePlace furtherPause; split <;> rfl
  have hg (s : State) : s.onlyScan (giveLast .A s) := rfl
  have ht (x : List Byte) (s : State) : s.onlyScan (takeTime x s) := by
    unfold takeTime applyTime
    split
    · dsimp only
      split
      · rfl
      split
      · rfl
      · exact State.onlyScan.trans (by rfl) (offerNow_touches _ _ _ _ _ _).ann.channels.elements.points.modules.scan
    · rfl
  unfold timeArrives
  split
  · rename_i h
    refine State.onlyScan.trans (t := receiverFree .A s) rfl ?_
    have hd : direction (receiverFree .A s).node .A (mkFrame a.dest a.src kindTime a.seq a.payload) = .time ∨
        direction (receiverFree .A s).node .A (mkFrame a.dest a.src kindTime a.seq a.payload) = .timeAndForward := by
      have hn : (receiverFree .A s).node = s.node := rfl
      by_cases e : a.dest.toNat = s.node
      · left; simp [direction, directAddressed, mkFrame, hn, e, kindTime, kindScan, kindCmd]
      · have hb := h.2.resolve_left e
        rw [hb] at e
        right; simp [direction, mkFrame, hn, e, hb, kindTime]
    unfold acceptFrame
    rcases hd with hd | hd <;> simp only [hd]
    · exact (hp _ _).trans ((ht _ _).trans (hg _))
    · exact (hp _ _).trans (ht _ _)
  · rfl

/-- Without TIME frames between them, the reports of a frame are taken one by one from one receipt time (R34). -/
theorem takeOrdered_nil (m : Fin 16) (rs : List Report) (s : State) :
    takeOrdered m rs [] s = State.each rs (takeReport m s.scanReceipt) s := by
  induction rs generalizing s with
  | nil => rfl
  | cons r rs ih =>
    have hp := takeReport_touches m s.scanReceipt r s
    have : (takeReport m s.scanReceipt r s).scanReceipt = s.scanReceipt := by
      rw [hp]; rfl
    simp only [takeOrdered, List.headD_nil, List.tail_nil, State.each_nil, State.each_cons, ih, this]

theorem takeOrdered_touches (m : Fin 16) (rs : List Report) (between : List (List TimeArrival)) (s : State) :
    s.onlyScan (takeOrdered m rs between s) := by
  induction rs generalizing between s with
  | nil => rfl
  | cons r rs ih =>
    exact (State.each_rel State.onlyScan.refl State.onlyScan.trans timeArrives_touches _ s).trans
      ((takeReport_touches m _ r _).scan.trans (ih _ _))

theorem takeReports_touches (m : Fin 16) (between : List (List TimeArrival)) (rs : List Report) (s : State) :
    s.onlyScan (takeReports m between rs s) := takeOrdered_touches m _ between s

/-- Without TIME frames between them, the reports of a frame leave the Time Base and the ports as they are. -/
theorem takeReports_nil_touches (m : Fin 16) (rs : List Report) (s : State) : s.onlyModules (takeReports m [] rs s) := by
  rw [takeReports, takeOrdered_nil]
  exact State.each_rel State.onlyModules.refl State.onlyModules.trans (takeReport_touches m _) _ s

theorem setLastSeq_touches (m : Fin 16) (q : Nat) (s : State) : s.onlyModules (setLastSeq m q s) := rfl

theorem endSilence_touches (m : Fin 16) (d : ModuleDef) (s : State) : s.onlyModules (endSilence m d s) :=
  (setInputModule_touches m _ s).trans ((clearAt_touches _ _).channels.elements.points.modules.trans
    (offerNow_touches _ _ _ _ _ _).ann.channels.elements.points.modules)

theorem takeLive_touches (m : Fin 16) (between : List (List TimeArrival)) (l q : Nat) (rs : List Report) (s : State) :
    s.onlyScan (takeLive m between l q rs s) := by
  unfold takeLive
  split
  · exact (setInputModule_touches m _ s).scan
  split
  · exact (setLastSeq_touches m q s).scan.trans (takeReports_touches m between rs _)
  · exact (offerNow_touches _ _ _ _ _ s).ann.channels.elements.points.modules.scan.trans
      ((setLastSeq_touches m q _).scan.trans (takeReports_touches m between rs _))

theorem acceptScan_touches (m : Fin 16) (d : ModuleDef) (between : List (List TimeArrival)) (q : Nat) (rs : List Report) (s : State) :
    s.onlyScan (acceptScan m d between q rs s) := by
  have h0 := setInputModule_touches m { s.inputModule m with supervision := some d.supervision } s
  unfold acceptScan
  dsimp only
  split
  · exact (h0.trans (setInputModule_touches m _ _)).scan.trans
      ((setLastSeq_touches m q _).scan.trans (takeReports_touches m between rs _))
  · exact (h0.trans (endSilence_touches m d _)).scan.trans
      ((setLastSeq_touches m q _).scan.trans (takeReports_touches m between rs _))
  · split
    · exact h0.scan.trans (takeLive_touches m between _ q rs _)
    · exact h0.scan.trans ((setLastSeq_touches m q _).scan.trans (takeReports_touches m between rs _))

theorem supervisionExpiry_touches (m : Fin 16) (s : State) : s.onlyModules (supervisionExpiry m s) := by
  unfold supervisionExpiry
  split
  · split
    · exact State.onlyModules.trans (by rfl) ((modulePointsBad_touches m _).modules.trans
        ((offerNow_touches _ _ _ _ _ _).ann.channels.elements.points.modules.trans
          (activateAt_touches _ _ _).channels.elements.points.modules))
    · rfl
  · rfl

theorem modulesToRun_touches (s : State) : s.onlyModules (modulesToRun s) := by
  refine State.each_rel State.onlyModules.refl State.onlyModules.trans ?_ _ s
  intro m s
  unfold restartUnseen
  split
  · split <;> rfl
  · rfl

theorem clearSilence_touches (v : InputModule) (s : State) : s.onlyAnnunciation (clearSilence v s) := by
  unfold clearSilence
  split
  · exact clearAt_touches _ s
  · rfl

theorem applyModuleClear_touches (m : Fin 16) (s : State) : s.onlyModules (applyModuleClear m s) := by
  unfold applyModuleClear
  dsimp only
  split
  · rfl
  · exact (setInputModule_touches m _ s).trans ((modulePointsBad_touches m _).modules.trans
      (clearSilence_touches _ _).channels.elements.points.modules)

theorem applyModuleWrite_touches (m : Fin 16) (d : ModuleDef) (s : State) : s.onlyModules (applyModuleWrite m d s) := by
  unfold applyModuleWrite
  split
  · rfl
  · split
    · unfold rewriteModule
      dsimp only
      split
      · exact State.onlyModules.trans (by rfl) ((clearAt_touches _ _).channels.elements.points.modules.trans
          (activateAt_touches _ _ _).channels.elements.points.modules)
      · rfl
    · exact (applyModuleClear_touches m s).trans (by rfl)

end Sys2Proof.Machine
end

