-- ==== Sys2Proof/Laws/Effects.lean ====
section
/-! SUPPORT. What the shared operations do: for each, the values it leaves in the state, so that a proof cites it and does not unfold
the operation. Laws/Touches.lean says what each leaves alone. -/

set_option Elab.async false

namespace Sys2Proof.Machine

/-! ### Two writes of one entry -/

@[simp] theorem State.setInputModule_setInputModule (s : State) (m : Fin 16) (v u : InputModule) :
    (s.setInputModule m v).setInputModule m u = s.setInputModule m u := by simp [State.setInputModule]
@[simp] theorem State.setPoint_setPoint (s : State) (p : Fin 1024) (v u : Point) :
    (s.setPoint p v).setPoint p u = s.setPoint p u := by simp [State.setPoint]
@[simp] theorem State.setWindow_setWindow (s : State) (w : Fin 192) (v u : Window) :
    (s.setWindow w v).setWindow w u = s.setWindow w u := by simp [State.setWindow]
@[simp] theorem State.setGroup_setGroup (s : State) (g : Fin 32) (v u : Group) :
    (s.setGroup g v).setGroup g u = s.setGroup g u := by simp [State.setGroup]
@[simp] theorem State.setHorn_setHorn (s : State) (h : Fin 4) (v u : Horn) :
    (s.setHorn h v).setHorn h u = s.setHorn h u := by simp [State.setHorn]
@[simp] theorem State.setElement_setElement (s : State) (e : Fin 64) (v u : Element) :
    (s.setElement e v).setElement e u = s.setElement e u := by simp [State.setElement]
@[simp] theorem State.setChannel_setChannel (s : State) (c : Fin 16) (v u : Channel) :
    (s.setChannel c v).setChannel c u = s.setChannel c u := by simp [State.setChannel]
@[simp] theorem State.setOutputModule_setOutputModule (s : State) (k : Fin 8) (v u : OutputModule) :
    (s.setOutputModule k v).setOutputModule k u = s.setOutputModule k u := by simp [State.setOutputModule]
@[simp] theorem State.setDriver_setDriver (s : State) (d : Fin 6) (v u : Option Nat) :
    (s.setDriver d v).setDriver d u = s.setDriver d u := by simp [State.setDriver]

/-! ### Commands -/

/-- A command of a ready source is performed and answered (R172). -/
theorem takeCommand_of_ready {s : State} {src : Byte} (h : s.ready src) (code : Byte) (act : State → Answer) :
    takeCommand code src act s = (act s).replied src code := by
  obtain ⟨-, hr, h1, h2⟩ := h
  simp [takeCommand, mayTake, hr, linkAddress, h1, h2]

/-- A command that finds a REPLY on wait, or whose source is no link address, has no effect (R172). -/
theorem takeCommand_of_not {s : State} {src : Byte} (h : s.reply ≠ none ∨ src.toNat = 0 ∨ 239 < src.toNat) (code : Byte)
    (act : State → Answer) : takeCommand code src act s = s := by
  have : mayTake src s = false := by
    rcases h with h | h | h
    · simp [mayTake, Option.isNone_iff_eq_none, h]
    · simp [mayTake, linkAddress, h]
    · simp [mayTake, linkAddress, show ¬ src.toNat ≤ 239 by omega]
  simp [takeCommand, this]

/-- While RESETN is high a row does what its operation does (R186). -/
theorem running_high {s : State} (h : s.resetLow = false) (f : State → State) : running s f = .next (f s) := by
  simp [running, h]

/-- While RESETN is low a row does nothing (log entry 5). -/
theorem running_low {s : State} (h : s.resetLow = true) (f : State → State) : running s f = .next s := by
  simp [running, h]

@[simp] theorem replied_refuse (st : Status) (s : State) (src code : Byte) :
    (refuse st s).replied src code = s.refused src code st := rfl

@[simp] theorem replied_accept (s : State) (src code : Byte) :
    (accept s).replied src code = s.answered src [code, Status.ok.code] := rfl

@[simp] theorem entryReply_accept (t : TableId) (index : BitVec 16) (s : State) (src code : Byte) :
    (entryReply t index (accept s)).replied src code = s.answered src (entryOk code t index) := by
  simp [entryReply, accept, Answer.replied, State.answered, entryOk]

theorem entryReply_refuse (t : TableId) (index : BitVec 16) {st : Status} (h : st ≠ .ok) (s : State) :
    entryReply t index (refuse st s) = refuse st s := by
  simp [entryReply, refuse, h]

/-! ### The Event Queue -/

/-- A record within its class limit is accepted (R147, R149). -/
theorem offer_accepts {o : Offer} {s : State} (h : s.mode ≠ .configuring) (l : s.events.records.length < classLimit o.cls) :
    (offer o s).events.records = s.events.records ++ [completeRecord o s] ∧
    (offer o s).events.nextSeq = (s.events.nextSeq + 1) % 65536 ∧ (offer o s).events.dropped = s.events.dropped := by
  simp only [offer, h, l, if_true, if_false, acceptRecord, startBatch]
  split <;> (try split) <;> simp_all
  split <;> simp_all

/-- A record at its class limit is refused and counted (R149, R150). -/
theorem offer_refuses {o : Offer} {s : State} (h : s.mode ≠ .configuring) (l : classLimit o.cls ≤ s.events.records.length) :
    offer o s = { s with events := { s.events with dropped := saturate s.events.dropped } } := by
  simp [offer, h, show ¬ s.events.records.length < classLimit o.cls by omega, refuseRecord]

/-- In CONFIGURING nothing is queued (R157). -/
theorem offer_configuring {o : Offer} {s : State} (h : s.mode = .configuring) : offer o s = s := by simp [offer, h]

/-! ### The Link Unit -/

/-- The character that sends a byte carries it, begins with a start bit, and is not in error (R158). -/
theorem sentChar_reads (n : Fin 256) : (sentChar (BitVec.ofFin n)).data = BitVec.ofFin n ∧
    (sentChar (BitVec.ofFin n)).started = true ∧ (sentChar (BitVec.ofFin n)).inError = false := by
  revert n; decide +kernel

@[simp] theorem sentChar_data (b : Byte) : (sentChar b).data = b := (sentChar_reads b.toFin).1
@[simp] theorem sentChar_started (b : Byte) : (sentChar b).started = true := (sentChar_reads b.toFin).2.1
@[simp] theorem sentChar_inError (b : Byte) : (sentChar b).inError = false := (sentChar_reads b.toFin).2.2

/-- The judgement of a settled port that has one frame more (R166). -/
theorem PortState.judge_placed {v : PortState} {high low : Nat} (h : v.settled high low) (k : Held) :
    PortState.judge high low { (if v.pauseAsserted then v.due .pause else v) with buf := v.buf ++ [k] } = v.withPlaced high k := by
  obtain ⟨-, hm, hf, ht⟩ := h
  cases hp : v.pauseAsserted with
  | false =>
    by_cases hh : high ≤ v.buf.length + 1 <;> simp [judge, withPlaced, due, hp, hh]
  | true =>
    have hl : ¬ v.buf.length + 1 ≤ low := by have := ht hp; omega
    simp [judge, withPlaced, due, hp, hl]

/-- The judgement of a settled port that has lost a frame (R166). -/
theorem PortState.judge_given {v : PortState} {high low : Nat} (h : v.settled high low) {b : List Held} (hb : b.length ≤ v.buf.length) :
    PortState.judge high low { v with buf := b } = v.withGiven low b := by
  obtain ⟨-, hm, hf, ht⟩ := h
  cases hp : v.pauseAsserted with
  | false =>
    have hl : ¬ high ≤ b.length := by have := hf hp; omega
    simp [judge, withGiven, hp, hl]
  | true => by_cases hl : b.length ≤ low <;> simp [judge, withGiven, due, hp, hl]

/-- A settled port that takes one more frame (R164, R166). -/
theorem takePlace_settled {s : State} {p : Port} (h : (s.port p).settled (s.marks p).1 (s.marks p).2) (k : Held) :
    takePlace p k s = s.setPort p ((s.port p).withPlaced (s.marks p).1 k) := by
  rw [← PortState.judge_placed h k]
  by_cases hp : (s.port p).pauseAsserted = true
  · have hf : furtherPause p s = s.setPort p ((s.port p).due .pause) := by simp [furtherPause, hp]
    rw [if_pos hp, takePlace, hf]
    cases p <;> rfl
  · have hf : furtherPause p s = s := by simp [furtherPause, hp]
    rw [if_neg hp, takePlace, hf]
    cases p <;> rfl

/-- A settled port whose `sel` frame gives up its place (R165, R166). -/
theorem givePlace_settled {s : State} {p : Port} (h : (s.port p).settled (s.marks p).1 (s.marks p).2) (sel : Held → Bool) :
    givePlace p sel s = s.setPort p ((s.port p).withGiven (s.marks p).2 ((s.port p).buf.eraseP sel)) := by
  rw [← PortState.judge_given h List.length_eraseP_le]
  cases p <;> rfl

/-- The frame that a block takes: the first of its kind. -/
theorem nextOwned_split {s : State} {p : Port} {kind : Byte} {before after : List Held} {h : Held}
    (hb : (s.port p).buf = before ++ h :: after) (hk : Held.owned kind h = true) (hn : ∀ k ∈ before, Held.owned kind k = false) :
    s.nextOwned p kind = some h ∧ (s.port p).buf.eraseP (Held.owned kind) = before ++ after := by
  constructor
  · rw [State.nextOwned, hb, List.find?_append, List.find?_eq_none.mpr (by simpa using hn)]; simp [hk]
  · rw [hb, List.eraseP_append_right _ (by simpa using hn)]; simp [hk]

/-! ### The Annunciation Unit -/

@[simp] theorem joinDriver_window (d : Fin 6) (s : State) (w : Fin 192) : (joinDriver d s).window w = s.window w := by
  unfold joinDriver; split <;> rfl
@[simp] theorem joinDriver_group (d : Fin 6) (s : State) (g : Fin 32) : (joinDriver d s).group g = s.group g := by
  unfold joinDriver; split <;> rfl
@[simp] theorem joinDriver_horn (d : Fin 6) (s : State) (h : Fin 4) : (joinDriver d s).horn h = s.horn h := by
  unfold joinDriver; split <;> rfl
@[simp] theorem joinDriver_mode (d : Fin 6) (s : State) : (joinDriver d s).mode = s.mode := by unfold joinDriver; split <;> rfl
@[simp] theorem joinDriver_events (d : Fin 6) (s : State) : (joinDriver d s).events = s.events := by unfold joinDriver; split <;> rfl
@[simp] theorem joinDriver_groups (d : Fin 6) (s : State) : (joinDriver d s).ann.groups = s.ann.groups := by
  unfold joinDriver; split <;> rfl
@[simp] theorem joinDriver_horns (d : Fin 6) (s : State) : (joinDriver d s).ann.horns = s.ann.horns := by
  unfold joinDriver; split <;> rfl
@[simp] theorem joinDriver_lampTest (d : Fin 6) (s : State) : (joinDriver d s).ann.lampTest = s.ann.lampTest := by
  unfold joinDriver; split <;> rfl

/-- A derivation of one window's pattern changes that window's shown pattern alone (R69). -/
theorem redisplay_window (w j : Fin 192) (s : State) :
    (redisplay w s).window j = if j = w then { s.window w with shown := derivedPattern s w } else s.window j := by
  unfold redisplay
  split
  · next h => split <;> simp_all
  · by_cases h : j = w
    · subst h; simp
    · simp [h, State.setWindow_window_ne _ _ h]

@[simp] theorem redisplay_groups (w : Fin 192) (s : State) : (redisplay w s).ann.groups = s.ann.groups := by
  unfold redisplay; split <;> simp
@[simp] theorem redisplay_horns (w : Fin 192) (s : State) : (redisplay w s).ann.horns = s.ann.horns := by
  unfold redisplay; split <;> simp
@[simp] theorem redisplay_events (w : Fin 192) (s : State) : (redisplay w s).events = s.events := by unfold redisplay; split <;> simp
@[simp] theorem redisplay_mode (w : Fin 192) (s : State) : (redisplay w s).mode = s.mode := by unfold redisplay; split <;> simp
@[simp] theorem redisplay_lampTest (w : Fin 192) (s : State) : (redisplay w s).ann.lampTest = s.ann.lampTest := by
  unfold redisplay; split <;> simp
@[simp] theorem redisplay_group (w : Fin 192) (s : State) (g : Fin 32) : (redisplay w s).group g = s.group g := by
  simp [State.group]
@[simp] theorem redisplay_horn (w : Fin 192) (s : State) (h : Fin 4) : (redisplay w s).horn h = s.horn h := by
  simp [State.horn]

/-- What is derived of a window depends on its definition, state and mark, the mode and the lamp test alone (R69). -/
theorem derivedPattern_congr {s t : State} {w : Fin 192} (hm : t.mode = s.mode) (hl : t.ann.lampTest = s.ann.lampTest)
    (hd : (t.window w).defn = (s.window w).defn) (hs : (t.window w).state = (s.window w).state)
    (hk : (t.window w).mark = (s.window w).mark) : derivedPattern t w = derivedPattern s w := by
  simp [derivedPattern, Window.pattern, hm, hl, hd, hs, hk]

/-- A derivation changes what no window's pattern is derived from. -/
@[simp] theorem derivedPattern_redisplay (w j : Fin 192) (s : State) : derivedPattern (redisplay w s) j = derivedPattern s j := by
  apply derivedPattern_congr <;> simp only [redisplay_mode, redisplay_lampTest, redisplay_window] <;> split <;> simp_all

/-- After a derivation the window shows its derived pattern. -/
theorem redisplay_shown (w : Fin 192) (s : State) : ((redisplay w s).window w).shown = derivedPattern s w := by
  simp [redisplay_window]

theorem each_joinDriver_window (ds : List (Fin 6)) (s : State) (w : Fin 192) : (State.each ds joinDriver s).window w = s.window w := by
  induction ds generalizing s with
  | nil => rfl
  | cons d ds ih => rw [State.each_cons, ih, joinDriver_window]

/-- A derivation of every pattern changes shown patterns alone (R69, R72). -/
@[simp] theorem redisplayAll_window (s : State) (w : Fin 192) :
    (redisplayAll s).window w = { s.window w with shown := derivedPattern s w } := by
  unfold redisplayAll
  rw [each_joinDriver_window]
  simp [State.window]

@[simp] theorem phaseOnWait_horn (s : State) (h : Fin 4) : (phaseOnWait s).horn h = s.horn h := rfl
@[simp] theorem phaseOnWait_window (s : State) (w : Fin 192) : (phaseOnWait s).window w = s.window w := rfl
@[simp] theorem phaseOnWait_group (s : State) (g : Fin 32) : (phaseOnWait s).group g = s.group g := rfl

/-- Setting a horn leaves that horn's value and every other horn (R95). -/
theorem putHorn_horn (h j : Fin 4) (v : Horn) (s : State) : (putHorn h v s).horn j = if j = h then v else s.horn j := by
  unfold putHorn; split <;> simp [State.setHorn_horn]

/-- A PHASE frame is on wait after a horn is set exactly where one was, or the horn's state changed (R74, R95). -/
theorem putHorn_phase (h : Fin 4) (v : Horn) (s : State) :
    (putHorn h v s).ann.phaseWaiting = true ↔ s.ann.phaseWaiting = true ∨ (s.horn h).state ≠ v.state := by
  unfold putHorn
  split
  · next e => simp [e, State.setHorn]
  · next e => simp [e, phaseOnWait]

@[simp] theorem putHorn_window (h : Fin 4) (v : Horn) (s : State) (w : Fin 192) : (putHorn h v s).window w = s.window w := by
  unfold putHorn; split <;> simp
@[simp] theorem putHorn_group (h : Fin 4) (v : Horn) (s : State) (g : Fin 32) : (putHorn h v s).group g = s.group g := by
  unfold putHorn; split <;> simp
@[simp] theorem putHorn_mode (h : Fin 4) (v : Horn) (s : State) : (putHorn h v s).mode = s.mode := by unfold putHorn; split <;> rfl
@[simp] theorem putHorn_events (h : Fin 4) (v : Horn) (s : State) : (putHorn h v s).events = s.events := by
  unfold putHorn; split <;> rfl

@[simp] theorem hornEnter_window (h : Option (Fin 4)) (s : State) (w : Fin 192) : (hornEnter h s).window w = s.window w := by
  cases h <;> simp [hornEnter]
@[simp] theorem hornEnter_group (h : Option (Fin 4)) (s : State) (g : Fin 32) : (hornEnter h s).group g = s.group g := by
  cases h <;> simp [hornEnter]
@[simp] theorem hornExit_window (h : Option (Fin 4)) (s : State) (w : Fin 192) : (hornExit h s).window w = s.window w := by
  cases h <;> simp [hornExit]
@[simp] theorem hornExit_group (h : Option (Fin 4)) (s : State) (g : Fin 32) : (hornExit h s).group g = s.group g := by
  cases h <;> simp [hornExit]

/-- An entry into FAST: the horn sounds and counts one more (R95). -/
theorem hornEnter_horn (h j : Fin 4) (s : State) : (hornEnter (some h) s).horn j =
    if j = h then { s.horn h with state := .sounding, fastCount := (s.horn h).fastCount + 1 } else s.horn j :=
  putHorn_horn h j _ s

/-- An exit from FAST: the horn counts one less and falls QUIET at 0 (R95). -/
theorem hornExit_horn (h j : Fin 4) (s : State) : (hornExit (some h) s).horn j =
    if j = h then { s.horn h with state := if (s.horn h).fastCount - 1 = 0 then .quiet else (s.horn h).state
                                  fastCount := (s.horn h).fastCount - 1 } else s.horn j :=
  putHorn_horn h j _ s

/-- A group rearms (R90). -/
theorem rearm_group (g k : Fin 32) (s : State) : (rearm g s).group k =
    if k = g then { s.group g with state := .armed, foWindow := none, foPoint := none, settle := none } else s.group k := by
  have h (u : State) (w : Option (Fin 192)) (k : Fin 32) : (unmark w u).group k = u.group k := by
    cases w <;> simp [unmark, setMark]
  simp only [rearm, State.setGroup_group, h]

/-- A rearmed group's first-out window loses its mark, and no window anything else (R90). -/
theorem rearm_window (g : Fin 32) (s : State) (w : Fin 192) : (rearm g s).window w =
    if (s.group g).foWindow = some w then { s.window w with mark := false } else s.window w := by
  simp only [rearm, State.setGroup_window, unmark]
  cases h : (s.group g).foWindow with
  | none => simp
  | some u =>
    by_cases e : w = u
    · subst e; simp [setMark]
    · simp [setMark, State.setWindow_window_ne _ _ e, Ne.symm e]

/-! ### The Channel Unit -/

@[simp] theorem judgeLine_channel (k : Fin 2) (s : State) (c : Fin 16) : (judgeLine k s).channel c = s.channel c := by
  unfold judgeLine; split <;> rfl
@[simp] theorem judgeLine_outputModule (k : Fin 2) (s : State) (m : Fin 8) : (judgeLine k s).outputModule m = s.outputModule m := by
  unfold judgeLine; split <;> rfl

/-- A judged backup line stands as its condition says, and the other as it was (R141). -/
theorem judgeLine_line (k j : Fin 2) (s : State) :
    (judgeLine k s).bktDrivenLow j = if j = k then lineCondition s k else s.bktDrivenLow j := by
  have hk : k = 0 ∨ k = 1 := by omega
  have hj : j = 0 ∨ j = 1 := by omega
  rcases hk with rfl | rfl <;> rcases hj with rfl | rfl <;> simp [judgeLine, State.bktDrivenLow]

@[simp] theorem joinTrip_channel (k : Fin 8) (s : State) (c : Fin 16) : (joinTrip k s).channel c = s.channel c := by
  unfold joinTrip; split <;> rfl
@[simp] theorem joinTrip_outputModule (k m : Fin 8) (s : State) : (joinTrip k s).outputModule m = s.outputModule m := by
  unfold joinTrip; split <;> rfl
@[simp] theorem joinTrip_events (k : Fin 8) (s : State) : (joinTrip k s).events = s.events := by unfold joinTrip; split <;> rfl
@[simp] theorem joinTrip_ann (k : Fin 8) (s : State) : (joinTrip k s).ann = s.ann := by unfold joinTrip; split <;> rfl

/-- The TRIP waiting list after a module is to join it (R135). -/
theorem joinTrip_waiting (k : Fin 8) (s : State) : (joinTrip k s).trip.waiting =
    if (s.outputModule k).address.isSome ∧ hostedBy s k ≠ [] ∧ k ∉ s.trip.waiting then s.trip.waiting ++ [k] else s.trip.waiting := by
  unfold joinTrip; split <;> rfl

/-! ### The Trip Matrix -/

/-- A weighted sum of inputs in range is at most their number times 15 (R104). -/
theorem voteSum_le (is : List ElementInput) (cs : List Bool) (h : ∀ i ∈ is, i.weight ≤ 15) : voteSum is cs ≤ 15 * is.length := by
  induction is generalizing cs with
  | nil => cases cs <;> simp [voteSum]
  | cons i is ih =>
    cases cs with
    | nil => simp [voteSum]
    | cons c cs =>
      have h1 := h i (by simp)
      have h2 := ih cs (fun j hj => h j (by simp [hj]))
      simp only [voteSum, List.zip_cons_cons, List.length_cons] at *
      cases c <;> simp at * <;> omega

end Sys2Proof.Machine
end

