-- ==== Sys2Proof/Tests/Slice0.lean ====
section
/-! SUPPORT. Tests: the WellFormed smoke, worked values of the manual, and for each statement of the provers that has hypotheses a
state and operands that meet them, clause by clause, at the bounds of their ranges. -/

set_option Elab.async false

namespace Sys2Proof.Tests

open Sys2Proof.Machine

/-! ### Helpers -/

/-- The state after a command. -/
def after (c : Instr) (s : State) : State :=
  match exec c s with
  | .next t => t
  | _ => s

def point0 : PointDef :=
  { polarity := .alarmOnClosed, kind := .maintained, window := some 0, chatterLimit := 2, inhibited := false, cls := .alarm }

def element0 : ElementDef :=
  { inputs := [{ point := 0, weight := 8, sense := .onAlarm }], pickup := 8, dropout := 7, policy := .badHolds, mode := .onDelay,
    delay := 5, targets := [0] }

/-- A small hall in RUN: module 0 at address 32, points 0 and 1, windows 0 to 3 of groups 0 and 1, element 0, channel 0 of output
module 0, driver 0. -/
def hall : State := { State.reset with
  mode := .run
  modules := [(0, { defn := some { address := 32, channels := 4, supervision := 10, window := some 2 }, state := .live,
                    lastSeq := some 255, supervision := some 0 })]
  points := [(0, { defn := some point0, quality := .good }), (1, { defn := some { point0 with kind := .momentary }, quality := .good })]
  ann := { State.reset.ann with
    windows := [(0, { defn := some { group := 0, sequence := .manualReset, eligible := true } }),
                (1, { defn := some { group := 0, sequence := .autoReset, eligible := true } }),
                (2, { defn := some { group := 1, sequence := .autoReset, eligible := false } }),
                (3, { defn := some { group := 1, sequence := .autoReset, eligible := true } })]
    drivers := [(0, some 50)]
    groups := [(0, { defn := some { horn := some 1, firstOut := true, settle := 50 } }),
               (1, { defn := some { horn := some 2, firstOut := true, settle := 0 } })] }
  elements := [(0, { defn := some element0, contrib := [false], held := [false] })]
  trip := { State.reset.trip with
    channels := [(0, { defn := some { outputModule := 0, output := 0, lockout := true, window := some 3 } })]
    outputs := [(0, { address := some 94 })] } }

/-- A frame in a receive buffer. -/
def heldFrame (src kind : Byte) (payload : List Byte) (forward : Bool) : Held :=
  { frame := mkFrame 239 src kind 0 payload, trx := some 0, forward := forward, sending := false }

def withA (h : Held) (s : State) : State := { s with portA := { s.portA with buf := [h] } }

def withB (h : Held) (s : State) : State := { s with portB := { s.portB with buf := [h] } }

def button (kind target : Byte) : Held := heldFrame 60 0x53 [kind, target] false

def record0 : Record :=
  { seq := 0, kind := .modeChange, cls := .trip, quality := .unset, adjusted := false, approx := false, test := false, time := 0,
    subject := 0xFFFF, value := 1, extra := 0, acceptedAt := 0 }

def withRecords (n : Nat) (s : State) : State := { s with events := { s.events with records := List.replicate n record0 } }

/-- A character without error. -/
def ch (b : Byte) : RxChar := sentChar b

theorem settled_of (s : State) (h : s.portA = {} ∨ s.portA.buf.length = 1 ∧ s.portA.pauseAsserted = false)
    (g : s.portB = {} ∨ s.portB.buf.length = 1 ∧ s.portB.pauseAsserted = false) (k : s.settings = {}) : s.flowSettled := by
  constructor <;> [(obtain h | ⟨h, p⟩ := h); (obtain h | ⟨h, p⟩ := g)] <;> simp_all [PortState.settled]

/-- A state without defined points has every announced condition derived. -/
theorem announced_of_none (s : State) (h : s.points = []) : s.announcedDerived := by
  intro p d hd
  simp [State.point, h, Table.get] at hd

theorem ready_of (s : State) (h : s.resetLow = false) (g : s.reply = none) : s.ready 1 ∧ s.ready 239 := by
  simp [State.ready, h, g]

/-! ### WellFormed: an ill-formed term for each check is refused -/

theorem test_wf_received : Instr.wellFormed (.frameReceived .A [ch 1]) = false ∧
    Instr.wellFormed (.frameReceived .A (mkFrame 239 32 0x11 0 [1, 0]).chars) = true := by decide +kernel

theorem test_wf_abandoned : Instr.wellFormed (.frameAbandoned .A [ch 1]) = false ∧
    Instr.wellFormed (.frameAbandoned .B [ch 1, ch 1, ch 1, ch 1, ch 201]) = true ∧
    Instr.wellFormed (.frameAbandoned .B [ch 0xE1]) = true := by decide +kernel

theorem test_wf_time : Instr.wellFormed (.timeFrame 255 1 0 (List.replicate 201 0)) = false := by decide +kernel

theorem test_wf_unknown : Instr.wellFormed (.cmdUnknown 1 [0x10]) = false ∧ Instr.wellFormed (.cmdUnknown 1 []) = true ∧
    Instr.wellFormed (.cmdUnknown 1 [0x05]) = true := by decide +kernel

theorem test_wf_entry : Instr.wellFormed (.writePoint 1 0 (List.replicate 197 0)) = false := by decide +kernel

/-! ### Values of the manual -/

/-- R162: the CRC of the ASCII characters 1 to 9 is 29B1H. -/
theorem test_crc : crcOf [0x31, 0x32, 0x33, 0x34, 0x35, 0x36, 0x37, 0x38, 0x39] = 0x29B1 := by decide +kernel

/-- Section 9.2: the four reserved bytes are sent as E2H and A1H to A4H. -/
theorem test_escape : [0xE1, 0xE2, 0xE3, 0xE4].map escaped = [[0xE2, 0xA1], [0xE2, 0xA2], [0xE2, 0xA3], [0xE2, 0xA4]] := by
  decide +kernel

/-- R158: 01H and E1H as the bits stop, parity, data, start; a wrong parity and a low stop bit are errors, a high start bit is none. -/
theorem test_char : sentChar 0x01 = 0b1_1_00000001_0#11 ∧ sentChar 0xE1 = 0b1_0_11100001_0#11 ∧
    RxChar.inError 0b1_0_00000001_0#11 = true ∧ RxChar.inError 0b0_1_00000001_0#11 = true ∧
    deframe [0b1_1_00000001_1#11, ch 0xE1] = none := by decide +kernel

/-- R33, section 2.3.1: descending age, the unknown age as 0, then ascending channel. -/
theorem test_order : (orderReports
      [{ channel := 44, contact := true, quality := .good, pulses := 0, age := 10 },
       { channel := 7, contact := true, quality := .bad, pulses := 0, age := 50 },
       { channel := 3, contact := true, quality := .good, pulses := 1, age := 300 },
       { channel := 11, contact := false, quality := .good, pulses := 0, age := 65535 }]).map (fun r => r.channel) =
    [3, 7, 44, 11] := by decide +kernel

/-- R52: the floor raises a report, an age above the receipt time is dated 0, the unknown age is the receipt time. -/
theorem test_stamp : stampReport 5000000 300 4999800 = { time := 4999800, adjusted := true, approx := false } ∧
    stampReport 100 101 0 = { time := 0, adjusted := true, approx := false } ∧
    stampReport 100 100 0 = { time := 0, adjusted := false, approx := false } ∧
    stampReport 100 65535 0 = { time := 100, adjusted := false, approx := true } := by decide +kernel

/-- R186: the node address straps 0 and 240 are taken as 239, 1 and 239 as they are. -/
theorem test_straps : State.strapAddress 0 = 239 ∧ State.strapAddress 240 = 239 ∧ State.strapAddress 1 = 1 ∧
    State.strapAddress 239 = 239 := by decide +kernel

/-- R47: a TIME frame at 10000 units behind holds, at 10001 steps back. -/
theorem test_time_back : let s := { hall with time := { hall.time with station := 10001 }, portA := { hall.portA with rx := .withinFrame } }
    (after (.timeFrame 255 1 0 [0, 0, 0, 0, 0, 1]) s).time.hold = 10000 ∧
    (after (.timeFrame 255 1 0 [0, 0, 0, 0, 0, 0]) s).time.station = 0 := by decide +kernel

/-- R49: a backward step to 5 between two reports of a frame received at 40000: the first stays dated from 40000, the second is dated
from 5 against floor 0. -/
theorem test_time_between : let s := { hall with time := { hall.time with station := 50000 } }
    let h : Held := { heldFrame 32 0x11 [0, 2, 0, 1, 0, 100, 1, 1, 0, 2] false with trx := some 40000 }
    let t := after .scanFrame
      { withA h s with arriving := [[], [{ dest := 255, src := 1, seq := 0, payload := [0, 0, 0, 0, 0, 5] }]] }
    t.arriving = [] ∧ (t.point 0).lastEvent = 39900 ∧ (t.point 1).lastEvent = 3 ∧ (t.inputModule 0).floor = 3 ∧ t.time.station = 5 := by decide +kernel

/-- R173: the first failing check is the status: code 10H of a mode already held is OK, of an unlisted payload UNKNOWN. -/
theorem test_status : (after (.setModeRun 1) hall).reply = some { dest := 1, payload := [0x10, 0x00] } ∧
    (after (.cmdUnknown 1 [0x05]) hall).reply ≠ (after (.cmdUnknown 1 []) hall).reply := by decide +kernel

/-! ### Witnesses: states and operands that meet the hypotheses of each statement -/

theorem test_StepRunsTheFrontCommand : ({ hall with pending := [.localTick] } : State).pending = .localTick :: [] ∧
    hall.pending = [] := by
  decide +kernel

theorem test_ResetReturnsEveryState : ({ hall with resetLow := true } : State).resetLow = true ∧
    Instr.localTick ≠ .resetnHeldLow ∧
    ∀ ads rsa rsb, Instr.localTick ≠ .coldReset ads rsa rsb := by simp

/-- Every value of the whole part is changed by some command. -/
theorem test_OnlyTheNamedCommandsChangeTheWholePart :
    (after (.coldReset 5 0 0) hall).node ≠ hall.node ∧ (after (.setModeTest 1) hall).mode ≠ hall.mode ∧
    (after (.freezeMatrix 1) hall).frozen ≠ hall.frozen ∧
    (after (.writeSettings 1 0 [1, 0x03, 0xE8, 8, 7, 6, 3, 4, 20, 0, 60, 255]) hall).settings ≠ hall.settings ∧
    (after .localTick hall).time.station ≠ hall.time.station ∧
    (let s := { withA (heldFrame 32 0x11 [0, 1, 0, 1, 0, 100] false) hall with
                arriving := [[{ dest := 255, src := 1, seq := 0, payload := [0, 0, 0, 0, 0, 5] }]] }
     (after .scanFrame s).time.station ≠ s.time.station ∧ (after .scanFrame s).arriving ≠ s.arriving) ∧
    (after .replyHandover { hall with reply := some { dest := 1, payload := [] } }).reply = none := by decide +kernel

theorem test_SentFrameIsReceived : (mkFrame 239 1 0x11 0 []).payload.length ≤ 200 ∧
    (mkFrame 239 1 0x11 0 (List.replicate 200 0xE1)).payload.length = 200 := by decide +kernel

/-- A SCAN frame for the part, one with a character error, one with a wrong CRC, a full buffer and both abandonments. -/
theorem test_ReceptionsAreJudged :
    let f := mkFrame 239 32 0x11 0 [1, 0]
    let bad : Frame := { f with crc := f.crc ^^^ 1 }
    let noisy := match f.chars with
      | c :: cs => (c ^^^ 0x200#11) :: cs
      | [] => []
    let s := { hall with portA := { hall.portA with rx := .withinFrame } }
    let full := { hall with portA := { hall.portA with rx := .withinFrame, buf := List.replicate 8 (button 1 0) } }
    deframe noisy = some (.completed f.bytes true) ∧ frameOfBytes f.bytes = some f ∧
    deframe bad.chars = some (.completed bad.bytes false) ∧ frameOfBytes bad.bytes = some bad ∧ crcOf bad.checked ≠ bad.crc ∧
    deframe f.chars = some (.completed f.bytes false) ∧ crcOf f.checked = f.crc ∧ 8 ≤ full.portA.buf.length ∧
    s.resetLow = false ∧ s.portA.rx = .withinFrame ∧ full.portA.rx = .withinFrame ∧
    deframe [ch 1, ch 1, ch 1, ch 1, ch 201] = some .abandonedByLength ∧
    deframe [ch 0xE1] = some .abandonedBySof := by decide +kernel

/-- An owned frame, one for the other port, and a CONFIRM on port A, with 7 frames held. -/
theorem test_AcceptedFrameIsDirected :
    let s := { hall with portA := { hall.portA with rx := .withinFrame, buf := List.replicate 7 (button 1 0), pauseAsserted := true } }
    (∀ f ∈ [mkFrame 239 32 0x11 0 [1, 0], mkFrame 7 32 0x11 0 [], mkFrame 239 32 0x62 0 []],
      deframe f.chars = some (.completed f.bytes false) ∧ frameOfBytes f.bytes = some f ∧ crcOf f.checked = f.crc) ∧
    s.resetLow = false ∧ s.portA.rx = .withinFrame ∧ s.portA.buf.length < 8 ∧
    (s.portA.settled s.settings.highA s.settings.lowA ∧ s.portB.settled s.settings.highB s.settings.lowB) ∧
    (239 : Byte).toNat = s.node ∧ (7 : Byte).toNat ≠ s.node := by
  unfold PortState.settled; decide +kernel

theorem test_TransmittersPauseAndEnd :
    let h := { heldFrame 60 0x41 [] true with sending := true }
    let s := withB h { hall with portA := { hall.portA with
      paused := true, selfResume := some 0, control := some .pause, tx := some { frame := h.frame, wire := [], forwarded := true } } }
    s.resetLow = false ∧ s.flowSettled ∧ s.portA.paused = true ∧ hall.portA.paused = false ∧ s.portA.selfResume = some 0 ∧
    s.portA.control = some .pause ∧ s.portA.tx = some { frame := h.frame, wire := [], forwarded := true } ∧
    s.portB.buf = [] ++ h :: [] ∧ h.sending = true :=
  ⟨rfl, by constructor <;> unfold PortState.settled <;> decide +kernel, rfl, rfl, rfl, rfl, rfl, rfl, rfl⟩

/-- States in which each case of both arbiters applies. -/
theorem test_ArbitersChoose :
    let fwd := heldFrame 60 0x41 [] true
    let event := { withRecords 4 hall with portA := hall.portA }
    let both := withB fwd event
    let reply : State := { both with reply := some { dest := 1, payload := [] } }
    let win : State := withA fwd { hall with ann := { hall.ann with waiting := [0] } }
    queueDue (withRecords 3 hall) = false ∧ queueDue event = true ∧ both.portA.alt = .passThrough ∧
    ({ both with portA := { both.portA with alt := .own } } : State).arbiterA = some .passThrough ∧
    reply.arbiterA = some .reply ∧ both.arbiterA = some .event ∧ (withB fwd hall).arbiterA = some .passThrough ∧
    event.arbiterA = some .event ∧ hall.arbiterA = none ∧
    ({ reply with portA := { reply.portA with paused := true } } : State).arbiterA = none ∧
    ({ win with trip := { win.trip with waiting := [0] }, portB := { win.portB with paused := true } } : State).arbiterB = some .trip ∧
    ({ win with portB := { win.portB with paused := true } } : State).arbiterB = none ∧
    ({ win with ann := { win.ann with phaseWaiting := true } } : State).arbiterB = some .phase ∧
    win.arbiterB = some .window ∧ ({ win with portB := { win.portB with alt := .own } } : State).arbiterB = some .passThrough ∧
    (withA fwd hall).arbiterB = some .passThrough ∧ hall.arbiterB = none ∧
    (win.ann.waiting.Nodup ∧ (∀ d ∈ win.ann.waiting, (win.driver d).isSome = true) ∧ win.trip.waiting.Nodup ∧
      ∀ k ∈ win.trip.waiting, (win.outputModule k).address.isSome = true ∧ hostedBy win k ≠ []) := by decide +kernel

theorem test_HandoversBuildTheirFrames :
    let fwd := heldFrame 60 0x41 [] true
    let r : State := { hall with reply := some { dest := 1, payload := [0x40, 0x00] } }
    let p : State := { hall with ann := { hall.ann with phaseWaiting := true } }
    let w : State := { hall with ann := { hall.ann with waiting := [0] } }
    r.arbiterA = some .reply ∧ r.reply = some { dest := 1, payload := [0x40, 0x00] } ∧ p.arbiterB = some .phase ∧
    w.arbiterB = some .window ∧ w.ann.waiting = 0 :: [] ∧ w.driver 0 = some 50 ∧
    (withB fwd hall).choosesPassThrough .A = true ∧ (withA fwd hall).choosesPassThrough .B = true ∧
    fwd.awaitsForward = true := by
  decide +kernel

/-- The last accepted and the first refused held count of each class (R149). -/
theorem test_RecordsAreAcceptedByClass : hall.mode ≠ .configuring ∧
    (withRecords 479 hall).events.records.length = 479 ∧ (withRecords 480 hall).events.records.length = 480 ∧
    (withRecords 511 hall).events.records.length = 511 ∧ (withRecords 512 hall).events.records.length = 512 ∧
    ((withRecords 480 hall).events.records.filter (fun r => decide (r.cls = .alarm))).length ≤ 480 := by
  decide +kernel

/-- EVENT chosen with the last record, with an overflow to report, and with records left whose head has and has not waited. -/
theorem test_EventHandoverTakesTheOldest :
    let one : State := { withRecords 1 hall with events := { (withRecords 1 hall).events with headWaited := true, dropped := 1 } }
    let nine := withRecords 9 { hall with time := { hall.time with ticks := 19 } }
    one.arbiterA = some .event ∧ nine.arbiterA = some .event ∧ (nine.events.records.drop 8).length = 1 ∧
    nine.time.ticks - record0.acceptedAt = 19 ∧ nine.settings.batchTime = 20 ∧
    (after .eventHandover nine).events.batch = some 1 ∧
    (after .eventHandover { nine with time := { nine.time with ticks := 20 } }).events.headWaited = true ∧
    (after .eventHandover one).events.records.map (fun r => (r.kind, r.extra)) = [(RecordKind.queueOverflow, 1)] ∧
    (after .eventHandover { one with events := { one.events with dropped := 0 } }).events.records = [] := by decide +kernel

theorem test_LocalTickCountsEveryTimer : hall.resetLow = false ∧ hall.canonical = true := by decide +kernel

/-- Payloads of five and six bytes, and station times 0, 10000 and 10001 units ahead of the frame's time 0. -/
theorem test_TimeFrameSetsStationTime :
    let s := { hall with time := { hall.time with station := 10001 }, portA := { hall.portA with rx := .withinFrame } }
    s.resetLow = false ∧ s.canonical = true ∧ s.portA.rx = .withinFrame ∧ s.portA.buf.length < 8 ∧ (239 : Byte).toNat = s.node ∧
    [0, 0, 0, 0, 0x27, 0x11].length = 6 ∧ natOfBytes [0, 0, 0, 0, 0x27, 0x11] = s.time.station ∧
    natOfBytes [0, 0, 0, 0, 0, 1] + 10000 = s.time.station ∧ natOfBytes [0, 0, 0, 0, 0, 0] + 10001 = s.time.station := by
  decide +kernel

/-- The last channel of the module's count has a report taken, the next has it ignored. -/
theorem test_EventTimeOfAReport :
    reportPoint hall 0 { channel := 1, contact := true, quality := .good, pulses := 0, age := 65535 } = some 1 ∧
    reportPoint hall 0 { channel := 4, contact := true, quality := .good, pulses := 0, age := 0 } = none := by decide +kernel

theorem test_ReportsAreOrderedAndExpanded : (transitionsOf false { channel := 0, contact := true, quality := .good, pulses := 3, age := 0 }
    { time := 9, adjusted := false, approx := false }).map (fun t => (t.contact, t.stamp.approx)) =
    [(true, true), (false, true), (true, true), (false, true), (true, true), (false, true), (true, false)] := by decide +kernel

/-- Frames of an unknown source, malformed, duplicate, next, gap, and for an UNSEEN and a SILENT module, with 0 and 48 reports, and a TIME
frame 10001 units behind. -/
theorem test_ScanFrameMovesItsModule :
    let m := hall.inputModule 0
    Held.owned 0x11 (heldFrame 32 0x11 [0, 0] false) = true ∧ moduleAt hall 33 = none ∧ moduleAt hall 32 = some 0 ∧
    m.defn = some { address := 32, channels := 4, supervision := 10, window := some 2 } ∧ parseScan [0] = none ∧
    parseScan [0, 49] = none ∧ m.state = .live ∧ m.lastSeq = some 255 ∧ parseScan [255, 0] = some (255, []) ∧
    (0 : Nat) = (255 + 1) % 256 ∧ (1 : Nat) ≠ (255 + 1) % 256 ∧
    ((hall.setInputModule 0 { m with state := .unseen }).inputModule 0).state = .unseen ∧
    ((hall.setInputModule 0 { m with state := .silent }).inputModule 0).state = .silent ∧
    (parseScan (0 :: 48 :: List.replicate 192 0)).isSome = true ∧ parseScan (0 :: 49 :: List.replicate 196 0) = none ∧
    (let u := withA (heldFrame 32 0x11 [0, 0] false) { hall with time := { hall.time with station := 10001 } }
     u.portA.buf.length < 8 ∧ u.time.station - natOfBytes [0, 0, 0, 0, 0, 0] > 10000) := by decide +kernel

theorem test_ScanFrame_settled : (withA (heldFrame 32 0x11 [0, 0] false) { hall with settings := {} }).flowSettled :=
  settled_of _ (.inr ⟨rfl, rfl⟩) (.inl rfl) rfl

theorem test_GoodReportSetsItsPoint :
    let s := withA (heldFrame 32 0x11 [0, 1, 0, 1, 0, 0] false) hall
    let r : Report := { channel := 0, contact := true, quality := .good, pulses := 0, age := 0 }
    s.resetLow = false ∧ Held.owned 0x11 (heldFrame 32 0x11 [0, 1, 0, 1, 0, 0] false) = true ∧ moduleAt s 32 = some 0 ∧
    (s.inputModule 0).state = .live ∧ (s.inputModule 0).lastSeq = some 255 ∧ parseScan [0, 1, 0, 1, 0, 0] = some (0, [r]) ∧ s.arriving.headD [] = [] ∧
    reportPoint s 0 r = some 0 ∧ (s.point 0).defn = some point0 ∧ reportPoint s 0 { r with channel := 2 } = none ∧
    reportPoint s 0 { r with channel := 1, quality := .bad, pulses := 3 } = some 1 := by decide +kernel

theorem test_ModuleFallsSilent :
    let s : State := { hall with points := [], elements := [] }
    s.announcedDerived ∧ (s.inputModule 0).defn.isSome = true ∧ (s.inputModule 0).state ≠ .silent ∧
    (s.inputModule 0).supervision = some 0 ∧ s.canonical = true ∧ ∀ e, (s.element e).defn = none :=
  ⟨announced_of_none _ rfl, by decide +kernel, by decide +kernel, by decide +kernel, by decide +kernel, fun _ => rfl⟩

/-- A module enabled anew at both ends of the address range, rewritten in place (LIVE and SILENT), at a new address, and cleared. -/
theorem test_ModuleEntryIsWrittenAndCleared :
    let s : State := { hall with mode := .configuring, points := [] }
    let silent := s.setInputModule 0 { s.inputModule 0 with state := .silent }
    readModule [1, 1, 1, 0, 10, 255] = some (some { address := 1, channels := 1, supervision := 10, window := none }) ∧
    readModule [1, 239, 64, 7, 208, 191] = some (some { address := 239, channels := 64, supervision := 2000, window := some 191 }) ∧
    readModule [1, 32, 4, 0, 10, 255] = some (some { address := 32, channels := 4, supervision := 10, window := none }) ∧
    moduleAddressTaken s 15 1 = false ∧ moduleAddressTaken s 0 32 = false ∧
    windowFull s (fun w => moduleNames s w 15) (some 191) = false ∧ (s.inputModule 15).defn = none ∧
    (silent.inputModule 0).state = .silent ∧ s.mode = .configuring ∧ (List.replicate 5 (0xFF : Byte)).length = 5 ∧
    (15 : BitVec 16).toNat = (15 : Fin 16).val := by decide +kernel

theorem test_ModuleEntry_announced : ({ hall with mode := .configuring, points := [] } : State).announcedDerived ∧
    ({ hall with mode := .configuring, points := [] } : State).ready 1 := ⟨announced_of_none _ rfl, (ready_of _ rfl rfl).1⟩

/-- A contact that moves and does not move the condition of a MAINTAINED point, a MOMENTARY point at and away from its alarm
contact, and a suppressed point at count 1. -/
theorem test_TransitionMovesThePoint :
    let p := hall.point 0
    p.contact = false ∧ point0.derive true ≠ p.condition ∧
    (let inverted : Point := { p with defn := some { point0 with polarity := .alarmOnOpen }, contact := true, condition := .alarm }
     PointDef.derive { point0 with polarity := .alarmOnOpen } false = inverted.condition) ∧
    (hall.point 1).quality = .good ∧ true = Polarity.alarmContact .alarmOnClosed ∧
    false ≠ Polarity.alarmContact .alarmOnClosed ∧ (∀ i ∈ element0.inputs, i.point ≠ 1) ∧
    (let s := { hall.setPoint 0 { p with chatter := 1, suppressed := true } with decay := some 0 }
     s.canonical = true ∧ s.decay = some 0 ∧ (s.point 0).suppressed = true ∧ (s.point 0).chatter = 1) := by decide +kernel

theorem test_PointEntryIsWrittenAndCleared :
    let c : State := { hall with mode := .configuring }
    readPoint [1, 0, 0, 0, 2, 0, 0] = some (some point0) ∧ windowKnown hall (some 0) = true ∧ pointPlaced hall 3 = true ∧
    windowFull hall (fun w => pointNames hall w 3) (some 0) = false ∧ (hall.point 3).defn = none ∧ c.mode = .configuring ∧
    (∀ e, elementLists hall 1 e = false) ∧ readPoint [0, 1, 0xFF, 0xFF, 15, 1, 0xFF] = some none ∧
    readPoint [0, 0xFF, 0xFF, 0xFF, 0xFF, 0xFF, 0xFF] = some none ∧ (3 : BitVec 16).toNat = (3 : Fin 1024).val := by decide +kernel

/-- Windows 0 and 1 in each state that a clause names. -/
theorem test_WindowFollowsItsSources :
    let w := hall.window 1
    let fast := hall.setWindow 1 { w with state := .fast, count := 1 }
    let steady := hall.setWindow 1 { w with state := .steady, count := 1 }
    let marked := (steady.setWindow 1 { steady.window 1 with mark := true }).setGroup 0
      { steady.group 0 with state := .captured, foWindow := some 1, foPoint := some 0 }
    (fast.window 1).state = .fast ∧ w.state ≠ .fast ∧ hornOfGroup hall 0 = some 1 ∧ hornOfGroup hall 31 = none ∧
    (steady.window 1).count ≤ 1 ∧ (steady.window 1).state = .steady ∧ (marked.group 0).foWindow = some 1 ∧
    (steady.group 0).foWindow ≠ some 1 ∧ (hall.window 191).defn = none := by decide +kernel

/-- Group 0 ARMED with a settle time, group 1 ARMED without, and a PROVISIONAL group held at window 1, time 100. -/
theorem test_FirstOutTakesTheEarliest :
    let prov := hall.setGroup 0 { hall.group 0 with state := .provisional, foWindow := some 1, foPoint := some 1, captured := 100,
                                                    settle := some 50 }
    (hall.group 0).state = .armed ∧ (hall.group 0).defn = some { horn := some 1, firstOut := true, settle := 50 } ∧
    (hall.group 1).defn = some { horn := some 2, firstOut := true, settle := 0 } ∧ (prov.group 0).state = .provisional ∧
    (prov.group 0).foWindow = some 1 ∧ 99 < (prov.group 0).captured ∧ (0 : Fin 192) < 1 ∧ (prov.group 0).captured = 100 ∧
    (hall.window 2).defn = some { group := 1, sequence := .autoReset, eligible := false } := by decide +kernel

/-- Group 0 with its FAST windows, by command and by button. -/
theorem test_AckOfAGroup :
    let s := (hall.setWindow 0 { hall.window 0 with state := .fast, count := 1 }).setWindow 1 { hall.window 1 with state := .fast }
    s.definedGroup 0 = some 0 ∧ s.canonical = true ∧ s.mode = .run ∧ (s.window 1).count = 0 ∧ (s.window 0).count = 1 ∧
    Held.owned 0x53 (button 1 0) = true ∧ (button 1 0).frame.payload = [0x01, 0] ∧
    hall.definedGroup 31 = none ∧
    ((hall.setGroup 31 { defn := some { horn := none, firstOut := false, settle := 0 } }).definedGroup 31) = some 31 := by
  decide +kernel

theorem test_Button_settled (kind target : Byte) : (withB (button kind target) { hall with settings := {} }).flowSettled :=
  settled_of _ (.inl rfl) (.inr ⟨rfl, rfl⟩) rfl

theorem test_ResetOfAGroup :
    let s := (hall.setWindow 0 { hall.window 0 with state := .slow, mark := true }).setGroup 0
      { hall.group 0 with state := .captured, foWindow := some 0, foPoint := some 0 }
    s.definedGroup 0 = some 0 ∧ (s.group 0).foWindow = some 0 ∧ (s.window 0).state = .slow ∧ (hall.group 0).foWindow = none ∧
    Held.owned 0x53 (button 2 0) = true ∧ (button 2 0).frame.payload = [0x02, 0] := by decide +kernel

theorem test_SilenceOfAHorn :
    let s := hall.setHorn 3 { state := .sounding, sound := .pulsed, fastCount := 1 }
    (s.horn 3).state = .sounding ∧ (hall.horn 3).state = .quiet ∧ (3 : Byte).toNat = (3 : Fin 4).val ∧
    Held.owned 0x53 (button 3 3) = true ∧ (button 3 3).frame.payload = [0x03, 3] := by decide +kernel

theorem test_LampTestShowsEveryWindow :
    let on : State := { hall with ann := { hall.ann with lampTest := true, lampTimer := some 0 } }
    hall.ann.lampTest = false ∧ on.ann.lampTest = true ∧ on.ann.lampTimer = some 0 ∧ (button 4 9).frame.payload = [0x04, 9] ∧
    (button 5 9).frame.payload = [0x05, 9] ∧ Held.owned 0x53 (button 4 9) = true ∧
    Held.owned 0x53 (button 5 9) = true := by decide +kernel

theorem test_SingleEffectRows :
    let s := hall.setGroup 0 { hall.group 0 with state := .provisional, foWindow := some 0, foPoint := some 0, settle := some 0 }
    (s.group 0).settle = some 0 ∧ (s.group 0).state = .provisional ∧ (s.group 0).foPoint = some 0 ∧
    ({ s with ann := { s.ann with refresh := some 0, phase := some 0 }, time := { s.time with sync := some 0 },
              events := { s.events with batch := some 0 }, trip := { s.trip with refresh := some 0 } } : State).trip.refresh = some 0 ∧
    (button 6 0).frame.payload = [0x06, 0] ∧ hall.definedGroup 32 = none ∧ ¬ (4 : Byte).toNat < 4 := by decide +kernel

/-- A new window, one rewritten SLOW to AUTO_RESET, a FAST one moved between horns, and one cleared. -/
theorem test_WindowEntryIsWrittenAndCleared :
    let fast := hall.setWindow 1 { hall.window 1 with state := .fast, mark := true }
    readWindow [1, 1, 1, 0] = some (some { group := 1, sequence := .autoReset, eligible := false }) ∧
    (hall.group 1).defn ≠ none ∧
    (hall.window 191).defn = none ∧ (fast.window 1).state = .fast ∧ (fast.window 1).mark = true ∧
    hornOfGroup fast 0 = some 1 ∧ hornOfGroup fast 1 = some 2 ∧ windowInUse hall 1 = false ∧ windowInUse hall 191 = false ∧
    hall.mode ≠ .configuring ∧ (191 : BitVec 16).toNat = (191 : Fin 192).val := by decide +kernel

theorem test_GroupEntryIsWrittenAndCleared :
    let s := (hall.setWindow 1 { hall.window 1 with state := .fast }).setGroup 0 { hall.group 0 with state := .captured }
    readGroup [1, 3, 0, 50] = some (some { horn := some 3, firstOut := false, settle := 50 }) ∧ (s.group 0).state ≠ .armed ∧
    (s.group 31).defn = none ∧ s.canonical = true ∧
    ((windowsOf s 0).filter (fun w => decide ((s.window w).state = .fast))).length = 1 ∧
    groupInUse s 31 = false ∧ (31 : BitVec 16).toNat = (31 : Fin 32).val := by decide +kernel

theorem test_DriverHornAndPatternEntries : hall.ready 1 ∧ hall.ready 239 ∧ (∀ j : Fin 6, j ≠ 5 → hall.driver j ≠ some 239) ∧
    (∀ j : Fin 6, j ≠ 0 → hall.driver j ≠ some 1) ∧ (2 : Byte).toNat = 2 ∧ (200 : Byte).toNat = 200 ∧
    (5 : BitVec 16).toNat = (5 : Fin 6).val := ⟨(ready_of _ rfl rfl).1, (ready_of _ rfl rfl).2, by decide +kernel⟩

/-- An element in range with 8 inputs of weight 15, whose sum can be 120, and the four positions of a sum against its tests. -/
theorem test_VoteOfAnElement :
    let d : ElementDef := { element0 with
      inputs := (List.range 8).map (fun n => { point := Fin.ofNat 1024 n, weight := 15, sense := .onAlarm }), pickup := 120, dropout := 119 }
    let el : Element := { defn := some d, sum := 120, contrib := List.replicate 8 true }
    voteSum d.inputs el.contrib = 120 ∧ el.picked d = true ∧ Element.dropped d { el with sum := 119 } = true ∧
    (hall.element 0).picked { element0 with dropout := 0, pickup := 9 } = false ∧
    Element.dropped { element0 with dropout := 0, pickup := 9 } { hall.element 0 with sum := 1 } = false ∧ 1 ≤ d.inputs.length ∧
    d.inputs.length ≤ 8 ∧ (∀ i ∈ d.inputs, 1 ≤ i.weight ∧ i.weight ≤ 15) ∧ (d.inputs.map (fun i => (i.point, i.sense))).Nodup ∧
    d.targets.Nodup := by decide +kernel

/-- Element 0 lists point 0, in RUN and in CONFIGURING. -/
theorem test_Evaluation_delivery : hall.canonical = true ∧ hall.mode = .run ∧
    (hall.element 0).defn.map (fun d => d.lists 0) = some true ∧
    ({ hall with mode := .configuring } : State).canonical = true := by decide +kernel

/-- Element 0 in each state and delay mode of the clauses, picked at its pickup and dropped at its dropout. -/
theorem test_EvaluationMovesByTheDelayMode :
    let picked (m : DelayMode) (st : ElementState) : State := hall.setElement 0
      { hall.element 0 with defn := some { element0 with mode := m }, state := st, sum := 8 }
    let dropped (m : DelayMode) (st : ElementState) : State := hall.setElement 0
      { hall.element 0 with defn := some { element0 with mode := m }, state := st, sum := 7 }
    (∀ m ∈ [DelayMode.instant, .onDelay, .offDelay, .pulse], ∀ st ∈ [ElementState.idle, .timing, .operated, .holding, .spent],
      ((picked m st).element 0).picked { element0 with mode := m } = true ∧ ((picked m st).element 0).state = st ∧
      ((dropped m st).element 0).dropped { element0 with mode := m } = true ∧
      ((dropped m st).element 0).picked { element0 with mode := m } = false) ∧ ((picked .pulse .idle).element 0).pending = .none ∧
    (let el := { (dropped .instant .operated).element 0 with pending := .definition element0 }
     (((dropped .instant .operated).setElement 0 el).element 0).pending = .definition element0 ∧
     el.picked { element0 with mode := .instant } = false ∧ el.dropped { element0 with mode := .instant } = true) := by
  decide +kernel

theorem test_ElementDelayExpires :
    let at0 (m : DelayMode) (st : ElementState) (sum : Nat) (p : Pending) : Element :=
      { hall.element 0 with defn := some { element0 with mode := m }, state := st, sum := sum, timer := some 0, pending := p }
    ((hall.setElement 0 (at0 .onDelay .timing 8 .none)).element 0).timer = some 0 ∧
    (at0 .offDelay .holding 7 .none).state = .holding ∧
    (at0 .pulse .operated 7 .none).dropped { element0 with mode := .pulse } = true ∧
    (at0 .pulse .operated 8 .none).dropped { element0 with mode := .pulse } = false ∧
    (at0 .pulse .operated 8 (.definition element0)).pending = .definition element0 ∧
    (at0 .offDelay .holding 7 .clear).pending = .clear := by decide +kernel

theorem test_ElementEntryIsWrittenAndCleared :
    readElement [1, 1, 0, 0, 8, 0, 8, 7, 2, 1, 0, 5, 1, 0] = .define element0 ∧ elementKnown hall element0 = true ∧
    hall.frozen = false ∧
    (hall.element 0).state = .idle ∧ ((hall.setElement 0 { hall.element 0 with state := .timing }).element 0).state = .timing ∧
    (63 : BitVec 16).toNat = (63 : Fin 64).val ∧
    (element0.inputs.map (fun k => (k.point, k.sense))).Nodup ∧
    inheritedHeld (some element0) { hall.element 0 with held := [true] } { point := 0, weight := 1, sense := .onAlarm } = true ∧
    inheritedHeld (some element0) { hall.element 0 with held := [true] } { point := 0, weight := 8, sense := .onNormal } = false := by
  decide +kernel

theorem test_ForcedElementIsEvaluated : ({ hall with mode := .test } : State).mode = .test ∧ (hall.element 0).defn ≠ none ∧
    (hall.element 0).forced ≠ true ∧ hall.mode ≠ .test ∧ (63 : Byte).toNat = (63 : Fin 64).val := by decide +kernel

/-- Channel 0 at demands 0, 1 and 2 in each state. -/
theorem test_ChannelFollowsItsDemand :
    let c := hall.channel 0
    let put (st : ChannelState) (n : Nat) := (hall.setChannel 0 { c with state := st, demand := n }).channel 0
    c.defn = some { outputModule := 0, output := 0, lockout := true, window := some 3 } ∧ c.demand = 0 ∧ c.state = .normal ∧
    (put .locked 0).state = .locked ∧ (put .tripped 1).demand = 1 ∧ 1 < (put .tripped 2).demand ∧
    (hall.channel 15).defn = none ∧ (0 : Byte).toNat = (0 : Fin 16).val := by decide +kernel

theorem test_TripHandoverAwaitsItsConfirm :
    let s : State := { hall with trip := { hall.trip with waiting := [0] } }
    s.arbiterB = some .trip ∧ s.trip.waiting = 0 :: [] ∧ (s.outputModule 0).address = some 94 ∧ tripPairs s 0 = [(0, false)] ∧
    (hostedBy s 0).contains 0 = true ∧ (hostedBy s 0).contains 15 = false := by decide +kernel

theorem outputs_of_hall (s : State) (h : s.trip.channels = hall.trip.channels) (k : ∀ k, ((s.outputModule k).awaited.map (fun p => p.1)).Nodup) :
    s.outputsSound := by
  refine ⟨fun b c x y hb hc _ _ => ?_, k⟩
  have g : ∀ b x, (s.channel b).defn = some x → b = 0 := by
    intro b x hx
    by_contra hn
    simp [State.channel, h, hall, Table.get, hn] at hx
  rw [g b x hb, g c y hc]

theorem test_TripHandover_outputs : ({ hall with trip := { hall.trip with waiting := [0] } } : State).outputsSound :=
  outputs_of_hall _ rfl (by decide +kernel)

/-- A CONFIRM of an unknown source, malformed, stray and matching, with an awaited output. -/
theorem test_ConfirmFrameIsMatched :
    let s := hall.setOutputModule 0 { hall.outputModule 0 with awaitedSeq := some 7, deadline := .running 0, awaited := [(0, true)] }
    let t := s.setChannel 0 { s.channel 0 with confirmation := .awaiting }
    outputModuleAt s 95 = none ∧ outputModuleAt s 94 = some 0 ∧ parseConfirm [7, 17] = none ∧
    parseConfirm [7, 0] = some (7, []) ∧
    parseConfirm [8, 1, 0, 1] = some (8, [(0, 1)]) ∧ (s.outputModule 0).awaitedSeq = some 7 ∧
    (∃ i < (1 : Byte).toNat, 1 < ((([0, 2] : List Byte).getD (2 * i + 1) 0)).toNat) ∧ parseConfirm [7, 1, 0, 2] = none ∧
    reported [(0, 1)] 0 = some true ∧ reported [(0, 1), (0, 0)] 0 = some false ∧ reported [(15, 1)] 0 = none ∧ (0, true) ∈ (s.outputModule 0).awaited ∧ (t.channel 0).confirmation = .awaiting ∧
    Held.owned 0x62 (heldFrame 94 0x62 [7, 0] false) = true ∧ (s.outputModule 0).deadline = .running 0 := by decide +kernel

theorem test_ConfirmFrame_state :
    let s := withB (heldFrame 94 0x62 [7, 0] false) { hall with settings := {} }
    s.flowSettled ∧ s.outputsSound :=
  ⟨settled_of _ (.inl rfl) (.inr ⟨rfl, rfl⟩) rfl, outputs_of_hall _ rfl (by decide +kernel)⟩

theorem test_DeadlineExpiryMissesTheAwaited :
    let s := hall.setChannel 0 { hall.channel 0 with confirmation := .missing, state := .tripped, demand := 1 }
    (s.channel 0).confirmation = .missing ∧ (s.channel 0).state.asserted = true ∧ s.mode = .run ∧
    (hall.channel 0).confirmation ≠ .missing := by decide +kernel

theorem test_OutputEntryIsWrittenAndCleared :
    readOutput [1, 5] = some (some 1, 5) ∧ readOutput [239, 100] = some (some 239, 100) ∧
    readOutput [255, 20] = some (none, 20) ∧
    hostsAsserted hall 0 = false ∧ outputAddressTaken hall 0 (some 94) = false ∧ (hall.outputModule 0).address = some 94 ∧
    (hall.outputModule 7).address = none ∧ hostedBy hall 7 = [] ∧ hostedBy hall 0 ≠ [] ∧
    (7 : BitVec 16).toNat = (7 : Fin 8).val := by
  decide +kernel

theorem test_ChannelEntryIsWrittenAndCleared :
    readChannel [1, 0, 15, 0, 255] = some (some { outputModule := 0, output := 15, lockout := false, window := none }) ∧
    outputTaken hall 0 { outputModule := 0, output := 15, lockout := false, window := none } = false ∧
    windowFull hall (fun w => channelNames hall w 0) none = false ∧ (hall.channel 0).state.asserted = false ∧
    (hall.channel 15).defn = none ∧ (∀ e, elementTargets hall 15 e = false) ∧
    (∀ e, elementTargets ({ hall with elements := [] } : State) 0 e = false) ∧
    (15 : BitVec 16).toNat = (15 : Fin 16).val := by decide +kernel

/-- A CMD frame with a listed command, with an unlisted one, from source 240, and one that finds a REPLY on wait. -/
theorem test_CmdFrameRunsItsCommand :
    commandPayload (.setModeRun 1) = some (1, [0x10, 0x01]) ∧ Held.owned 0x31 (heldFrame 1 0x31 [0x10, 0x01] false) = true ∧
    Instr.unknownPayload [0x05] = true ∧ 239 < (heldFrame 240 0x31 [] false).frame.src.toNat ∧
    ({ hall with reply := some { dest := 1, payload := [] } } : State).reply ≠ none := by decide +kernel

theorem test_CmdFrame_settled : (withA (heldFrame 1 0x31 [0x10, 0x01] false) { hall with settings := {} }).flowSettled :=
  settled_of _ (.inr ⟨rfl, rfl⟩) (.inl rfl) rfl

/-- Numbers that name no group, horn, channel or element, and CMD frames with a wrong length, table and value. -/
theorem test_RefusedCommandsChangeNothing : hall.ready 1 ∧ hall.ready 239 ∧
    commandPayload (.readStatus 1 2) = some (1, 0x40 :: [2]) ∧
    hall.definedGroup 2 = none ∧ hall.definedGroup 32 = none ∧ 3 < (4 : Byte).toNat ∧
    (∀ c : Fin 16, c.val = (15 : Byte).toNat → (hall.channel c).defn = none) ∧
    (∀ e : Fin 64, e.val = (63 : Byte).toNat → (hall.element e).defn = none) ∧
    (∀ payload : List Byte, payload ∈ ([[], [0x11, 0], [0x10], [0x31, 0], [0x03, 0, 0], [0x02, 0x0B, 0, 0], [0x01, 0x0A, 0, 0, 0], [0x10, 3],
      [0x23, 2], [0x31, 0, 2]] : List (List Byte)) → Held.owned 0x31 (heldFrame 1 0x31 payload false) = true) ∧
    (0x05 : Byte) ∉ [0x01, 0x02, 0x03, 0x04, 0x10, 0x11, 0x12, 0x20, 0x21, 0x22, 0x23, 0x30, 0x31, (0x40 : Byte)] :=
  ⟨(ready_of _ rfl rfl).1, (ready_of _ rfl rfl).2, by decide +kernel⟩

theorem test_DefinitionsRoundTrip : Settings.inRange {} ∧ element0.inRange ∧ point0.inRange ∧
    GroupDef.inRange { horn := none, firstOut := false, settle := 50 } ∧
    ModuleDef.inRange { address := 239, channels := 64, supervision := 2000, window := none } := by
  unfold Settings.inRange ElementDef.inRange PointDef.inRange GroupDef.inRange ModuleDef.inRange; decide +kernel

theorem test_ReadsReturnTheState : (1023 : BitVec 16).toNat < 1024 ∧ 1024 ≤ (1024 : BitVec 16).toNat ∧
    0x0A < (0x0B : Byte).toNat ∧
    1 < (2 : Byte).toNat := by decide +kernel

theorem test_SettingsAreWrittenAndCleared :
    readSettings [1, 0x03, 0xE8, 8, 7, 2, 1, 8, 100, 0x02, 0x58, 0] =
      some { highA := 8, lowA := 7, highB := 2, lowB := 1, batchLevel := 8, batchTime := 100, syncLimit := 600, systemWindow := some 0 } ∧
    windowKnown hall (some 0) = true ∧ hall.canonical = true ∧
    ((hall.setChannel 0 { hall.channel 0 with confirmation := .missing }).channel 0).confirmation = .missing := by decide +kernel

/-- A point an element lists, a window in use, a group that a window names, a hosted channel, asserted or not, a targeted channel,
and a window with 32 sources. -/
theorem test_EntryChecksComeInOrder :
    let s : State := { hall with mode := .configuring, points := (List.range 32).map (fun n => (Fin.ofNat 1024 (n + 8), { defn := some point0 })) }
    elementLists hall 0 0 = true ∧ windowInUse hall 0 = true ∧ (hall.window 0).defn.isSome = true ∧
    (hostedBy hall 0).contains 0 = true ∧
    hostsAsserted hall 0 = false ∧ elementTargets hall 0 0 = true ∧ (hall.channel 0).state.asserted = false ∧
    ((hall.setChannel 0 { hall.channel 0 with state := .tripped }).channel 0).state.asserted = true ∧
    ordinarySources s 0 = 32 ∧ pointNames s 0 0 = false ∧
    readPoint [1, 0, 0, 0, 2, 0, 0] = some (some point0) := by decide +kernel

/-- A field one step outside its values for each fixed entry, and entries of an element with each fault, in the order of R115. -/
theorem test_EntryChecks_range :
    settingsBytesOut [1, 3, 232, 6, 6, 6, 3, 4, 20, 0, 60, 255] = true ∧
    settingsBytesOut [1, 3, 232, 6, 5, 6, 3, 4, 20, 0, 60, 255] = false ∧
    moduleBytesOut [1, 32, 65, 0, 10, 255] = true ∧ moduleBytesOut [0, 32, 65, 0, 10, 255] = false ∧
    pointBytesOut [1, 0, 0, 192, 0, 0, 0] = true ∧ pointBytesOut [1, 0, 0, 0, 1, 0, 0] = true ∧
    windowBytesOut [1, 32, 0, 0] = true ∧ groupBytesOut [1, 4, 0, 50] = true ∧ driverBytesOut [240] = true ∧
    hornBytesOut [2] = true ∧ patternBytesOut [1, 1] = true ∧ outputBytesOut [255, 4] = true ∧
    channelBytesOut [1, 8, 0, 0, 255] = true ∧
    readElement ([1, 1] ++ [0, 0, 8, 0] ++ [8, 7, 2, 3, 0, 1] ++ [1, 0]) =
      .define { element0 with mode := .pulse, delay := 1 } ∧
    elementBytesOut 1 ([0, 0, 8, 0] ++ [8, 7, 2, 3, 0, 0] ++ [1, 0]) = true ∧
    elementBytesOut 1 ([0, 0, 8, 0] ++ [8, 7, 2, 3, 0, 1] ++ [2, 0, 0]) = true ∧
    elementBytesOut 1 ([4, 0, 8, 0] ++ [8, 7, 2, 3, 0, 1] ++ [1, 0]) = true ∧
    elementBytesOut 2 ([0, 0, 8, 0] ++ [0, 0, 1, 0] ++ [8, 7, 2, 3, 0, 1] ++ [1, 0]) = true := by decide +kernel

/-- Entries that name what another entry holds, what is undefined, or a window with 32 sources. -/
theorem test_EntryChecks_references :
    let named (w : Fin 192) : List (Fin 1024 × Point) :=
      (List.range 32).map (fun n => (Fin.ofNat 1024 (n + 8), { defn := some { point0 with window := some w } }))
    let s : State := { hall with points := named 1 }
    let c : State := { s with mode := .configuring }
    readModule [1, 32, 1, 0, 10, 1] = some (some { address := 32, channels := 1, supervision := 10, window := some 1 }) ∧
    (c.inputModule 0).defn.isSome = true ∧ moduleAddressTaken c 15 33 = false ∧ moduleNames c 1 15 = false ∧
    32 ≤ ordinarySources c 1 ∧ 32 ≤ ordinarySources s 1 ∧ c.canonical = true ∧ (s.window 1).defn ≠ none ∧
    pointPlaced s 0 = true ∧ pointNames s 1 0 = false ∧
    (s.window 191).defn = none ∧ (s.group 31).defn = none ∧ readDriver [50] = some (some 50) ∧ s.driver 0 = some 50 ∧
    readOutput [94, 5] = some (some 94, 5) ∧ (s.outputModule 0).address = some 94 ∧ (s.outputModule 7).address = none ∧
    (s.point 1023).defn = none ∧ readChannel [1, 0, 0, 0, 1] =
      some (some { outputModule := 0, output := 0, lockout := false, window := some 1 }) ∧
    (s.channel 0).defn.isSome = true ∧ channelNames s 1 0 = false ∧ channelNames s 1 15 = false ∧
    outputTaken s 0 { outputModule := 0, output := 0, lockout := false, window := some 1 } = false := by decide +kernel

/-- Point 4 stands just past the four channels of its module, in `hall` and in the states above, which share its modules. -/
theorem test_EntryChecks_unplaced (x : ModuleDef) (h : (hall.inputModule (moduleOf 4)).defn = some x) :
    x.channels ≤ (4 : Fin 1024).val % 64 := by
  have known : (hall.inputModule (moduleOf 4)).defn.map (fun d => d.channels) = some 4 := by decide +kernel
  rw [h] at known
  exact (Option.some.inj known).le

/-- A consistent part, and parts that fail each item of R180, in order. -/
theorem test_SetModeRunEntersService :
    let c : State := { hall with mode := .configuring }
    let bare : State := { c with points := [], elements := [], modules := [], trip := { c.trip with channels := [] } }
    consistencyFailure c = none ∧ c.ready 1 ∧ c.canonical = true ∧
    [{ c with modules := [] }, { c with points := [] }, { c with trip := { c.trip with channels := [] } },
      { c with elements := [], trip := { c.trip with outputs := [] } }, { c with ann := { c.ann with windows := [] } },
      { c with points := [], elements := [], ann := { c.ann with windows := [] } },
      { c with points := [], elements := [], modules := [], ann := { c.ann with windows := [] } },
      { bare with settings := { c.settings with systemWindow := some 5 } },
      { bare with ann := { c.ann with groups := [] } }].map consistencyFailure =
    [some (.point, 0), some (.element, 0), some (.element, 0), some (.channel, 0), some (.point, 0), some (.module, 0),
      some (.channel, 0), some (.settings, 0), some (.window, 0)] :=
  ⟨by decide +kernel, (ready_of _ rfl rfl).1, by decide +kernel, by decide +kernel⟩

theorem test_SetModeRun_sound : ({ hall with mode := .configuring } : State).windowsSound ∧
    ({ hall with mode := .configuring } : State).announcedDerived :=
  ⟨⟨fun _ => by decide +kernel, fun h => absurd rfl h⟩, fun p _ _ =>
    ⟨fun _ => (by decide +kernel : ∀ p : Fin 1024, (hall.point p).announced = .normal) p, fun h => absurd rfl h⟩⟩

theorem test_TestIsEnteredAndLeft : hall.mode = .run ∧ (∀ c, (hall.channel c).state.asserted = false) ∧
    (∃ c, ((hall.setChannel 0 { hall.channel 0 with state := .tripped }).channel c).state.asserted = true) ∧
    ({ hall with mode := .test } : State).ready 1 := ⟨rfl, by decide +kernel, ⟨0, by decide +kernel⟩, (ready_of _ rfl rfl).1⟩

theorem test_SetModeConfiguringReturnsToRest : hall.mode ≠ .configuring ∧ hall.frozen = false ∧
    ({ hall with frozen := true } : State).frozen = true ∧
    ((hall.setElement 0 { hall.element 0 with pending := .clear, state := .timing }).element 0).pending = .clear := by decide +kernel

theorem test_FrozenProtectionIsKept : ({ hall with frozen := true, elements := [] } : State).freezeSound ∧
    (∃ e, ((hall.setElement 0 { hall.element 0 with pending := .clear }).element e).pending ≠ .none) ∧
    ∀ e, (hall.element e).pending = .none :=
  ⟨fun _ => ⟨by decide +kernel, fun _ => rfl⟩, ⟨0, by decide +kernel⟩, by decide +kernel⟩

theorem test_AnnunciationRestartReturnsTheAlarms : hall.mode ≠ .configuring ∧ hall.ready 1 ∧ hall.ready 239 :=
  ⟨by decide +kernel, (ready_of _ rfl rfl).1, (ready_of _ rfl rfl).2⟩

/-- A part in RUN with nothing defined and a command on wait. -/
def calm : State := { State.reset with mode := .run, pending := [.setModeTest 1] }

/-- The hypotheses of the statements on what every step keeps are met in RUN, where the step then enters TEST. -/
theorem test_EveryStepKeeps : calm.canonical = true ∧ calm.flowSettled ∧ calm.queueSound ∧ calm.waitingSound ∧
    calm.conditionsDerived ∧ calm.announcedDerived ∧ calm.windowsSound ∧ calm.patternsDerived ∧ calm.hornsSound ∧
    calm.groupsSound ∧ calm.sumsCurrent ∧ calm.channelsSound ∧ calm.outputsSound ∧ calm.linesSound ∧ calm.freezeSound ∧
    step calm = .next (after (.setModeTest 1) { calm with pending := [] }) ∧
    (after (.setModeTest 1) { calm with pending := [] }).mode = .test := by
  have he : ∀ e, calm.element e = {} := fun _ => rfl
  have hc : ∀ c, calm.channel c = {} := fun _ => rfl
  have hp : ∀ p, calm.point p = {} := fun _ => rfl
  have hw : ∀ w, calm.window w = {} := fun _ => rfl
  have hg : ∀ g, calm.group g = {} := fun _ => rfl
  refine ⟨by decide +kernel, settled_of _ (.inl rfl) (.inl rfl) rfl, ?_, ?_, ?_, announced_of_none _ rfl, ?_, fun _ => rfl,
    fun h => ?_, ⟨rfl, fun g => ?_⟩, ⟨fun _ _ => rfl, fun e d h => ?_⟩, fun c d h => ?_, ⟨fun b c x y h => ?_, fun k => ?_⟩,
    fun _ k => ?_, fun h => ?_, rfl, rfl⟩
  · exact ⟨by decide, by decide, by decide, by decide, fun i r h => by simp [calm, State.reset, State.coldReset] at h⟩
  · simp [State.waitingSound, calm, State.reset, State.coldReset]
  · intro p d h; simp [hp] at h
  · exact ⟨fun h => by simp [calm] at h, fun _ w h => by simp [hw] at h⟩
  · exact ⟨fun _ => rfl, fun _ => rfl⟩
  · simp [Group.sound, hg]
  · simp [he] at h
  · simp [hc] at h
  · simp [hc] at h
  · exact List.nodup_nil
  · have : calm.bktDrivenLow k = false := by revert k; decide +kernel
    simp [this, hc, ChannelState.asserted]
  · simp [calm, State.reset, State.coldReset] at h

/-- The hall in RUN with window 0 in FAST and first-out of its group, and element 0 forced, so that channel 0 is TRIPPED. -/
def lit : State :=
  { evaluateElement .moves 0 (activate 0 (some (0, 5)) (hall.setElement 0
      { hall.element 0 with defn := some { element0 with mode := .instant }, forced := true })) with
    pending := [.groupAck 1 0] }

/-- Counts and marks above 0, in a state that meets the invariants they rest on, and a step that changes them. -/
theorem test_EveryStep_counts : lit.canonical = true ∧ lit.windowsSound ∧ lit.groupsSound ∧ lit.groupsKnown ∧ lit.fastCounted ∧
    lit.marksSound ∧ (lit.horn 1).fastCount = 1 ∧ (lit.window 0).mark = true ∧
    step lit = .next (after (.groupAck 1 0) { lit with pending := [] }) := by
  refine ⟨by decide +kernel, ⟨fun h => absurd h (by decide +kernel), fun _ => by decide +kernel⟩, ⟨by decide +kernel, ?_⟩,
    fun _ w d h => ?_, by unfold State.fastCounted; decide +kernel, ⟨by decide +kernel, fun g w h => ?_⟩, by decide +kernel,
    by decide +kernel, rfl⟩
  · unfold Group.sound; decide +kernel
  · exact (by decide +kernel : ∀ w : Fin 192, ∀ d ∈ (lit.window w).defn, (lit.group d.group).defn ≠ none) w d h
  · have named : (lit.window w).defn.map (fun d => d.group) = some g :=
      (by decide +kernel : ∀ g : Fin 32, ∀ w ∈ (lit.group g).foWindow, (lit.window w).defn.map (fun d => d.group) = some g) g w h
    exact Option.map_eq_some_iff.mp named

/-- The part in TEST with a forced element that has tripped its channel, and channel 0 MISSING behind a PASSED deadline. -/
theorem test_forced_and_missing : ({ lit with mode := .test } : State).canonical = true ∧ ({ lit with mode := .test } : State).ready 1 ∧
    (lit.element 0).defn.isSome = true ∧ (lit.element 0).forced = true ∧ (lit.element 1).forced = false ∧
    (let s := (hall.setChannel 0 { hall.channel 0 with confirmation := .missing }).setOutputModule 0
       { hall.outputModule 0 with deadline := .passed }
     s.canonical = true ∧ (s.outputModule 0).deadline = .passed ∧ (s.outputModule 0).address = some 94 ∧
       (s.channel 0).confirmation = .missing ∧ (s.channel 0).state.asserted = false) :=
  ⟨by decide +kernel, (ready_of _ rfl rfl).1, by decide +kernel, by decide +kernel, by decide +kernel, by decide +kernel⟩

/-- A demand above 0 in a state that meets the invariants it rests on. -/
theorem test_EveryStep_demand : lit.channelsSound ∧ lit.targetsSound ∧ lit.demandCounted ∧ (lit.channel 0).demand = 1 := by
  refine ⟨fun c d h => ?_, ⟨fun e d h => ?_, by decide +kernel⟩, by unfold State.demandCounted; decide +kernel, by decide +kernel⟩
  · exact (by decide +kernel : ∀ c : Fin 16, ∀ d ∈ (lit.channel c).defn,
      ((lit.channel c).state = .tripped ↔ 0 < (lit.channel c).demand) ∧ ((lit.channel c).state = .locked → d.lockout = true)) c d h
  · have none (e : Fin 64) : (lit.element e).pending = .none :=
      (by decide +kernel : ∀ e : Fin 64, (lit.element e).pending = .none) e
    rcases h with h | h
    · exact (by decide +kernel : ∀ e : Fin 64, ∀ d ∈ (lit.element e).defn, d.targets ≠ [] ∧ d.targets.Nodup ∧
        (lit.mode ≠ .configuring → ∀ c ∈ d.targets, (lit.channel c).defn ≠ Option.none)) e d h
    · rw [none e] at h; cases h

end Sys2Proof.Tests
end

/-! The order of the reports of a frame and their expansion into transitions (R33, R36). -/

namespace Sys2Proof.Machine

/-! ### The order is the library's insertion sort under a total, transitive relation -/

/-- `a` may stand before `b` among the ordered reports: nothing of `b`'s age and channel puts it first. -/
abbrev Report.inOrder (a b : Report) : Prop := b.before a = false

theorem Report.inOrder_iff (a b : Report) :
    a.inOrder b ↔ b.sortAge < a.sortAge ∨ (a.sortAge = b.sortAge ∧ a.channel ≤ b.channel) := by
  simp only [Report.inOrder, Report.before, Bool.or_eq_false_iff, decide_eq_false_iff_not]
  omega

theorem Report.inOrder_total : Std.Total Report.inOrder where
  total a b := by
    simp only [Report.inOrder_iff]
    omega

theorem Report.inOrder_trans : IsTrans Report Report.inOrder where
  trans a b c hab hbc := by
    simp only [Report.inOrder_iff] at *
    omega

theorem insertReport_eq_orderedInsert (r : Report) (rs : List Report) :
    insertReport r rs = rs.orderedInsert Report.inOrder r := by
  induction rs with
  | nil => rfl
  | cons x t ih => cases h : x.before r <;> simp [insertReport, Report.inOrder, h, ih]

theorem orderReports_eq_insertionSort (rs : List Report) : orderReports rs = rs.insertionSort Report.inOrder := by
  induction rs with
  | nil => rfl
  | cons r t ih =>
    calc orderReports (r :: t) = insertReport r (orderReports t) := rfl
      _ = (r :: t).insertionSort Report.inOrder := by rw [insertReport_eq_orderedInsert, ih, List.insertionSort_cons]

theorem orderReports_perm (rs : List Report) : (orderReports rs).Perm rs := by
  rw [orderReports_eq_insertionSort]
  exact List.perm_insertionSort _ rs

theorem orderReports_pairwise (rs : List Report) : (orderReports rs).Pairwise Report.inOrder := by
  rw [orderReports_eq_insertionSort]
  have := Report.inOrder_total
  have := Report.inOrder_trans
  exact List.pairwise_insertionSort _ rs

/-- The order is stable: reports that any two of which may stand in either order keep their frame order. They are a sublist of the
ordered frame, and as many as it holds of them. -/
theorem orderReports_filter (p : Report → Bool) (hp : ∀ a b, p a → p b → a.inOrder b) (rs : List Report) :
    (orderReports rs).filter p = rs.filter p := by
  have tied : (rs.filter p).Pairwise Report.inOrder :=
    List.pairwise_of_forall_mem_list fun a ha b hb => hp a b (List.mem_filter.mp ha).2 (List.mem_filter.mp hb).2
  have kept : (rs.filter p).Sublist (orderReports rs) := by
    rw [orderReports_eq_insertionSort]
    exact List.sublist_insertionSort tied List.filter_sublist
  have among : (rs.filter p).Sublist ((orderReports rs).filter p) := by simpa using kept.filter p
  exact (among.eq_of_length ((orderReports_perm rs).filter p).length_eq.symm).symm

/-! ### Pulse pairs, then the net change -/

theorem length_flatten_replicate_pair {α : Type} (x y : α) (n : Nat) :
    (List.replicate n [x, y]).flatten.length = 2 * n := by
  simp [Nat.mul_comm]

theorem getElem?_flatten_replicate_pair {α : Type} (x y : α) (n i : Nat) (hi : i < 2 * n) :
    (List.replicate n [x, y]).flatten[i]? = some (if i % 2 = 0 then x else y) := by
  induction n generalizing i with
  | zero => omega
  | succ n ih =>
    rw [List.replicate_succ, List.flatten_cons]
    match i with
    | 0 => rfl
    | 1 => rfl
    | j + 2 => simpa using ih j (by omega)

theorem length_transitionsOf (before : Bool) (r : Report) (st : Stamp) :
    (transitionsOf before r st).length = 2 * r.pulses + (if r.contact = before then 0 else 1) := by
  rw [transitionsOf, List.length_append, length_flatten_replicate_pair]
  split <;> rfl

theorem transitionsOf_pulse (before : Bool) (r : Report) (st : Stamp) (i : Nat) (hi : i < 2 * r.pulses) :
    (transitionsOf before r st)[i]? =
      some { contact := if i % 2 = 0 then !before else before, stamp := { st with approx := true } } := by
  rw [transitionsOf, List.getElem?_append_left (by rwa [length_flatten_replicate_pair]),
    getElem?_flatten_replicate_pair _ _ _ _ hi]
  split <;> rfl

theorem transitionsOf_net_change (before : Bool) (r : Report) (st : Stamp) (i : Nat) (tr : Transition)
    (hi : 2 * r.pulses ≤ i) (h : (transitionsOf before r st)[i]? = some tr) : tr = { contact := r.contact, stamp := st } := by
  rw [transitionsOf, List.getElem?_append_right (by rwa [length_flatten_replicate_pair])] at h
  have member := List.mem_of_getElem? h
  split at member
  · cases member
  · exact List.mem_singleton.mp member

/-- Settles O16: the order is a stable sort by a total relation, and the pulse pairs and the net change are read place by place. -/
theorem reportsAreOrderedAndExpanded : Obligations.ReportsAreOrderedAndExpanded := by
  refine ⟨fun rs => ⟨orderReports_perm rs, ?sorted, fun a c => ?stable⟩, fun before r st =>
    ⟨length_transitionsOf before r st, fun i tr h => ⟨fun hi => ?pulse, fun hi => ?net⟩⟩⟩
  case sorted => exact (orderReports_pairwise rs).imp fun {a b} => (Report.inOrder_iff a b).mp
  case stable =>
    refine orderReports_filter _ (fun x y hx hy => (Report.inOrder_iff x y).mpr (.inr ?_)) rs
    obtain ⟨ageX, channelX⟩ := of_decide_eq_true hx
    obtain ⟨ageY, channelY⟩ := of_decide_eq_true hy
    exact ⟨ageX.trans ageY.symm, (channelX.trans channelY.symm).le⟩
  case pulse =>
    obtain rfl := Option.some.inj ((transitionsOf_pulse before r st i hi).symm.trans h)
    exact ⟨rfl, rfl⟩
  case net =>
    obtain rfl := transitionsOf_net_change before r st i tr hi h
    exact ⟨rfl, rfl⟩

end Sys2Proof.Machine

/-! The event time of a report and the floor that it raises (R34, R35, R52). -/

namespace Sys2Proof.Machine

/-! ### The stamp -/

/-- An age beyond the receipt time dates the report at 0: truncated subtraction is the bound of R52. -/
theorem rawTime_eq (trx age : Nat) :
    rawTime trx age = if age = 65535 then trx else if age ≤ trx then trx - age else 0 := by
  unfold rawTime unknownAge
  split
  · rfl
  · split
    · rfl
    · next later => exact Nat.sub_eq_zero_of_le (Nat.le_of_not_le later)

theorem stampReport_time (trx age floor : Nat) : (stampReport trx age floor).time = max (rawTime trx age) floor := rfl

theorem stampReport_approx_iff (trx age floor : Nat) : (stampReport trx age floor).approx = true ↔ age = 65535 :=
  decide_eq_true_iff

theorem stampReport_adjusted_iff (trx age floor : Nat) :
    (stampReport trx age floor).adjusted = true ↔ (age ≠ 65535 ∧ trx < age) ∨ rawTime trx age < floor := by
  simp only [stampReport, Bool.or_eq_true, decide_eq_true_eq]
  rfl

/-! ### The floor -/

theorem State.onlyPoints.inputModule_eq {s t : State} (h : s.onlyPoints t) (m : Fin 16) :
    t.inputModule m = s.inputModule m := by
  rw [h]
  rfl

/-- Once a report has raised its module's floor, its quality and its transitions reach no module. -/
theorem takeReport_stamped_touches {m : Fin 16} {r : Report} {s : State} {p : Fin 1024} (trx : Nat)
    (h : reportPoint s m r = some p) :
    (s.setInputModule m { s.inputModule m with
      floor := (stampReport trx r.age (s.inputModule m).floor).time }).onlyPoints (takeReport m trx r s) := by
  have delivered := deliverQuality_touches p r.quality (stampReport trx r.age (s.inputModule m).floor) true
    (s.setInputModule m { s.inputModule m with floor := (stampReport trx r.age (s.inputModule m).floor).time })
  simp only [takeReport, h]
  split
  case h_1 => exact delivered
  case h_2 =>
    exact delivered.trans (State.each_rel State.onlyPoints.refl State.onlyPoints.trans (applyTransition_touches p) _ _)

theorem takeReport_ignored {m : Fin 16} {r : Report} {s : State} (trx : Nat) (h : reportPoint s m r = none) :
    takeReport m trx r s =
      s.setInputModule m { s.inputModule m with ignored := saturate (s.inputModule m).ignored } := by
  simp only [takeReport, h]

theorem takeReport_floor_of_stamped {m : Fin 16} {r : Report} {s : State} {p : Fin 1024} (trx : Nat)
    (h : reportPoint s m r = some p) :
    ((takeReport m trx r s).inputModule m).floor = (stampReport trx r.age (s.inputModule m).floor).time := by
  rw [(takeReport_stamped_touches trx h).inputModule_eq, State.setInputModule_inputModule_self]

theorem takeReport_floor_of_ignored {m : Fin 16} {r : Report} {s : State} (trx : Nat) (h : reportPoint s m r = none) :
    ((takeReport m trx r s).inputModule m).floor = (s.inputModule m).floor := by
  rw [takeReport_ignored trx h, State.setInputModule_inputModule_self]

/-- Settles O15: the stamp is read field by field, and after the floor is raised nothing of the report touches the module table. -/
theorem eventTimeOfAReport : Obligations.EventTimeOfAReport := by
  refine ⟨fun trx age floor => ?stamp, fun m trx r s =>
    ⟨fun _ => takeReport_floor_of_stamped trx, takeReport_floor_of_ignored trx⟩⟩
  case stamp =>
    simp only [← rawTime_eq]
    exact ⟨stampReport_time trx age floor, stampReport_approx_iff trx age floor, stampReport_adjusted_iff trx age floor⟩

end Sys2Proof.Machine

/-! The contributions of an element's inputs, their weighted sum and the two tests on it (R102, R104). -/

namespace Sys2Proof.Machine

/-! ### Contributions -/

theorem contribution_of_good (policy : Policy) (i : ElementInput) {v : Point} (held : Bool) (good : v.quality = .good) :
    contribution policy i v held = decide (v.condition = i.sense.condition) := by
  simp only [contribution, good]

/-- Of a BAD point the policy alone decides, whatever its condition and the input's sense. -/
theorem contribution_of_bad (i : ElementInput) {v : Point} (held : Bool) (bad : v.quality = .bad) :
    contribution .badCounts i v held = true ∧ contribution .badIgnored i v held = false ∧
      contribution .badHolds i v held = held := by
  simp only [contribution, bad, and_self]

theorem Sense.eq_condition_iff (sense : Sense) (c : Condition) :
    c = sense.condition ↔ (sense = .onAlarm ∧ c = .alarm) ∨ (sense = .onNormal ∧ c = .normal) := by
  cases sense <;> simp [Sense.condition]

/-! ### The sum -/

theorem voteSum_nil (cs : List Bool) : voteSum [] cs = 0 := rfl

theorem voteSum_cons (i : ElementInput) (is : List ElementInput) (c : Bool) (cs : List Bool) :
    voteSum (i :: is) (c :: cs) = (if c then i.weight else 0) + voteSum is cs := by
  simp only [voteSum, List.zip_cons_cons, List.map_cons, List.sum_cons]

/-- R100 allows at most 8 inputs of weight at most 15, whatever contributions they have. -/
theorem ElementDef.inRange.voteSum_le {d : ElementDef} (h : d.inRange) (cs : List Bool) : voteSum d.inputs cs ≤ 120 := by
  obtain ⟨-, atMost8, weights, -⟩ := h
  calc voteSum d.inputs cs
    _ ≤ 15 * d.inputs.length := Machine.voteSum_le d.inputs cs fun i hi => (weights i hi).2
    _ ≤ 15 * 8 := Nat.mul_le_mul_left 15 atMost8

/-! ### The two tests -/

theorem Element.picked_iff (d : ElementDef) (el : Element) : el.picked d = true ↔ d.pickup ≤ el.sum ∨ el.forced = true := by
  simp only [Element.picked, Bool.or_eq_true, decide_eq_true_eq]

theorem Element.dropped_iff (d : ElementDef) (el : Element) :
    el.dropped d = true ↔ el.sum ≤ d.dropout ∧ el.forced = false := by
  simp only [Element.dropped, Bool.and_eq_true, decide_eq_true_eq, Bool.not_eq_true']

theorem ElementDef.inRange.dropout_lt_pickup {d : ElementDef} (h : d.inRange) : d.dropout < d.pickup := by
  obtain ⟨-, -, -, -, -, -, lt, -⟩ := h
  exact lt

/-- A force picks and never drops; without one, the sum cannot reach the pickup and stay within a lower dropout. -/
theorem Element.not_dropped_of_picked {d : ElementDef} {el : Element} (lt : d.dropout < d.pickup) (hp : el.picked d = true) :
    ¬ el.dropped d = true := by
  intro hd
  obtain ⟨low, notForced⟩ := (el.dropped_iff d).mp hd
  rcases (el.picked_iff d).mp hp with high | forced
  · omega
  · simp [forced] at notForced

/-- In the hysteresis band, where neither test holds, an element has no move (R104). -/
theorem Element.nextMove_of_neither {d : ElementDef} {el : Element} (hp : el.picked d = false) (hd : el.dropped d = false) :
    el.nextMove d = none := by
  simp [Element.nextMove, hp, hd]

theorem evaluateElement_of_no_move {taking : Taking} {e : Fin 64} {d : ElementDef} {s : State}
    (hdef : (s.element e).defn = some d) (hmove : (s.element e).nextMove d = none) : evaluateElement taking e s = s := by
  simp only [evaluateElement, hdef, hmove]

/-- Settles O35: the contributions case by case, the sum by its equations, and the tests as comparisons that the order of dropout and
pickup keeps apart. -/
theorem voteOfAnElement : Obligations.VoteOfAnElement := by
  refine ⟨fun policy i v held => ⟨fun good => ?active, contribution_of_bad i held⟩, voteSum_nil [], voteSum_cons, fun d el h =>
    ⟨h.voteSum_le el.contrib, el.picked_iff d, el.dropped_iff d, fun both => ?apart, fun e s hel hdef hp hd => ?band⟩⟩
  case active =>
    rw [contribution_of_good policy i held good, decide_eq_true_iff, Sense.eq_condition_iff]
  case apart =>
    obtain ⟨hp, hd⟩ := both
    exact Element.not_dropped_of_picked h.dropout_lt_pickup hp hd
  case band =>
    subst hel
    exact evaluateElement_of_no_move hdef (Element.nextMove_of_neither hp hd)

end Sys2Proof.Machine

/-! The acceptance and refusal of offered records: the head's wait and the bounds of the queue (R147, R149, R154). -/

namespace Sys2Proof.Machine

/-! ### The head record's wait -/

theorem startBatch_of_waited {s : State} {r : Record} {rest : List Record} (head : s.events.records = r :: rest)
    (waited : s.settings.batchTime ≤ s.time.ticks - r.acceptedAt) :
    startBatch s = { s with events := { s.events with batch := none, headWaited := true } } := by
  simp only [startBatch, head, Nat.sub_eq_zero_of_le waited, if_true]

theorem startBatch_of_waiting {s : State} {r : Record} {rest : List Record} (head : s.events.records = r :: rest)
    (waiting : s.time.ticks - r.acceptedAt < s.settings.batchTime) :
    startBatch s = { s with events := { s.events with
      batch := some (s.settings.batchTime - (s.time.ticks - r.acceptedAt)), headWaited := false } } := by
  simp only [startBatch, head, Nat.sub_ne_zero_of_lt waiting, if_false]

/-! ### Acceptance and the head's wait -/

theorem offer_of_room {o : Offer} {s : State} (h : s.mode ≠ .configuring)
    (l : s.events.records.length < classLimit o.cls) : offer o s = acceptRecord o s := by
  simp only [offer, h, l, if_true, if_false]

/-- The completed record at the tail, and the next sequence number taken, before any wait starts (R147). -/
def appendRecord (o : Offer) (s : State) : State :=
  { s with events := { s.events with records := s.events.records ++ [completeRecord o s],
                                     nextSeq := (s.events.nextSeq + 1) % 65536 } }

theorem acceptRecord_behind {o : Offer} {s : State} (h : s.events.records ≠ []) : acceptRecord o s = appendRecord o s := by
  simp only [acceptRecord, appendRecord, List.isEmpty_iff, h, if_false]

theorem acceptRecord_first {o : Offer} {s : State} (h : s.events.records = []) :
    acceptRecord o s = startBatch (appendRecord o s) := by
  simp only [acceptRecord, appendRecord, h, List.isEmpty_nil, if_true]

theorem appendRecord_first {o : Offer} {s : State} (h : s.events.records = []) :
    (appendRecord o s).events.records = [completeRecord o s] := by
  simp only [appendRecord, h, List.nil_append]

theorem acceptRecord_keeps_wait {o : Offer} {s : State} (h : s.events.records ≠ []) :
    (acceptRecord o s).events.batch = s.events.batch ∧ (acceptRecord o s).events.headWaited = s.events.headWaited := by
  rw [acceptRecord_behind h]
  exact ⟨rfl, rfl⟩

theorem acceptRecord_waits_no_time {o : Offer} {s : State} (h : s.events.records = []) (now : s.settings.batchTime = 0) :
    (acceptRecord o s).events.batch = none ∧ (acceptRecord o s).events.headWaited = true := by
  rw [acceptRecord_first h, startBatch_of_waited (appendRecord_first h) (now.trans_le (Nat.zero_le _))]
  exact ⟨rfl, rfl⟩

/-- The new head is accepted at this tick, so none of the batch time has gone by. -/
theorem acceptRecord_waits_batchTime {o : Offer} {s : State} (h : s.events.records = []) (later : 0 < s.settings.batchTime) :
    (acceptRecord o s).events.batch = some s.settings.batchTime ∧ (acceptRecord o s).events.headWaited = false := by
  have held : (appendRecord o s).time.ticks - (completeRecord o s).acceptedAt = 0 := Nat.sub_self s.time.ticks
  rw [acceptRecord_first h, startBatch_of_waiting (appendRecord_first h) (held.trans_lt later), held]
  exact ⟨rfl, rfl⟩

/-! ### The bounds of the queue -/

/-- The alarm-class records among `rs`, as R149 bounds them. -/
abbrev alarmRecords (rs : List Record) : List Record := rs.filter (fun r => decide (r.cls = .alarm))

theorem alarmRecords_append_alarm {rs : List Record} {r : Record} (h : r.cls = .alarm) :
    alarmRecords (rs ++ [r]) = alarmRecords rs ++ [r] := by
  simp [alarmRecords, h]

theorem alarmRecords_append_trip {rs : List Record} {r : Record} (h : r.cls = .trip) :
    alarmRecords (rs ++ [r]) = alarmRecords rs := by
  simp [alarmRecords, h]

theorem classLimit_le (c : RecClass) : classLimit c ≤ 512 := by
  cases c <;> decide

/-- An alarm record finds fewer than 480 records of either class; a trip record adds to no alarm record. -/
theorem alarmRecords_bounded_of_room {rs : List Record} {r : Record} (room : rs.length < classLimit r.cls)
    (alarms : (alarmRecords rs).length ≤ 480) : (alarmRecords (rs ++ [r])).length ≤ 480 := by
  cases cls : r.cls with
  | alarm =>
    have among : (alarmRecords rs).length ≤ rs.length := List.length_filter_le _ rs
    have few : rs.length < 480 := by rwa [cls] at room
    rw [alarmRecords_append_alarm cls, List.length_append, List.length_singleton]
    omega
  | trip => rwa [alarmRecords_append_trip cls]

theorem offer_keeps_bounds {o : Offer} {s : State} (h : s.mode ≠ .configuring) (held : s.events.records.length ≤ 512)
    (alarms : (alarmRecords s.events.records).length ≤ 480) :
    (offer o s).events.records.length ≤ 512 ∧ (alarmRecords (offer o s).events.records).length ≤ 480 := by
  rcases Nat.lt_or_ge s.events.records.length (classLimit o.cls) with room | full
  case inl =>
    obtain ⟨records, -, -⟩ := offer_accepts h room
    rw [records]
    refine ⟨?_, alarmRecords_bounded_of_room (r := completeRecord o s) room alarms⟩
    rw [List.length_append, List.length_singleton]
    exact room.trans_le (classLimit_le o.cls)
  case inr =>
    rw [offer_refuses h full]
    exact ⟨held, alarms⟩

/-- Settles O11: an offer is judged against `classLimit`; an accepted record is the head or stands behind one, and the bounds follow
from the room that its class was given. -/
theorem recordsAreAcceptedByClass : Obligations.RecordsAreAcceptedByClass := by
  intro o s inService
  refine ⟨fun (room : s.events.records.length < classLimit o.cls) => ?accepted, offer_refuses inService, offer_keeps_bounds inService⟩
  obtain ⟨records, nextSeq, dropped⟩ := offer_accepts inService room
  refine ⟨offer_touches o s, dropped, nextSeq, records, ?_⟩
  rw [offer_of_room inService room]
  exact ⟨acceptRecord_keeps_wait, acceptRecord_waits_no_time, acceptRecord_waits_batchTime⟩

end Sys2Proof.Machine

/-! The choices of the two arbiters, and the alternation state that each choice by turns leaves (R154, R169, R170). -/

namespace Sys2Proof.Machine

/-! ### The choice by turns -/

/-- A frame of the part's own and pass-through take turns while both wait; one that waits alone is chosen (R169, R170). -/
def byTurns {α : Type} (own forwarded : α) (ownWaits forwardedWaits : Prop) [Decidable ownWaits] [Decidable forwardedWaits]
    (last : Alternation) : Option α :=
  if ownWaits ∧ forwardedWaits then
    match last with
    | .passThrough => some own
    | .own => some forwarded
  else if ownWaits then some own
  else if forwardedWaits then some forwarded
  else none

section Turns

variable {α : Type} {own forwarded : α} {ownWaits forwardedWaits : Prop} [Decidable ownWaits] [Decidable forwardedWaits]
  {last : Alternation}

theorem byTurns_after_passThrough (ho : ownWaits) (hf : forwardedWaits) (h : last = .passThrough) :
    byTurns own forwarded ownWaits forwardedWaits last = some own := by
  simp only [byTurns, ho, hf, h, and_self, if_true]

theorem byTurns_after_own (ho : ownWaits) (hf : forwardedWaits) (h : last = .own) :
    byTurns own forwarded ownWaits forwardedWaits last = some forwarded := by
  simp only [byTurns, ho, hf, h, and_self, if_true]

theorem byTurns_own_alone (ho : ownWaits) (hf : ¬ forwardedWaits) :
    byTurns own forwarded ownWaits forwardedWaits last = some own := by
  simp only [byTurns, ho, hf, and_false, if_true, if_false]

theorem byTurns_forwarded_alone (ho : ¬ ownWaits) (hf : forwardedWaits) :
    byTurns own forwarded ownWaits forwardedWaits last = some forwarded := by
  simp only [byTurns, ho, hf, false_and, if_true, if_false]

theorem byTurns_of_none (ho : ¬ ownWaits) (hf : ¬ forwardedWaits) :
    byTurns own forwarded ownWaits forwardedWaits last = none := by
  simp only [byTurns, ho, hf, false_and, if_false]

/-- What is chosen by turns waits. -/
theorem waits_of_byTurns {c : α} (h : byTurns own forwarded ownWaits forwardedWaits last = some c) :
    c = own ∧ ownWaits ∨ c = forwarded ∧ forwardedWaits := by
  by_cases ho : ownWaits
  · by_cases hf : forwardedWaits
    · cases last with
      | passThrough => exact .inl ⟨Option.some.inj (h.symm.trans (byTurns_after_passThrough ho hf rfl)), ho⟩
      | own => exact .inr ⟨Option.some.inj (h.symm.trans (byTurns_after_own ho hf rfl)), hf⟩
    · exact .inl ⟨Option.some.inj (h.symm.trans (byTurns_own_alone ho hf)), ho⟩
  · by_cases hf : forwardedWaits
    · exact .inr ⟨Option.some.inj (h.symm.trans (byTurns_forwarded_alone ho hf)), hf⟩
    · cases h.symm.trans (byTurns_of_none ho hf)

end Turns

/-! ### The port A arbiter -/

theorem queueDue_iff (s : State) : queueDue s = true ↔ 0 < s.events.records.length ∧
    (s.settings.batchLevel ≤ s.events.records.length ∨ s.events.headWaited = true) := by
  simp [queueDue, List.length_pos_iff]

/-- The turns of EVENT and pass-through, once no REPLY waits (R169). -/
abbrev turnsA (s : State) : Option ChoiceA :=
  byTurns .event .passThrough (queueDue s = true) ((s.passThrough .A).isSome = true) s.portA.alt

theorem arbiterA_eq (s : State) : s.arbiterA =
    if s.portA.tx.isSome = true ∨ s.portA.paused = true then none
    else if s.reply.isSome then some .reply
    else turnsA s := by
  cases last : s.portA.alt <;> simp only [State.arbiterA, turnsA, byTurns, last, Bool.or_eq_true, Bool.and_eq_true]

theorem arbiterA_of_held {s : State} (h : s.portA.tx.isSome = true ∨ s.portA.paused = true) : s.arbiterA = none := by
  rw [arbiterA_eq, if_pos h]

theorem arbiterA_of_reply {s : State} (free : s.portA.tx = none) (unpaused : s.portA.paused = false)
    (waits : s.reply.isSome = true) : s.arbiterA = some .reply := by
  simp [arbiterA_eq, free, unpaused, waits]

theorem arbiterA_of_no_reply {s : State} (free : s.portA.tx = none) (unpaused : s.portA.paused = false)
    (noReply : s.reply = none) : s.arbiterA = turnsA s := by
  simp [arbiterA_eq, free, unpaused, noReply]

theorem turnsA_of_chosen {s : State} {c : ChoiceA} (h : s.arbiterA = some c) (other : c ≠ .reply) : turnsA s = some c := by
  rw [arbiterA_eq] at h
  split at h
  · cases h
  · split at h
    · exact absurd (Option.some.inj h).symm other
    · exact h

/-! ### The port B arbiter -/

/-- The turns of WINDOW and pass-through, once neither TRIP nor PHASE waits (R170). -/
abbrev turnsB (s : State) : Option ChoiceB :=
  byTurns .window .passThrough (s.ann.waiting ≠ []) ((s.passThrough .B).isSome = true) s.portB.alt

theorem arbiterB_eq (s : State) : s.arbiterB =
    if s.portB.tx.isSome = true then none
    else if s.trip.waiting ≠ [] then some .trip
    else if s.portB.paused = true then none
    else if s.ann.phaseWaiting = true then some .phase
    else turnsB s := by
  cases last : s.portB.alt <;>
    simp only [State.arbiterB, turnsB, byTurns, last, Bool.and_eq_true, Bool.not_eq_true', List.isEmpty_eq_false_iff]

theorem arbiterB_of_sending {s : State} (h : s.portB.tx.isSome = true) : s.arbiterB = none := by
  rw [arbiterB_eq, if_pos h]

theorem arbiterB_of_trip {s : State} (free : s.portB.tx = none) (trip : s.trip.waiting ≠ []) : s.arbiterB = some .trip := by
  simp [arbiterB_eq, free, trip]

theorem arbiterB_of_paused {s : State} (noTrip : s.trip.waiting = []) (paused : s.portB.paused = true) : s.arbiterB = none := by
  simp [arbiterB_eq, noTrip, paused]

theorem arbiterB_of_phase {s : State} (free : s.portB.tx = none) (noTrip : s.trip.waiting = [])
    (unpaused : s.portB.paused = false) (phase : s.ann.phaseWaiting = true) : s.arbiterB = some .phase := by
  simp [arbiterB_eq, free, noTrip, unpaused, phase]

theorem arbiterB_of_no_phase {s : State} (free : s.portB.tx = none) (noTrip : s.trip.waiting = [])
    (unpaused : s.portB.paused = false) (noPhase : s.ann.phaseWaiting = false) : s.arbiterB = turnsB s := by
  simp [arbiterB_eq, free, noTrip, unpaused, noPhase]

theorem turnsB_of_chosen {s : State} {c : ChoiceB} (h : s.arbiterB = some c) (notTrip : c ≠ .trip) (notPhase : c ≠ .phase) :
    turnsB s = some c := by
  rw [arbiterB_eq] at h
  split at h
  · cases h
  · split at h
    · exact absurd (Option.some.inj h).symm notTrip
    · split at h
      · cases h
      · split at h
        · exact absurd (Option.some.inj h).symm notPhase
        · exact h

/-! ### What is chosen has a frame to send -/

theorem waiting_of_arbiterB_window {s : State} (h : s.arbiterB = some .window) : s.ann.waiting ≠ [] := by
  rcases waits_of_byTurns (turnsB_of_chosen h (by decide) (by decide)) with ⟨-, waits⟩ | ⟨differ, -⟩
  · exact waits
  · cases differ

theorem passThrough_of_chosen {p : Port} {s : State} (h : s.choosesPassThrough p = true) : (s.passThrough p).isSome = true := by
  cases p with
  | A =>
    rcases waits_of_byTurns (turnsA_of_chosen (of_decide_eq_true h) (by decide)) with ⟨differ, -⟩ | ⟨-, waits⟩
    · cases differ
    · exact waits
  | B =>
    rcases waits_of_byTurns (turnsB_of_chosen (of_decide_eq_true h) (by decide) (by decide)) with ⟨differ, -⟩ | ⟨-, waits⟩
    · cases differ
    · exact waits

/-! ### The hand-over of a choice leaves it as the alternation state -/

theorem State.onlyEvents.portA_eq {s t : State} (h : s.onlyEvents t) : t.portA = s.portA := by
  rw [h]

theorem eventHandover_alt {s : State} (chosen : s.arbiterA = some .event) : (eventHandover s).portA.alt = .own := by
  rw [eventHandover, if_pos chosen, (removeEvents_touches _).portA_eq]
  rfl

/-- The chosen WINDOW frame has a driver to go to, since the waiting list holds only drivers with a present address (R72). -/
theorem windowHandover_alt {s : State} (sound : s.waitingSound) (chosen : s.arbiterB = some .window) :
    (windowHandover s).portB.alt = .own := by
  obtain ⟨d, rest, head⟩ := List.exists_cons_of_ne_nil (waiting_of_arbiterB_window chosen)
  obtain ⟨-, known, -, -⟩ := sound
  obtain ⟨a, address⟩ := Option.isSome_iff_exists.mp (known d (head ▸ List.mem_cons_self))
  simp only [windowHandover, chosen, head, address, if_true]
  rfl

theorem passThroughHandover_alt {p : Port} {s : State} (chosen : s.choosesPassThrough p = true) :
    ((passThroughHandover p s).port p).alt = .passThrough := by
  obtain ⟨h, first⟩ := Option.isSome_iff_exists.mp (passThrough_of_chosen chosen)
  simp only [passThroughHandover, chosen, first, if_true]
  cases p <;> rfl

/-- While RESETN is high, the answer of a row is the state that its operation gives (R186). -/
theorem eq_of_running {s t : State} {f : State → State} (high : s.resetLow = false) (h : running s f = .next t) : t = f s :=
  (Host.Outcome.next.inj ((running_high high f).symm.trans h)).symm

theorem exec_eventHandover (s : State) : exec .eventHandover s = running s eventHandover := rfl

theorem exec_windowHandover (s : State) : exec .windowHandover s = running s windowHandover := rfl

theorem exec_passThroughHandover (p : Port) (s : State) :
    exec (.passThroughHandover p) s = running s (passThroughHandover p) := rfl

theorem exec_passThroughHandover_alt {p : Port} {s t : State} (high : s.resetLow = false) (chosen : s.choosesPassThrough p = true)
    (h : exec (.passThroughHandover p) s = .next t) : (t.port p).alt = .passThrough := by
  obtain rfl := eq_of_running high (exec_passThroughHandover p s ▸ h)
  exact passThroughHandover_alt chosen

/-- Settles O8: each arbiter is its priorities followed by the turns of one pair, and the hand-over of one of the pair records it. -/
theorem arbitersChoose : Obligations.ArbitersChoose := by
  refine ⟨fun s => ⟨queueDue_iff s, arbiterA_of_held, fun free unpaused => ?portA, fun t high chosen h => ?event,
      fun t high chosen => exec_passThroughHandover_alt (p := .A) high (decide_eq_true chosen), rfl⟩,
    fun s => ⟨arbiterB_of_sending, fun free => ⟨arbiterB_of_trip free, arbiterB_of_paused, fun noTrip unpaused => ?portB⟩,
      fun t high sound chosen h => ?window,
      fun t high chosen => exec_passThroughHandover_alt (p := .B) high (decide_eq_true chosen), rfl⟩⟩
  case portA =>
    have turns := arbiterA_of_no_reply free unpaused
    exact ⟨arbiterA_of_reply free unpaused,
      fun noReply due fwd last => (turns noReply).trans (byTurns_after_passThrough due fwd last),
      fun noReply due fwd last => (turns noReply).trans (byTurns_after_own due fwd last),
      fun noReply due noFwd => (turns noReply).trans (byTurns_own_alone due noFwd),
      fun noReply notDue fwd => (turns noReply).trans (byTurns_forwarded_alone notDue fwd),
      fun noReply notDue noFwd => (turns noReply).trans (byTurns_of_none notDue noFwd)⟩
  case event =>
    obtain rfl := eq_of_running high (exec_eventHandover s ▸ h)
    exact eventHandover_alt chosen
  case portB =>
    have turns := arbiterB_of_no_phase free noTrip unpaused
    exact ⟨arbiterB_of_phase free noTrip unpaused,
      fun noPhase waits fwd last => (turns noPhase).trans (byTurns_after_passThrough waits fwd last),
      fun noPhase waits fwd last => (turns noPhase).trans (byTurns_after_own waits fwd last),
      fun noPhase waits noFwd => (turns noPhase).trans (byTurns_own_alone waits noFwd),
      fun noPhase noWait fwd => (turns noPhase).trans (byTurns_forwarded_alone noWait fwd),
      fun noPhase noWait noFwd => (turns noPhase).trans (byTurns_of_none noWait noFwd)⟩
  case window =>
    obtain rfl := eq_of_running high (exec_windowHandover s ▸ h)
    exact windowHandover_alt sound chosen

end Sys2Proof.Machine

/-! The commands as rows: what each management command answers, and that a CMD frame does what one of them does (R172 to R174). -/

namespace Sys2Proof.Machine

/-! ### The front of the queue -/

theorem step_of_pending_cons {c : Instr} {rest : List Instr} {s : State} (h : s.pending = c :: rest) :
    step s = exec c { s with pending := rest } := by
  simp only [step, h]

theorem step_of_pending_nil {s : State} (h : s.pending = []) : step s = .next s := by
  simp only [step, h]

/-- Settles O1: both parts are the two cases of `step`. -/
theorem stepRunsTheFrontCommand : Obligations.StepRunsTheFrontCommand :=
  ⟨fun _ _ _ h => step_of_pending_cons h, fun _ h => step_of_pending_nil h⟩

/-- What the part takes and then finds in the queue is an `exec` of one row, or nothing (log entry 7). -/
theorem step_cases {s t : State} (h : step s = .next t) : t = s ∨ ∃ c rest, exec c { s with pending := rest } = .next t := by
  cases hp : s.pending with
  | nil => exact .inl (Host.Outcome.next.inj ((step_of_pending_nil hp).symm.trans h)).symm
  | cons c rest => exact .inr ⟨c, rest, (step_of_pending_cons hp).symm.trans h⟩

/-! ### Management commands -/

/-- What the row of a named command carries and answers: its source, its code, and its answer. -/
structure Command where
  src : Byte
  code : Byte
  act : State → Answer

/-- The command of a row; none where the row is no named command. -/
def command : Instr → Option Command
  | .readEntry src table index => some { src := src, code := 0x01, act := readEntry table index }
  | .readState src table index => some { src := src, code := 0x04, act := readState table index }
  | .writeSettings src index entry => some { src := src, code := 0x02, act := fun s => entryReply .settings index (writeSettings index.toNat entry s) }
  | .clearSettings src index => some { src := src, code := 0x03, act := fun s => entryReply .settings index (clearSettings index.toNat s) }
  | .writeModule src index entry => some { src := src, code := 0x02, act := fun s => entryReply .module index (writeModule index.toNat entry s) }
  | .clearModule src index => some { src := src, code := 0x03, act := fun s => entryReply .module index (clearModule index.toNat s) }
  | .writePoint src index entry => some { src := src, code := 0x02, act := fun s => entryReply .point index (writePoint index.toNat entry s) }
  | .clearPoint src index => some { src := src, code := 0x03, act := fun s => entryReply .point index (clearPoint index.toNat s) }
  | .writeWindow src index entry => some { src := src, code := 0x02, act := fun s => entryReply .window index (writeWindow index.toNat entry s) }
  | .clearWindow src index => some { src := src, code := 0x03, act := fun s => entryReply .window index (clearWindow index.toNat s) }
  | .writeDriver src index entry => some { src := src, code := 0x02, act := fun s => entryReply .driver index (writeDriver index.toNat entry s) }
  | .clearDriver src index => some { src := src, code := 0x03, act := fun s => entryReply .driver index (clearDriver index.toNat s) }
  | .writeGroup src index entry => some { src := src, code := 0x02, act := fun s => entryReply .group index (writeGroup index.toNat entry s) }
  | .clearGroup src index => some { src := src, code := 0x03, act := fun s => entryReply .group index (clearGroup index.toNat s) }
  | .writeHorn src index entry => some { src := src, code := 0x02, act := fun s => entryReply .horn index (writeHorn index.toNat entry s) }
  | .clearHorn src index => some { src := src, code := 0x03, act := fun s => entryReply .horn index (clearHorn index.toNat s) }
  | .writePattern src index entry => some { src := src, code := 0x02, act := fun s => entryReply .pattern index (writePattern index.toNat entry s) }
  | .clearPattern src index => some { src := src, code := 0x03, act := fun s => entryReply .pattern index (clearPattern index.toNat s) }
  | .writeElement src index entry => some { src := src, code := 0x02, act := fun s => entryReply .element index (writeElement index.toNat entry s) }
  | .clearElement src index => some { src := src, code := 0x03, act := fun s => entryReply .element index (clearElement index.toNat s) }
  | .writeOutput src index entry => some { src := src, code := 0x02, act := fun s => entryReply .output index (writeOutput index.toNat entry s) }
  | .clearOutput src index => some { src := src, code := 0x03, act := fun s => entryReply .output index (clearOutput index.toNat s) }
  | .writeChannel src index entry => some { src := src, code := 0x02, act := fun s => entryReply .channel index (writeChannel index.toNat entry s) }
  | .clearChannel src index => some { src := src, code := 0x03, act := fun s => entryReply .channel index (clearChannel index.toNat s) }
  | .setModeRun src => some { src := src, code := 0x10, act := setModeRun }
  | .setModeTest src => some { src := src, code := 0x10, act := setModeTest }
  | .setModeConfiguring src => some { src := src, code := 0x10, act := setModeConfiguring }
  | .freezeMatrix src => some { src := src, code := 0x11, act := freezeMatrix }
  | .annunciationRestart src => some { src := src, code := 0x12, act := annunciationRestart }
  | .groupAck src group => some { src := src, code := 0x20, act := groupAck group }
  | .groupReset src group => some { src := src, code := 0x21, act := groupReset group }
  | .hornSilence src horn => some { src := src, code := 0x22, act := hornSilence horn }
  | .lampTestOn src => some { src := src, code := 0x23, act := lampTestOn }
  | .lampTestOff src => some { src := src, code := 0x23, act := lampTestOff }
  | .lockoutReset src channel => some { src := src, code := 0x30, act := lockoutReset channel }
  | .forceElementOn src element => some { src := src, code := 0x31, act := forceCommand true element }
  | .forceElementOff src element => some { src := src, code := 0x31, act := forceCommand false element }
  | .readStatus src flag => some { src := src, code := 0x40, act := readStatus flag }
  | _ => none

/-- A row that is a named command takes it (R172). -/
theorem exec_of_command {c : Instr} {k : Command} (h : command c = some k) (s : State) :
    exec c s = running s (takeCommand k.code k.src k.act) := by
  cases c <;> simp only [command, Option.some.injEq, reduceCtorEq] at h <;> subst h <;> rfl

/-- A named command of a ready source is performed and answered (R172). -/
theorem exec_of_ready {c : Instr} {k : Command} (h : command c = some k) {s : State} (ready : s.ready k.src) :
    exec c s = .next ((k.act s).replied k.src k.code) := by
  rw [exec_of_command h, running_high ready.1, takeCommand_of_ready ready]

/-- A command is not taken, or is performed and answered (R172). -/
theorem takeCommand_cases (code src : Byte) (act : State → Answer) (s : State) :
    takeCommand code src act s = s ∨ (s.reply = none ∧ takeCommand code src act s = (act s).replied src code) := by
  unfold takeCommand mayTake
  split
  · rename_i h
    simp only [Bool.and_eq_true, Option.isNone_iff_eq_none] at h
    exact .inr ⟨h.1, rfl⟩
  · exact .inl rfl

/-- A row leaves the state as it is, or does its operation (log entry 5). -/
theorem running_cases {s t : State} {f : State → State} (h : running s f = .next t) : t = s ∨ (s.resetLow = false ∧ t = f s) := by
  cases low : s.resetLow with
  | true => exact .inl (Host.Outcome.next.inj ((running_low low f).symm.trans h)).symm
  | false => exact .inr ⟨rfl, eq_of_running low h⟩

/-! ### What a CMD payload performs -/

/-- A property of a state after a command that holds where nothing changes and after every named command's answer. -/
structure AfterCommands (s : State) (Q : State → Prop) : Prop where
  idle : Q s
  named : ∀ {c : Instr} {k : Command}, command c = some k → Q (k.act s).state

@[simp] theorem refuse_state (st : Status) (s : State) : (refuse st s).state = s := rfl

@[simp] theorem accept_state (s : State) : (accept s).state = s := rfl

@[simp] theorem entryReply_state (t : TableId) (index : BitVec 16) (a : Answer) : (entryReply t index a).state = a.state := by
  unfold entryReply; split <;> rfl

@[simp] theorem readAnswer_state (found : Option (List Byte)) (s : State) : (readAnswer found s).state = s := by
  unfold readAnswer; split <;> rfl

@[simp] theorem readEntry_state (table : Byte) (index : BitVec 16) (s : State) : (readEntry table index s).state = s := by
  unfold readEntry; split <;> simp

@[simp] theorem readState_state (table : Byte) (index : BitVec 16) (s : State) : (readState table index s).state = s := by
  unfold readState; split <;> simp

namespace AfterCommands

variable {s : State} {Q : State → Prop}

theorem ite {p : Prop} [Decidable p] {a b : Answer} (ha : p → Q a.state) (hb : ¬ p → Q b.state) :
    Q (if p then a else b).state := by
  split
  · exact ha ‹_›
  · exact hb ‹_›

theorem entryCommand (idle : Q s) (params : List Byte) {act : TableId → BitVec 16 → List Byte → State → Answer}
    (h : ∀ t index rest, Q (act t index rest s).state) : Q (Machine.entryCommand params act s).state := by
  unfold Machine.entryCommand
  split
  · split
    · exact h _ _ _
    · exact idle
  · exact idle

theorem bareEntry (idle : Q s) {act : TableId → BitVec 16 → State → Answer} (h : ∀ t index, Q (act t index s).state)
    (t : TableId) (index : BitVec 16) (rest : List Byte) : Q (Machine.bareEntry act t index rest s).state := by
  unfold Machine.bareEntry
  split
  · rw [entryReply_state]; exact h t index
  · exact idle

theorem bareCommand (idle : Q s) (params : List Byte) {act : State → Answer} (h : Q (act s).state) :
    Q (Machine.bareCommand params act s).state := by
  unfold Machine.bareCommand
  split
  · exact h
  · exact idle

theorem byteCommand (idle : Q s) (params : List Byte) {act : Byte → State → Answer} (h : ∀ b, Q (act b s).state) :
    Q (Machine.byteCommand params act s).state := by
  unfold Machine.byteCommand
  split
  · exact h _
  · exact idle

theorem named_entry (hQ : AfterCommands s Q) {c : Instr} {src code : Byte} {t : TableId} {index : BitVec 16} {act : State → Answer}
    (h : command c = some { src := src, code := code, act := fun s => entryReply t index (act s) }) : Q (act s).state := by
  have after := hQ.named h
  rwa [entryReply_state] at after

theorem writeEntry (hQ : AfterCommands s Q) (t : TableId) (index : BitVec 16) (entry : List Byte) :
    Q (Machine.writeEntry t index.toNat entry s).state := by
  cases t
  case settings => exact hQ.named_entry (c := .writeSettings 0 index entry) rfl
  case module => exact hQ.named_entry (c := .writeModule 0 index entry) rfl
  case point => exact hQ.named_entry (c := .writePoint 0 index entry) rfl
  case window => exact hQ.named_entry (c := .writeWindow 0 index entry) rfl
  case driver => exact hQ.named_entry (c := .writeDriver 0 index entry) rfl
  case group => exact hQ.named_entry (c := .writeGroup 0 index entry) rfl
  case horn => exact hQ.named_entry (c := .writeHorn 0 index entry) rfl
  case pattern => exact hQ.named_entry (c := .writePattern 0 index entry) rfl
  case element => exact hQ.named_entry (c := .writeElement 0 index entry) rfl
  case output => exact hQ.named_entry (c := .writeOutput 0 index entry) rfl
  case channel => exact hQ.named_entry (c := .writeChannel 0 index entry) rfl

theorem clearEntry (hQ : AfterCommands s Q) (t : TableId) (index : BitVec 16) : Q (Machine.clearEntry t index.toNat s).state := by
  cases t
  case settings => exact hQ.named_entry (c := .clearSettings 0 index) rfl
  case module => exact hQ.named_entry (c := .clearModule 0 index) rfl
  case point => exact hQ.named_entry (c := .clearPoint 0 index) rfl
  case window => exact hQ.named_entry (c := .clearWindow 0 index) rfl
  case driver => exact hQ.named_entry (c := .clearDriver 0 index) rfl
  case group => exact hQ.named_entry (c := .clearGroup 0 index) rfl
  case horn => exact hQ.named_entry (c := .clearHorn 0 index) rfl
  case pattern => exact hQ.named_entry (c := .clearPattern 0 index) rfl
  case element => exact hQ.named_entry (c := .clearElement 0 index) rfl
  case output => exact hQ.named_entry (c := .clearOutput 0 index) rfl
  case channel => exact hQ.named_entry (c := .clearChannel 0 index) rfl

theorem setMode (hQ : AfterCommands s Q) (b : Byte) : Q (Machine.setMode b s).state := by
  unfold Machine.setMode
  split
  · exact hQ.named (c := .setModeConfiguring 0) rfl
  split
  · exact hQ.named (c := .setModeRun 0) rfl
  split
  · exact hQ.named (c := .setModeTest 0) rfl
  · exact hQ.idle

theorem lampTest (hQ : AfterCommands s Q) (b : Byte) : Q (Machine.lampTest b s).state := by
  unfold Machine.lampTest
  split
  · exact hQ.named (c := .lampTestOff 0) rfl
  split
  · exact hQ.named (c := .lampTestOn 0) rfl
  · exact hQ.idle

theorem forceParams (hQ : AfterCommands s Q) (params : List Byte) : Q (Machine.forceParams params s).state := by
  unfold Machine.forceParams
  split
  · split
    · exact hQ.named (c := .forceElementOff 0 _) rfl
    split
    · exact hQ.named (c := .forceElementOn 0 _) rfl
    split <;> exact hQ.idle
  · exact hQ.idle

/-- What holds after every named command holds after any payload (R173). -/
theorem performPayload (hQ : AfterCommands s Q) (payload : List Byte) : Q (Machine.performPayload payload s).state := by
  have idle := hQ.idle
  cases payload with
  | nil => exact idle
  | cons code params =>
    change Q (performCode code params s).state
    unfold performCode
    refine ite (fun _ => entryCommand idle _ (bareEntry idle fun t i => by simpa using idle)) fun _ => ?_
    refine ite (fun _ => entryCommand idle _ fun t i e => by simpa using hQ.writeEntry t i e) fun _ => ?_
    refine ite (fun _ => entryCommand idle _ (bareEntry idle hQ.clearEntry)) fun _ => ?_
    refine ite (fun _ => entryCommand idle _ (bareEntry idle fun t i => by simpa using idle)) fun _ => ?_
    refine ite (fun _ => byteCommand idle _ hQ.setMode) fun _ => ?_
    refine ite (fun _ => bareCommand idle _ (hQ.named (c := .freezeMatrix 0) rfl)) fun _ => ?_
    refine ite (fun _ => bareCommand idle _ (hQ.named (c := .annunciationRestart 0) rfl)) fun _ => ?_
    refine ite (fun _ => byteCommand idle _ fun b => hQ.named (c := .groupAck 0 b) rfl) fun _ => ?_
    refine ite (fun _ => byteCommand idle _ fun b => hQ.named (c := .groupReset 0 b) rfl) fun _ => ?_
    refine ite (fun _ => byteCommand idle _ fun b => hQ.named (c := .hornSilence 0 b) rfl) fun _ => ?_
    refine ite (fun _ => byteCommand idle _ hQ.lampTest) fun _ => ?_
    refine ite (fun _ => byteCommand idle _ fun b => hQ.named (c := .lockoutReset 0 b) rfl) fun _ => ?_
    refine ite (fun _ => hQ.forceParams params) fun _ => ?_
    refine ite (fun _ => byteCommand idle _ fun b => hQ.named (c := .readStatus 0 b) rfl) fun _ => ?_
    exact idle

end AfterCommands

/-! ### What a command can do -/

/-- What a management command can leave that changes nothing but the inside of the blocks: the state as it is, or the effect of an
accepted command with the checks it passed that its effect rests on (sections 10.2 to 10.7). -/
inductive BlockEffect (s : State) : State → Prop where
  | idle : BlockEffect s s
  | moduleWrite (m : Fin 16) (d : ModuleDef) (configuring : s.mode = .configuring) : BlockEffect s (applyModuleWrite m d s)
  | moduleClear (m : Fin 16) (configuring : s.mode = .configuring) : BlockEffect s (applyModuleClear m s)
  | pointWrite (p : Fin 1024) (d : PointDef) : BlockEffect s (applyPointWrite p d s)
  | pointClear (p : Fin 1024) : BlockEffect s (applyPointClear p s)
  | windowWrite (w : Fin 192) (d : WindowDef) (known : s.mode ≠ .configuring → (s.group d.group).defn ≠ none) :
      BlockEffect s (applyWindowWrite w d s)
  | windowClear (w : Fin 192) : BlockEffect s (applyWindowClear w s)
  | driver (d : Fin 6) (a : Option Nat) : BlockEffect s (applyDriver d a s)
  | groupWrite (g : Fin 32) (d : GroupDef) : BlockEffect s (applyGroupWrite g d s)
  | groupClear (g : Fin 32) (unused : s.mode ≠ .configuring → groupInUse s g = false) : BlockEffect s (s.setGroup g {})
  | horn (h : Fin 4) (v : Sound) : BlockEffect s (applyHorn h v s)
  | pattern (i : Fin 4) (v : PatternEntry) : BlockEffect s (applyPattern i v s)
  | elementWrite (e : Fin 64) (d : ElementDef) : BlockEffect s (applyElementWrite e d s)
  | elementClear (e : Fin 64) : BlockEffect s (applyElementClear e s)
  | output (k : Fin 8) (address : Option Nat) (timeout : Nat) : BlockEffect s (applyOutput k address timeout s)
  | channelWrite (c : Fin 16) (d : ChannelDef) : BlockEffect s (applyChannelWrite c d s)
  | channelClear (c : Fin 16) : BlockEffect s (applyChannelClear c s)
  | restart (service : s.mode ≠ .configuring) : BlockEffect s (restartAnnunciation s)
  | ack (g : Fin 32) (origin : Nat) : BlockEffect s (ackGroup g origin s)
  | reset (g : Fin 32) : BlockEffect s (resetGroup g s)
  | silence (h : Fin 4) : BlockEffect s (silenceHorn h s)
  | lampOn : BlockEffect s (lampOn s)
  | lampOff : BlockEffect s (lampOff s)
  | lockout (c : Fin 16) (locked : (s.channel c).state = .locked) : BlockEffect s
      (outputChanged c false (channelRecord .channelNormal c (s.setChannel c { s.channel c with state := .normal })))
  | force (on : Bool) (e : Fin 64) : BlockEffect s (forceElement .moves on e s)
  | clearCounters : BlockEffect s (clearCounters s)

/-- What a management command can leave: a block's effect, or a change of settings, mode or freeze latch. -/
inductive CommandEffect (s : State) : State → Prop where
  | block {t : State} (h : BlockEffect s t) : CommandEffect s t
  | settings (v : Settings) (ordered : v.lowA < v.highA ∧ v.lowB < v.highB) : CommandEffect s (applySettings v s)
  | enterRun (configuring : s.mode = .configuring) (consistent : consistencyFailure s = none) : CommandEffect s (enterRun s)
  | leaveTest (test : s.mode = .test) : CommandEffect s (leaveTest s)
  | enterTest (run : s.mode = .run) : CommandEffect s (enterTest s)
  | enterConfiguring (service : s.mode ≠ .configuring) : CommandEffect s (enterConfiguring s)
  | freeze : CommandEffect s { s with frozen := true }

namespace BlockEffect

variable (s : State)

theorem writeModule (index : Nat) (entry : List Byte) : BlockEffect s (Machine.writeModule index entry s).state := by
  unfold Machine.writeModule
  split
  · exact .idle
  split
  · exact .idle
  rename_i configuring
  split
  · split
    · exact .idle
    split
    · exact .idle
    · exact .moduleWrite _ _ (not_not.mp configuring)
  · exact .moduleClear _ (not_not.mp configuring)
  · exact .idle

theorem clearModule (index : Nat) : BlockEffect s (Machine.clearModule index s).state := by
  unfold Machine.clearModule
  split
  · exact .idle
  split
  · exact .moduleClear _ (not_not.mp ‹_›)
  · exact .idle

theorem clearPointAt (p : Fin 1024) : BlockEffect s (Machine.clearPointAt p s).state := by
  unfold Machine.clearPointAt
  split
  · exact .idle
  · exact .pointClear p

theorem clearPoint (index : Nat) : BlockEffect s (Machine.clearPoint index s).state := by
  unfold Machine.clearPoint
  split
  · exact clearPointAt s _
  · exact .idle

theorem writePoint (index : Nat) (entry : List Byte) : BlockEffect s (Machine.writePoint index entry s).state := by
  unfold Machine.writePoint
  split
  · exact .idle
  split
  · split
    · exact .idle
    split
    · exact .idle
    · exact .pointWrite _ _
  · exact clearPointAt s _
  · exact .idle

theorem clearWindowAt (w : Fin 192) : BlockEffect s (Machine.clearWindowAt w s).state := by
  unfold Machine.clearWindowAt
  split
  · exact .idle
  · exact .windowClear w

theorem clearWindow (index : Nat) : BlockEffect s (Machine.clearWindow index s).state := by
  unfold Machine.clearWindow
  split
  · exact clearWindowAt s _
  · exact .idle

theorem writeWindow (index : Nat) (entry : List Byte) : BlockEffect s (Machine.writeWindow index entry s).state := by
  unfold Machine.writeWindow
  split
  · exact .idle
  split
  · split
    · exact .idle
    · rename_i known
      exact .windowWrite _ _ fun service none => known ⟨service, none⟩
  · exact clearWindowAt s _
  · exact .idle

theorem clearDriver (index : Nat) : BlockEffect s (Machine.clearDriver index s).state := by
  unfold Machine.clearDriver
  split
  · exact .driver _ none
  · exact .idle

theorem writeDriver (index : Nat) (entry : List Byte) : BlockEffect s (Machine.writeDriver index entry s).state := by
  unfold Machine.writeDriver
  split
  · exact .idle
  split
  · split
    · exact .idle
    · exact .driver _ (some _)
  · exact .driver _ none
  · exact .idle

theorem clearGroupAt (g : Fin 32) : BlockEffect s (Machine.clearGroupAt g s).state := by
  unfold Machine.clearGroupAt
  split
  · exact .idle
  · rename_i free
    exact .groupClear g fun service => Bool.eq_false_iff.mpr fun used => free ⟨service, used⟩

theorem clearGroup (index : Nat) : BlockEffect s (Machine.clearGroup index s).state := by
  unfold Machine.clearGroup
  split
  · exact clearGroupAt s _
  · exact .idle

theorem writeGroup (index : Nat) (entry : List Byte) : BlockEffect s (Machine.writeGroup index entry s).state := by
  unfold Machine.writeGroup
  split
  · exact .idle
  split
  · exact .groupWrite _ _
  · exact clearGroupAt s _
  · exact .idle

theorem writeHorn (index : Nat) (entry : List Byte) : BlockEffect s (Machine.writeHorn index entry s).state := by
  unfold Machine.writeHorn
  split
  · exact .idle
  split
  · exact .horn _ _
  · exact .idle

theorem clearHorn (index : Nat) : BlockEffect s (Machine.clearHorn index s).state := by
  unfold Machine.clearHorn
  split
  · exact .horn _ _
  · exact .idle

theorem writePattern (index : Nat) (entry : List Byte) : BlockEffect s (Machine.writePattern index entry s).state := by
  unfold Machine.writePattern
  split
  · exact .idle
  split
  · exact .pattern _ _
  · exact .idle

theorem clearPattern (index : Nat) : BlockEffect s (Machine.clearPattern index s).state := by
  unfold Machine.clearPattern
  split
  · exact .pattern _ _
  · exact .idle

theorem writeElement (index : Nat) (entry : List Byte) : BlockEffect s (Machine.writeElement index entry s).state := by
  unfold Machine.writeElement
  split
  · exact .idle
  split
  · exact .idle
  split
  · split
    · exact .idle
    · exact .elementWrite _ _
  · exact .elementClear _
  · exact .idle
  · exact .idle

theorem clearElement (index : Nat) : BlockEffect s (Machine.clearElement index s).state := by
  unfold Machine.clearElement
  split
  · exact .idle
  split
  · exact .elementClear _
  · exact .idle

theorem changeOutput (k : Fin 8) (address : Option Nat) (timeout : Nat) :
    BlockEffect s (Machine.changeOutput k address timeout s).state := by
  unfold Machine.changeOutput
  split
  · exact .idle
  split
  · exact .idle
  · exact .output k address timeout

theorem writeOutput (index : Nat) (entry : List Byte) : BlockEffect s (Machine.writeOutput index entry s).state := by
  unfold Machine.writeOutput
  split
  · exact .idle
  split
  · exact .idle
  split
  · split
    · exact .idle
    · exact changeOutput s _ _ _
  · exact .idle

theorem clearOutput (index : Nat) : BlockEffect s (Machine.clearOutput index s).state := by
  unfold Machine.clearOutput
  split
  · exact .idle
  split
  · exact changeOutput s _ _ _
  · exact .idle

theorem clearChannelAt (c : Fin 16) : BlockEffect s (Machine.clearChannelAt c s).state := by
  unfold Machine.clearChannelAt
  split
  · exact .idle
  · exact .channelClear c

theorem defineChannel (c : Fin 16) (d : ChannelDef) : BlockEffect s (Machine.defineChannel c d s).state := by
  unfold Machine.defineChannel
  split
  · exact .idle
  split
  · exact .idle
  split
  · exact .idle
  · exact .channelWrite c d

theorem writeChannel (index : Nat) (entry : List Byte) : BlockEffect s (Machine.writeChannel index entry s).state := by
  unfold Machine.writeChannel
  split
  · exact .idle
  split
  · exact .idle
  split
  · split
    · exact .idle
    split
    · exact defineChannel s _ _
    · exact clearChannelAt s _
  · exact .idle

theorem clearChannel (index : Nat) : BlockEffect s (Machine.clearChannel index s).state := by
  unfold Machine.clearChannel
  split
  · exact .idle
  split
  · split
    · exact .idle
    · exact clearChannelAt s _
  · exact .idle

theorem annunciationRestart : BlockEffect s (Machine.annunciationRestart s).state := by
  unfold Machine.annunciationRestart
  split
  · exact .idle
  · exact .restart ‹_›

theorem groupAck (group : Byte) : BlockEffect s (Machine.groupAck group s).state := by
  unfold Machine.groupAck
  split
  · exact .ack _ _
  · exact .idle

theorem groupReset (group : Byte) : BlockEffect s (Machine.groupReset group s).state := by
  unfold Machine.groupReset
  split
  · exact .reset _
  · exact .idle

theorem hornSilence (horn : Byte) : BlockEffect s (Machine.hornSilence horn s).state := by
  unfold Machine.hornSilence
  split
  · exact .silence _
  · exact .idle

theorem lockoutReset (channel : Byte) : BlockEffect s (Machine.lockoutReset channel s).state := by
  unfold Machine.lockoutReset
  split
  · split
    · exact .idle
    · unfold Machine.resetLockout
      split
      · exact .idle
      · exact .idle
      · rename_i c _ _ _ locked
        rw [accept_state]
        exact .lockout c locked
  · exact .idle

theorem forceCommand (on : Bool) (element : Byte) : BlockEffect s (Machine.forceCommand on element s).state := by
  unfold Machine.forceCommand
  split
  · exact .idle
  split
  · split
    · exact .idle
    · exact .force on _
  · exact .idle

theorem readStatus (flag : Byte) : BlockEffect s (Machine.readStatus flag s).state := by
  unfold Machine.readStatus
  split
  · exact .idle
  split
  · exact .clearCounters
  · exact .idle

theorem entry {t : TableId} {index : BitVec 16} {a : Answer} (h : BlockEffect s a.state) :
    BlockEffect s (entryReply t index a).state := by
  rwa [entryReply_state]

end BlockEffect

namespace CommandEffect

variable (s : State)

theorem idle : CommandEffect s s := .block .idle

/-- The low mark of each port is read below the high mark (R176). -/
theorem readSettings_ordered {entry : List Byte} {v : Settings} (read : readSettings entry = some v) :
    v.lowA < v.highA ∧ v.lowB < v.highB := by
  unfold readSettings at read
  split at read
  · simp only [ranged, bind, Option.bind_eq_some_iff, Option.ite_none_right_eq_some, Option.some.injEq] at read
    obtain ⟨_, -, _, -, highA, ⟨⟨boundA, -⟩, rfl⟩, lowA, ⟨⟨-, orderA⟩, rfl⟩, highB, ⟨⟨boundB, -⟩, rfl⟩, lowB,
      ⟨⟨-, orderB⟩, rfl⟩, _, -, _, -, _, -, _, -, rfl⟩ := read
    exact ⟨by dsimp only; omega, by dsimp only; omega⟩
  · cases read

theorem writeSettings (index : Nat) (entry : List Byte) : CommandEffect s (Machine.writeSettings index entry s).state := by
  unfold Machine.writeSettings
  split
  · exact idle s
  split
  · exact idle s
  split
  · exact idle s
  · rename_i v read
    split
    · exact idle s
    · exact .settings v (readSettings_ordered read)

theorem clearSettings (index : Nat) : CommandEffect s (Machine.clearSettings index s).state := by
  unfold Machine.clearSettings
  split
  · exact idle s
  · exact .settings {} (by decide)

theorem setModeRun : CommandEffect s (Machine.setModeRun s).state := by
  unfold Machine.setModeRun
  split
  · exact idle s
  · exact .leaveTest ‹_›
  · split
    · exact idle s
    · exact .enterRun ‹_› ‹_›

theorem setModeTest : CommandEffect s (Machine.setModeTest s).state := by
  unfold Machine.setModeTest
  split
  · exact idle s
  · exact idle s
  · rename_i run
    split
    · exact idle s
    · rw [accept_state]
      exact .enterTest run

theorem setModeConfiguring : CommandEffect s (Machine.setModeConfiguring s).state := by
  unfold Machine.setModeConfiguring
  split
  · exact idle s
  split
  · exact idle s
  split
  · exact idle s
  · exact .enterConfiguring ‹_›

theorem freezeMatrix : CommandEffect s (Machine.freezeMatrix s).state := by
  unfold Machine.freezeMatrix
  split
  · exact idle s
  split
  · exact idle s
  · exact .freeze

theorem entry {t : TableId} {index : BitVec 16} {a : Answer} (h : CommandEffect s a.state) :
    CommandEffect s (entryReply t index a).state := by
  rwa [entryReply_state]

/-- A named command leaves the state as it is or has one of the effects. -/
theorem of_command {c : Instr} {k : Command} (h : command c = some k) : CommandEffect s (k.act s).state := by
  cases c <;> simp only [command, Option.some.injEq, reduceCtorEq] at h <;> subst h
  case readEntry src table index => exact (congrArg (CommandEffect s) (readEntry_state table index s)).mpr (idle s)
  case readState src table index => exact (congrArg (CommandEffect s) (readState_state table index s)).mpr (idle s)
  case writeSettings => exact entry s (writeSettings s _ _)
  case clearSettings => exact entry s (clearSettings s _)
  case writeModule => exact .block (.entry s (.writeModule s _ _))
  case clearModule => exact .block (.entry s (.clearModule s _))
  case writePoint => exact .block (.entry s (.writePoint s _ _))
  case clearPoint => exact .block (.entry s (.clearPoint s _))
  case writeWindow => exact .block (.entry s (.writeWindow s _ _))
  case clearWindow => exact .block (.entry s (.clearWindow s _))
  case writeDriver => exact .block (.entry s (.writeDriver s _ _))
  case clearDriver => exact .block (.entry s (.clearDriver s _))
  case writeGroup => exact .block (.entry s (.writeGroup s _ _))
  case clearGroup => exact .block (.entry s (.clearGroup s _))
  case writeHorn => exact .block (.entry s (.writeHorn s _ _))
  case clearHorn => exact .block (.entry s (.clearHorn s _))
  case writePattern => exact .block (.entry s (.writePattern s _ _))
  case clearPattern => exact .block (.entry s (.clearPattern s _))
  case writeElement => exact .block (.entry s (.writeElement s _ _))
  case clearElement => exact .block (.entry s (.clearElement s _))
  case writeOutput => exact .block (.entry s (.writeOutput s _ _))
  case clearOutput => exact .block (.entry s (.clearOutput s _))
  case writeChannel => exact .block (.entry s (.writeChannel s _ _))
  case clearChannel => exact .block (.entry s (.clearChannel s _))
  case setModeRun => exact setModeRun s
  case setModeTest => exact setModeTest s
  case setModeConfiguring => exact setModeConfiguring s
  case freezeMatrix => exact freezeMatrix s
  case annunciationRestart => exact .block (.annunciationRestart s)
  case groupAck => exact .block (.groupAck s _)
  case groupReset => exact .block (.groupReset s _)
  case hornSilence => exact .block (.hornSilence s _)
  case lampTestOn => exact .block .lampOn
  case lampTestOff => exact .block .lampOff
  case lockoutReset => exact .block (.lockoutReset s _)
  case forceElementOn => exact .block (.forceCommand s _ _)
  case forceElementOff => exact .block (.forceCommand s _ _)
  case readStatus => exact .block (.readStatus s _)

/-- Any CMD payload leaves the state as it is or has one of the effects. -/
theorem of_payload (payload : List Byte) : CommandEffect s (performPayload payload s).state :=
  AfterCommands.performPayload ⟨idle s, of_command s⟩ payload

end CommandEffect

/-! ### What a row can do -/

/-- What a row can leave: the state as it is, or the effect of its operation. -/
inductive RowEffect (s : State) : State → Prop where
  | idle : RowEffect s s
  | coldReset (ads : BitVec 8) (rsa rsb : BitVec 2) :
      RowEffect s { State.coldReset ads rsa rsb with arriving := s.arriving, pending := s.pending }
  | resetnHeldLow : RowEffect s (resetnHeldLow s)
  | localTick : RowEffect s (localTick s)
  | frameReceived (p : Port) (cs : List RxChar) : RowEffect s (frameReceived p cs s)
  | frameAbandoned (p : Port) (cs : List RxChar) : RowEffect s (frameAbandoned p cs s)
  | pauseReceived (p : Port) : RowEffect s (pauseReceived p s)
  | resumeReceived (p : Port) : RowEffect s (resumeReceived p s)
  | selfResumeExpiry (p : Port) : RowEffect s (selfResumeExpiry p s)
  | controlByteSent (p : Port) : RowEffect s (controlByteSent p s)
  | transmitEnd (p : Port) : RowEffect s (transmitEnd p s)
  | sofReceived (p : Port) : RowEffect s (s.setPort p { s.port p with rx := .withinFrame })
  | tripHandover : RowEffect s (tripHandover s)
  | phaseHandover : RowEffect s (phaseHandover s)
  | windowHandover : RowEffect s (windowHandover s)
  | passThroughHandover (p : Port) : RowEffect s (passThroughHandover p s)
  | eventHandover : RowEffect s (eventHandover s)
  | replyHandover : RowEffect s (replyHandover s)
  | scanFrame : RowEffect s (scanFrame s)
  | timeFrame (dest src seq : Byte) (payload : List Byte) : RowEffect s (timeFrame dest src seq payload s)
  | syncExpiry : RowEffect s (syncExpiry s)
  | supervisionExpiry (m : Fin 16) : RowEffect s (supervisionExpiry m s)
  | chatterDecayExpiry : RowEffect s (chatterDecayExpiry s)
  | settleExpiry (g : Fin 32) : RowEffect s (settleExpiry g s)
  | windowRefreshExpiry : RowEffect s (windowRefreshExpiry s)
  | phaseIntervalExpiry : RowEffect s (phaseIntervalExpiry s)
  | lampLimitExpiry : RowEffect s (lampLimitExpiry s)
  | elementDelayExpiry (e : Fin 64) : RowEffect s (elementDelayExpiry e s)
  | deadlineExpiry (k : Fin 8) : RowEffect s (deadlineExpiry k s)
  | tripRefreshExpiry : RowEffect s (tripRefreshExpiry s)
  | batchExpiry : RowEffect s (batchExpiry s)
  | confirmFrame : RowEffect s (confirmFrame s)
  | button {u : State} (act : CommandEffect s u) : RowEffect s (givePlace .B (Held.owned kindButton) u)
  | ignoredButton : RowEffect s (givePlace .B (Held.owned kindButton) (countIgnoredButton s))
  | answered {u : State} (act : CommandEffect s u) (r : Reply) : RowEffect s { u with reply := some r }
  | cmdFrame {u : State} (act : CommandEffect s u) (r : Reply) :
      RowEffect s (givePlace .A (Held.owned kindCmd) { u with reply := some r })
  | discardedCmd : RowEffect s (givePlace .A (Held.owned kindCmd) s)

/-- An empty payload is refused LENGTH and an unlisted code UNKNOWN (R172, R173). -/
theorem performCode_unlisted {code : Byte} (h : code ∉ commandCodes) (params : List Byte) (s : State) :
    performCode code params s = refuse .unknown s := by
  simp only [commandCodes, List.mem_cons, List.not_mem_nil, or_false, not_or] at h
  simp only [performCode, h, if_false]

theorem performPayload_unknown {payload : List Byte} (h : Instr.unknownPayload payload = true) (s : State) :
    (performPayload payload s).state = s := by
  cases payload with
  | nil => rfl
  | cons code params =>
    have unlisted : code ∉ commandCodes := by simpa [Instr.unknownPayload] using h
    exact congrArg Answer.state (performCode_unlisted unlisted params s)

namespace RowEffect

theorem of_takeCommand {s : State} {act : State → Answer} (h : CommandEffect s (act s).state) (code src : Byte) :
    RowEffect s (takeCommand code src act s) := by
  rcases takeCommand_cases code src act s with idle | ⟨-, taken⟩
  · rw [idle]; exact .idle
  · rw [taken]; exact .answered h _

theorem of_cmdFrame (s : State) : RowEffect s (Machine.cmdFrame s) := by
  unfold Machine.cmdFrame
  split
  · split
    · exact .idle
    · rename_i h _ _
      rcases takeCommand_cases (replyCode h.frame.payload) h.frame.src (performPayload h.frame.payload) s with idle | ⟨-, taken⟩
      · rw [idle]; exact .discardedCmd
      · rw [taken]; exact .cmdFrame (CommandEffect.of_payload s _) _
  · exact .idle

theorem of_cmdUnknown (src : Byte) (payload : List Byte) (s : State) : RowEffect s (cmdUnknown src payload s) := by
  unfold cmdUnknown
  split
  · exact of_takeCommand (CommandEffect.of_payload s payload) _ _
  · exact .idle

theorem of_buttonAck (s : State) : RowEffect s (buttonAck s) := by
  unfold buttonAck; split
  · exact .button (.block (.ack _ 0))
  · exact .idle

theorem of_buttonReset (s : State) : RowEffect s (buttonReset s) := by
  unfold buttonReset; split
  · exact .button (.block (.reset _))
  · exact .idle

theorem of_buttonSilence (s : State) : RowEffect s (buttonSilence s) := by
  unfold buttonSilence; split
  · exact .button (.block (.silence _))
  · exact .idle

theorem of_buttonTestOn (s : State) : RowEffect s (buttonTestOn s) := by
  unfold buttonTestOn; split
  · exact .button (.block .lampOn)
  · exact .idle

theorem of_buttonTestOff (s : State) : RowEffect s (buttonTestOff s) := by
  unfold buttonTestOff; split
  · exact .button (.block .lampOff)
  · exact .idle

theorem of_buttonIgnored (s : State) : RowEffect s (buttonIgnored s) := by
  unfold buttonIgnored; split
  · exact .ignoredButton
  · exact .idle

theorem of_running {s t : State} {f : State → State} (h : running s f = .next t) (effect : RowEffect s (f s)) : RowEffect s t := by
  rcases running_cases h with rfl | ⟨-, rfl⟩
  · exact .idle
  · exact effect

/-- Every row leaves one of the effects. -/
theorem of_exec {c : Instr} {s t : State} (h : exec c s = .next t) : RowEffect s t := by
  cases hk : command c with
  | some k => exact of_running ((exec_of_command hk s).symm.trans h) (of_takeCommand (CommandEffect.of_command s hk) _ _)
  | none =>
    cases c <;> simp only [command, reduceCtorEq] at hk
    case coldReset ads rsa rsb => exact Host.Outcome.next.inj h ▸ .coldReset ads rsa rsb
    case resetnHeldLow => exact Host.Outcome.next.inj h ▸ .resetnHeldLow
    case localTick => exact of_running h .localTick
    case frameReceived p cs => exact of_running h (.frameReceived p cs)
    case frameAbandoned p cs => exact of_running h (.frameAbandoned p cs)
    case pauseReceived p => exact of_running h (.pauseReceived p)
    case resumeReceived p => exact of_running h (.resumeReceived p)
    case pauseSelfResumeExpiry p => exact of_running h (.selfResumeExpiry p)
    case controlByteSent p => exact of_running h (.controlByteSent p)
    case transmitEnd p => exact of_running h (.transmitEnd p)
    case sofReceived p => exact of_running (f := fun s => s.setPort p { s.port p with rx := .withinFrame }) h (.sofReceived p)
    case tripHandover => exact of_running h .tripHandover
    case phaseHandover => exact of_running h .phaseHandover
    case windowHandover => exact of_running h .windowHandover
    case passThroughHandover p => exact of_running h (.passThroughHandover p)
    case eventHandover => exact of_running h .eventHandover
    case replyHandover => exact of_running h .replyHandover
    case scanFrame => exact of_running h .scanFrame
    case timeFrame dest src seq payload => exact of_running h (.timeFrame dest src seq payload)
    case syncSupervisionExpiry => exact of_running h .syncExpiry
    case moduleSupervisionExpiry m => exact of_running h (.supervisionExpiry m)
    case chatterDecayExpiry => exact of_running h .chatterDecayExpiry
    case settleExpiry g => exact of_running h (.settleExpiry g)
    case windowRefreshExpiry => exact of_running h .windowRefreshExpiry
    case phaseIntervalExpiry => exact of_running h .phaseIntervalExpiry
    case lampTestLimitExpiry => exact of_running h .lampLimitExpiry
    case elementDelayExpiry e => exact of_running h (.elementDelayExpiry e)
    case confirmDeadlineExpiry k => exact of_running h (.deadlineExpiry k)
    case tripRefreshExpiry => exact of_running h .tripRefreshExpiry
    case batchTimerExpiry => exact of_running h .batchExpiry
    case confirmFrame => exact of_running h .confirmFrame
    case buttonAck => exact of_running h (of_buttonAck s)
    case buttonReset => exact of_running h (of_buttonReset s)
    case buttonSilence => exact of_running h (of_buttonSilence s)
    case buttonTestOn => exact of_running h (of_buttonTestOn s)
    case buttonTestOff => exact of_running h (of_buttonTestOff s)
    case buttonIgnored => exact of_running h (of_buttonIgnored s)
    case cmdFrame => exact of_running h (of_cmdFrame s)
    case cmdUnknown src payload => exact of_running h (of_cmdUnknown src payload s)

end RowEffect

/-- What holds whatever the queue of commands, and after every effect of a row, holds after every step. -/
theorem step_keeps {P : State → Prop} (queue : ∀ {s : State} (rest : List Instr), P s → P { s with pending := rest })
    (row : ∀ {s t : State}, RowEffect s t → P s → P t) {s t : State} (hs : P s) (h : step s = .next t) : P t := by
  rcases step_cases h with rfl | ⟨c, rest, hc⟩
  · exact hs
  · exact row (RowEffect.of_exec hc) (queue rest hs)

end Sys2Proof.Machine

/-! The operations of the Annunciation Unit that offer no record leave all but the Annunciation Unit as it is; an activation offers at
most FIRST_OUT (chapters 4 and 5). -/

namespace Sys2Proof.Machine

/-- Nothing but the Annunciation Unit differs. -/
def State.onlyPanel (s t : State) : Prop := t = { s with ann := t.ann }

variable {s t u : State}

theorem State.onlyPanel.refl (s : State) : s.onlyPanel s := rfl

theorem State.onlyPanel.trans (h : s.onlyPanel t) (k : t.onlyPanel u) : s.onlyPanel u := by
  unfold State.onlyPanel at *; rw [k, h]

theorem State.onlyPanel.ann (h : s.onlyPanel t) : s.onlyAnnunciation t := by
  unfold State.onlyPanel at h; unfold State.onlyAnnunciation; rw [h]

theorem State.onlyPanel.events (h : s.onlyPanel t) : t.events = s.events := by rw [h]
theorem State.onlyPanel.mode (h : s.onlyPanel t) : t.mode = s.mode := by rw [h]
theorem State.onlyPanel.settings (h : s.onlyPanel t) : t.settings = s.settings := by rw [h]
theorem State.onlyPanel.time (h : s.onlyPanel t) : t.time = s.time := by rw [h]

/-! ### Patterns, drivers and horns -/

theorem joinDriver_panel (d : Fin 6) (s : State) : s.onlyPanel (joinDriver d s) := by
  unfold joinDriver; split <;> rfl

theorem redisplay_panel (w : Fin 192) (s : State) : s.onlyPanel (redisplay w s) := by
  unfold redisplay
  split
  · rfl
  · exact .trans (t := s.setWindow w { s.window w with shown := derivedPattern s w }) rfl (joinDriver_panel _ _)

theorem redisplayBoth_panel (v w : Fin 192) (s : State) : s.onlyPanel (redisplayBoth v w s) := by
  unfold redisplayBoth
  split
  · exact (redisplay_panel v s).trans (redisplay_panel w _)
  · exact (redisplay_panel w s).trans (redisplay_panel v _)

theorem redisplayAt_panel (w : Option (Fin 192)) (s : State) : s.onlyPanel (redisplayAt w s) := by
  unfold redisplayAt; split
  · exact redisplay_panel _ s
  · rfl

theorem each_panel {ι : Type} {f : ι → State → State} (hf : ∀ i (s : State), s.onlyPanel (f i s)) (is : List ι) (s : State) :
    s.onlyPanel (State.each is f s) :=
  State.each_rel State.onlyPanel.refl State.onlyPanel.trans hf is s

theorem redisplayAll_panel (s : State) : s.onlyPanel (redisplayAll s) := by
  unfold redisplayAll
  exact .trans (by rfl) (each_panel joinDriver_panel _ _)

theorem phaseOnWait_panel (s : State) : s.onlyPanel (phaseOnWait s) := rfl

theorem putHorn_panel (h : Fin 4) (v : Horn) (s : State) : s.onlyPanel (putHorn h v s) := by
  unfold putHorn; split <;> rfl

theorem hornEnter_panel (h : Option (Fin 4)) (s : State) : s.onlyPanel (hornEnter h s) := by
  unfold hornEnter; split
  · exact putHorn_panel _ _ s
  · rfl

theorem hornExit_panel (h : Option (Fin 4)) (s : State) : s.onlyPanel (hornExit h s) := by
  unfold hornExit; split
  · exact putHorn_panel _ _ s
  · rfl

theorem moveHorn_panel (old new : Option (Fin 4)) (w : Fin 192) (s : State) : s.onlyPanel (moveHorn old new w s) := by
  unfold moveHorn; split
  · exact (hornExit_panel _ s).trans (hornEnter_panel _ _)
  · rfl

/-! ### First-out and the window sequence -/

theorem unmark_panel (w : Option (Fin 192)) (s : State) : s.onlyPanel (unmark w s) := by
  unfold unmark; split <;> rfl

theorem rearm_panel (g : Fin 32) (s : State) : s.onlyPanel (rearm g s) := (unmark_panel _ s).trans (by rfl)

theorem recordFirstOut_panel (g : Fin 32) (w : Fin 192) (p : Fin 1024) (n : Nat) (s : State) :
    s.onlyPanel (recordFirstOut g w p n s) := (unmark_panel _ s).trans (by rfl)

theorem reachedDark_panel (w : Fin 192) (s : State) : s.onlyPanel (reachedDark w s) := by
  unfold reachedDark
  split
  · split
    · exact rearm_panel _ s
    · rfl
  · rfl

theorem enterFast_panel (w : Fin 192) (s : State) : s.onlyPanel (enterFast w s) := by
  unfold enterFast; split
  · rfl
  · exact .trans (t := s.setWindow w { s.window w with state := .fast }) rfl (hornEnter_panel _ _)

theorem goDark_panel (w : Fin 192) (s : State) : s.onlyPanel (goDark w s) :=
  .trans (t := s.setWindow w { s.window w with state := .dark }) rfl (reachedDark_panel w _)

theorem leaveFast_panel (w : Fin 192) (n : WindowState) (s : State) : s.onlyPanel (leaveFast w n s) := by
  have left : s.onlyPanel (hornExit (hornOfWindow s w) (s.setWindow w { s.window w with state := n })) :=
    .trans (t := s.setWindow w { s.window w with state := n }) rfl (hornExit_panel _ _)
  unfold leaveFast
  dsimp only
  split
  · exact left.trans (reachedDark_panel w _)
  · exact left

theorem clearSource_panel (w : Fin 192) (s : State) : s.onlyPanel (clearSource w s) := by
  have counted : s.onlyPanel (countClear w s) := rfl
  unfold clearSource
  dsimp only
  split
  · split
    · split
      · exact counted.trans (.trans (by rfl) (redisplay_panel w _))
      · exact counted.trans ((goDark_panel w _).trans (redisplay_panel w _))
    · exact counted.trans (redisplay_panel w _)
  · exact counted.trans (redisplay_panel w _)

theorem clearAt_panel (w : Option (Fin 192)) (s : State) : s.onlyPanel (clearAt w s) := by
  unfold clearAt; split
  · exact clearSource_panel _ s
  · rfl

theorem activate_none_panel (w : Fin 192) (s : State) : s.onlyPanel (activate w none s) := by
  have counted : s.onlyPanel (countActivation w s) := rfl
  unfold activate
  dsimp only
  split
  · exact counted.trans ((enterFast_panel w _).trans (redisplayBoth_panel _ w _))
  · exact counted.trans (redisplay_panel w _)

theorem activateAt_none_panel (w : Option (Fin 192)) (s : State) : s.onlyPanel (activateAt w none s) := by
  unfold activateAt; split
  · exact activate_none_panel _ s
  · rfl

theorem ackWindow_panel (w : Fin 192) (s : State) : s.onlyPanel (ackWindow w s) := by
  unfold ackWindow
  split
  · split
    · exact (leaveFast_panel w _ s).trans (redisplay_panel w _)
    · rfl
  · rfl

theorem resetWindow_panel (w : Fin 192) (s : State) : s.onlyPanel (resetWindow w s) := by
  unfold resetWindow; split
  · exact (goDark_panel w s).trans (redisplay_panel w _)
  · rfl

/-! ### Lamp test, frames and whole-unit changes -/

theorem lampOn_panel (s : State) : s.onlyPanel (lampOn s) := by
  unfold lampOn; split
  · rfl
  · exact .trans (by rfl) ((redisplayAll_panel _).trans (phaseOnWait_panel _))

theorem lampOff_panel (s : State) : s.onlyPanel (lampOff s) := by
  unfold lampOff; split
  · exact .trans (by rfl) ((redisplayAll_panel _).trans (phaseOnWait_panel _))
  · rfl

theorem windowRefreshExpiry_panel (s : State) : s.onlyPanel (windowRefreshExpiry s) := by
  unfold windowRefreshExpiry; split
  · exact .trans (by rfl) (each_panel joinDriver_panel _ _)
  · rfl

theorem quietHorns_panel (s : State) : s.onlyPanel (quietHorns s) := each_panel (fun h s => putHorn_panel h _ s) _ s

theorem rearmAll_panel (s : State) : s.onlyPanel (rearmAll s) := each_panel rearm_panel _ s

theorem lampEnds_panel (s : State) : s.onlyPanel (lampEnds s) := by
  unfold lampEnds; split <;> rfl

theorem setWindowStates_panel (f : Window → WindowState) (s : State) : s.onlyPanel (setWindowStates f s) := rfl

theorem annEnterConfiguring_panel (s : State) : s.onlyPanel (annEnterConfiguring s) :=
  (setWindowStates_panel _ s).trans ((rearmAll_panel _).trans ((quietHorns_panel _).trans ((lampEnds_panel _).trans
    (redisplayAll_panel _))))

theorem annEnterRun_panel (s : State) : s.onlyPanel (annEnterRun s) := by
  refine .trans (each_panel (fun w s => ?_) _ s) (redisplayAll_panel _)
  split
  · exact enterFast_panel w s
  · rfl

theorem annRestart_panel (s : State) : s.onlyPanel (annRestart s) :=
  (setWindowStates_panel _ s).trans ((rearmAll_panel _).trans ((quietHorns_panel _).trans ((lampEnds_panel _).trans
    ((redisplayAll_panel _).trans (phaseOnWait_panel _)))))

theorem joinAscending_panel (before : List (Fin 6)) (s : State) : s.onlyPanel (joinAscending before s) := rfl

/-! ### Table writes -/

theorem rewriteWindow_panel (w : Fin 192) (old d : WindowDef) (s : State) : s.onlyPanel (rewriteWindow w old d s) := by
  have rearmed : s.onlyPanel
      (if (s.window w).mark ∧ (old.group ≠ d.group ∨ d.eligible = false) then rearm old.group s else s) := by
    split
    · exact rearm_panel _ s
    · rfl
  have dark (u : State) : u.onlyPanel (if (u.window w).state = .slow ∧ d.sequence = .autoReset then goDark w u else u) := by
    split
    · exact goDark_panel w u
    · rfl
  have moved (u : State) : u.onlyPanel (if (u.window w).state = .fast ∧ old.group ≠ d.group
      then hornEnter (hornOfGroup u d.group) (hornExit (hornOfGroup u old.group) u) else u) := by
    split
    · exact (hornExit_panel _ u).trans (hornEnter_panel _ _)
    · rfl
  exact rearmed.trans (.trans (by rfl) ((dark _).trans ((moved _).trans (redisplayBoth_panel _ w _))))

theorem applyWindowWrite_panel (w : Fin 192) (d : WindowDef) (s : State) : s.onlyPanel (applyWindowWrite w d s) := by
  unfold applyWindowWrite
  dsimp only
  split
  · rfl
  · split
    · exact .trans (by rfl) (redisplay_panel w _)
    · exact rewriteWindow_panel w _ d s

theorem applyWindowClear_panel (w : Fin 192) (s : State) : s.onlyPanel (applyWindowClear w s) := by
  unfold applyWindowClear
  dsimp only
  split
  · rfl
  · split
    · rfl
    · rename_i old _ _
      have rearmed : s.onlyPanel (if (s.window w).mark then rearm old.group s else s) := by
        split
        · exact rearm_panel _ s
        · rfl
      have exited (u : State) : u.onlyPanel (if (s.window w).state = .fast then hornExit (hornOfGroup u old.group) u else u) := by
        split
        · exact hornExit_panel _ u
        · rfl
      exact rearmed.trans ((exited _).trans (.trans (by rfl) (redisplayBoth_panel _ w _)))

theorem applyDriver_panel (d : Fin 6) (a : Option Nat) (s : State) : s.onlyPanel (applyDriver d a s) := by
  unfold applyDriver
  split
  · exact .trans (by rfl) (joinDriver_panel d _)
  · rfl

theorem rewriteGroup_panel (g : Fin 32) (old d : GroupDef) (s : State) : s.onlyPanel (rewriteGroup g old d s) := by
  have written : s.onlyPanel (s.setGroup g { s.group g with defn := some d }) := rfl
  have rearmed (u : State) (marked : Option (Fin 192)) : u.onlyPanel
      (if d.firstOut = false ∧ (u.group g).state ≠ .armed then redisplayAt marked (rearm g u) else u) := by
    split
    · exact (rearm_panel g u).trans (redisplayAt_panel _ _)
    · rfl
  unfold rewriteGroup
  dsimp only
  split
  · exact written.trans (rearmed _ _)
  · exact written.trans ((rearmed _ _).trans (each_panel (moveHorn_panel _ _) _ _))

theorem applyGroupWrite_panel (g : Fin 32) (d : GroupDef) (s : State) : s.onlyPanel (applyGroupWrite g d s) := by
  unfold applyGroupWrite
  split
  · rfl
  · split
    · rfl
    · exact rewriteGroup_panel g _ d s

theorem applyHorn_panel (h : Fin 4) (v : Sound) (s : State) : s.onlyPanel (applyHorn h v s) := by
  unfold applyHorn; dsimp only; split <;> rfl

/-! ### Offers -/

/-- What an offer does to the queue rests on the queue, the mode, the settings and the Time Base (R147, R149, R154). -/
theorem offer_events_congr (o : Offer) {s t : State} (events : t.events = s.events) (mode : t.mode = s.mode)
    (settings : t.settings = s.settings) (time : t.time = s.time) : (offer o t).events = (offer o s).events := by
  simp only [offer, acceptRecord, refuseRecord, completeRecord, startBatch, events, mode, settings, time]
  split
  · rw [events]
  · split
    · split
      · split
        · rfl
        · split <;> rfl
      · rfl
    · rfl

theorem State.onlyPanel.offer_events (h : s.onlyPanel t) (o : Offer) : (offer o t).events = (offer o s).events :=
  offer_events_congr o h.events h.mode h.settings h.time

/-- The queue after an operation: as it was, or after one offer. -/
def State.offersAtMostOne (s t : State) : Prop := t.events = s.events ∨ ∃ o, t.events = (offer o s).events

theorem takeOffer_offers (g : Fin 32) (w : Fin 192) (p : Fin 1024) (n : Nat) (s : State) :
    s.offersAtMostOne (takeOffer g w p n s) := by
  have recorded := recordFirstOut_panel g w p n s
  unfold takeOffer
  split
  · dsimp only
    split
    · split
      · exact .inr ⟨_, (recorded.trans (State.onlyPanel.refl _ : (recordFirstOut g w p n s).onlyPanel
          ((recordFirstOut g w p n s).setGroup g _))).offer_events _⟩
      · exact .inl recorded.events
    · exact .inl rfl
  · dsimp only
    split
    · split
      · exact .inl recorded.events
      · exact .inl rfl
    · exact .inl rfl
  · exact .inl rfl

theorem offerActivation_offers (w : Fin 192) (p : Fin 1024) (n : Nat) (s : State) :
    s.offersAtMostOne (offerActivation w p n s) := by
  unfold offerActivation
  split
  · split
    · split
      · exact takeOffer_offers _ w p n s
      · exact .inl rfl
    · exact .inl rfl
  · exact .inl rfl

/-- An activation offers at most one record, FIRST_OUT (R89). -/
theorem activate_offers (w : Fin 192) (capture : Option (Fin 1024 × Nat)) (s : State) :
    s.offersAtMostOne (activate w capture s) := by
  cases capture with
  | none => exact .inl (activate_none_panel w s).events
  | some c =>
    obtain ⟨p, n⟩ := c
    have counted : s.onlyPanel (countActivation w s) := rfl
    unfold activate
    dsimp only
    split
    · have fast := counted.trans (enterFast_panel w (countActivation w s))
      rcases offerActivation_offers w p n (enterFast w (countActivation w s)) with same | ⟨o, offered⟩
      · exact .inl ((redisplayBoth_panel _ w _).events.trans (same.trans fast.events))
      · exact .inr ⟨o, (redisplayBoth_panel _ w _).events.trans (offered.trans (fast.offer_events o))⟩
    · exact .inl (counted.trans (redisplay_panel w _)).events

end Sys2Proof.Machine

/-! Which rows change what every command reads: node address, mode, freeze latch, settings, station time, and the waiting reply. -/

namespace Sys2Proof.Machine

/-! ### The relations -/

/-- Nothing but the inside of the blocks differs: not the node address, the mode, the freeze latch, the settings record, station time, the
reply that waits, or the inputs of the model. -/
def State.withinBlocks (s t : State) : Prop :=
  t = { s with
    resetLow := t.resetLow, portA := t.portA, portB := t.portB, unknownSource := t.unknownSource
    ignoredButtons := t.ignoredButtons, unknownConfirms := t.unknownConfirms, time := { t.time with station := s.time.station }
    modules := t.modules, points := t.points, decay := t.decay, ann := t.ann, elements := t.elements, trip := t.trip
    events := t.events }

/-- Nothing but the inside of the blocks and station time differs. -/
def State.withinTime (s t : State) : Prop := { s with time := { s.time with station := t.time.station } }.withinBlocks t

/-- Nothing but the inside of the blocks, the mode, the freeze latch and the settings record differs. -/
def State.withinCommand (s t : State) : Prop :=
  { s with mode := t.mode, frozen := t.frozen, settings := t.settings }.withinBlocks t

variable {s t u : State}

theorem State.withinBlocks.refl (s : State) : s.withinBlocks s := rfl

theorem State.withinBlocks.trans (h : s.withinBlocks t) (k : t.withinBlocks u) : s.withinBlocks u := by
  unfold State.withinBlocks at *; rw [k, h]

theorem State.withinTime.trans (h : s.withinTime t) (k : t.withinTime u) : s.withinTime u := by
  unfold State.withinTime State.withinBlocks at *; rw [k, h]

theorem State.withinBlocks.time (h : s.withinBlocks t) : s.withinTime t := by
  unfold State.withinTime State.withinBlocks at *; rw [h]

theorem State.withinBlocks.command (h : s.withinBlocks t) : s.withinCommand t := by
  unfold State.withinCommand State.withinBlocks at *; rw [h]

theorem State.onlyChannels.blocks (h : s.onlyChannels t) : s.onlyModules t := h.elements.points.modules
theorem State.onlyAnnunciation.blocks (h : s.onlyAnnunciation t) : s.onlyModules t := h.channels.blocks

theorem State.onlyModules.within (h : s.onlyModules t) : s.withinBlocks t := by
  unfold State.onlyModules at h; unfold State.withinBlocks; rw [h]

theorem State.onlyPoints.within (h : s.onlyPoints t) : s.withinBlocks t := h.modules.within
theorem State.onlyElements.within (h : s.onlyElements t) : s.withinBlocks t := h.points.within
theorem State.onlyChannels.within (h : s.onlyChannels t) : s.withinBlocks t := h.elements.within
theorem State.onlyAnnunciation.within (h : s.onlyAnnunciation t) : s.withinBlocks t := h.channels.within
theorem State.onlyEvents.within (h : s.onlyEvents t) : s.withinBlocks t := h.ann.within

theorem State.onlyScan.withinTime (h : s.onlyScan t) : s.withinTime t := by
  unfold State.onlyScan at h; unfold State.withinTime State.withinBlocks; rw [h]

/-! ### The link -/

theorem setPort_within (p : Port) (v : PortState) (s : State) : s.withinBlocks (s.setPort p v) := by
  cases p <;> rfl

theorem judgeFlow_within (p : Port) (s : State) : s.withinBlocks (judgeFlow p s) := setPort_within _ _ _

theorem furtherPause_within (p : Port) (s : State) : s.withinBlocks (furtherPause p s) := by
  unfold furtherPause; split
  · exact setPort_within _ _ _
  · rfl

theorem takePlace_within (p : Port) (h : Held) (s : State) : s.withinBlocks (takePlace p h s) :=
  (furtherPause_within p s).trans ((setPort_within _ _ _).trans (judgeFlow_within _ _))

theorem givePlace_within (p : Port) (sel : Held → Bool) (s : State) : s.withinBlocks (givePlace p sel s) :=
  (setPort_within _ _ s).trans (judgeFlow_within _ _)

theorem giveLast_within (p : Port) (s : State) : s.withinBlocks (giveLast p s) :=
  (setPort_within _ _ s).trans (judgeFlow_within _ _)

theorem transmitEnd_within (p : Port) (s : State) : s.withinBlocks (transmitEnd p s) := by
  unfold transmitEnd
  split
  · dsimp only
    split
    · exact (setPort_within _ _ s).trans (givePlace_within _ _ _)
    · exact setPort_within _ _ s
  · rfl

theorem controlByteSent_within (p : Port) (s : State) : s.withinBlocks (controlByteSent p s) := by
  unfold controlByteSent; split
  · exact setPort_within _ _ s
  · rfl

theorem resumeReceived_within (p : Port) (s : State) : s.withinBlocks (resumeReceived p s) := by
  unfold resumeReceived; split
  · exact setPort_within _ _ s
  · rfl

theorem selfResumeExpiry_within (p : Port) (s : State) : s.withinBlocks (selfResumeExpiry p s) := by
  unfold selfResumeExpiry; split
  · exact setPort_within _ _ s
  · rfl

theorem originate_within (p : Port) (dest kind : Byte) (payload : List Byte) (s : State) :
    s.withinBlocks (originate p dest kind payload s) :=
  (setPort_within _ _ s).trans (setPort_within _ _ _)

theorem passThroughHandover_within (p : Port) (s : State) : s.withinBlocks (passThroughHandover p s) := by
  unfold passThroughHandover
  split
  · split
    · exact (setPort_within _ _ s).trans ((setPort_within _ _ _).trans (setPort_within _ _ _))
    · rfl
  · rfl

theorem eventHandover_within (s : State) : s.withinBlocks (eventHandover s) := by
  unfold eventHandover
  split
  · exact (originate_within _ _ _ _ s).trans ((setPort_within _ _ _).trans (removeEvents_touches _).within)
  · rfl

theorem phaseHandover_within (s : State) : s.withinBlocks (phaseHandover s) := by
  unfold phaseHandover; split
  · exact (originate_within .B broadcast kindPhase (phasePayload s) s).trans (by rfl)
  · rfl

theorem windowHandover_within (s : State) : s.withinBlocks (windowHandover s) := by
  unfold windowHandover
  split
  · split
    · split
      · exact (originate_within .B _ _ _ s).trans ((setPort_within _ _ _).trans (by rfl))
      · rfl
    · rfl
  · rfl

theorem tripHandover_within (s : State) : s.withinBlocks (tripHandover s) := by
  unfold tripHandover
  split
  · split
    · split
      · exact (originate_within .B _ _ _ s).trans (State.withinBlocks.trans (by rfl) (recordCommand_touches _ _ _ _).within)
      · rfl
    · rfl
  · rfl

theorem frameAbandoned_within (p : Port) (cs : List RxChar) (s : State) : s.withinBlocks (frameAbandoned p cs s) := by
  unfold frameAbandoned
  split
  · split
    · exact setPort_within _ _ s
    · exact setPort_within _ _ s
    · rfl
  · rfl

/-! ### TIME values and receptions -/

theorem takeTime_withinTime (payload : List Byte) (s : State) : s.withinTime (takeTime payload s) := by
  unfold takeTime applyTime
  split
  · dsimp only
    split
    · rfl
    split
    · rfl
    · exact State.withinTime.trans (t := refreshSync (stepBack (natOfBytes payload) s)) rfl
        (offerNow_touches _ _ _ _ _ _).within.time
  · rfl

theorem direction_B_ne_time (node : Nat) (f : Frame) : direction node .B f ≠ .time ∧ direction node .B f ≠ .timeAndForward := by
  unfold direction directAddressed
  split
  · dsimp only; split <;> exact ⟨nofun, nofun⟩
  · split
    · simp_all
    · exact ⟨nofun, nofun⟩

theorem acceptFrame_withinTime (p : Port) (f : Frame) (s : State) : s.withinTime (acceptFrame p f s) := by
  have placed (forward : Bool) := (takePlace_within p (s.place p f forward) s).time
  unfold acceptFrame
  split
  · exact placed _
  · exact (placed _).trans ((takeTime_withinTime _ _).trans (giveLast_within _ _).time)
  · exact (placed _).trans (takeTime_withinTime _ _)
  · exact placed _
  · exact (placed _).trans (giveLast_within _ _).time
  · exact (placed _).trans ((giveLast_within _ _).time.trans (by rfl))
  · exact (placed _).trans ((giveLast_within _ _).time.trans (by rfl))

/-- Only port A takes TIME frames (R164). -/
theorem acceptFrame_B_within (f : Frame) (s : State) : s.withinBlocks (acceptFrame .B f s) := by
  have placed (forward : Bool) := takePlace_within .B (s.place .B f forward) s
  obtain ⟨noTime, noForward⟩ := direction_B_ne_time s.node f
  unfold acceptFrame
  split
  · exact placed _
  · exact absurd ‹_› noTime
  · exact absurd ‹_› noForward
  · exact placed _
  · exact (placed _).trans (giveLast_within _ _)
  · exact (placed _).trans ((giveLast_within _ _).trans (by rfl))
  · exact (placed _).trans ((giveLast_within _ _).trans (by rfl))

/-- What holds of every accepted frame's effect, and composes, holds of a reception: the rest is the port's own (R164). -/
theorem frameReceived_rel {R : State → State → Prop} (trans : ∀ {s t u}, R s t → R t u → R s u)
    (within : ∀ {s t}, s.withinBlocks t → R s t) {p : Port} (accept : ∀ f s, R s (acceptFrame p f s)) (cs : List RxChar)
    (s : State) : R s (frameReceived p cs s) := by
  have free : R s (receiverFree p s) := within (setPort_within _ _ s)
  unfold frameReceived
  split
  · split
    · dsimp only
      split
      · exact trans free (within (setPort_within _ _ _))
      · split
        · refine trans free ?_
          unfold judgeFrame
          split
          · exact within (setPort_within _ _ _)
          split
          · exact within ((setPort_within _ _ _).trans (furtherPause_within _ _))
          · exact accept _ _
        · exact free
    · exact within (State.withinBlocks.refl s)
  · exact within (State.withinBlocks.refl s)

theorem timeArrives_withinTime (a : TimeArrival) (s : State) : s.withinTime (timeArrives a s) :=
  (timeArrives_touches a s).withinTime

theorem timeFrame_withinTime (dest src seq : Byte) (payload : List Byte) (s : State) :
    s.withinTime (timeFrame dest src seq payload s) := by
  unfold timeFrame; split
  · exact timeArrives_withinTime _ s
  · rfl

/-! ### SCAN and CONFIRM frames, buttons -/

theorem takeScan_withinTime (between : List (List TimeArrival)) (h : Held) (s : State) : s.withinTime (takeScan between h s) := by
  unfold takeScan
  split
  · rfl
  · split
    · exact (acceptScan_touches _ _ _ _ _ _).withinTime
    · rfl

/-- With no TIME frame between them, the reports of a frame leave station time as it is (R34). -/
theorem takeOrdered_within {between : List (List TimeArrival)} (none : ∀ xs ∈ between, xs = []) (m : Fin 16) (rs : List Report)
    (s : State) : s.withinBlocks (takeOrdered m rs between s) := by
  induction rs generalizing between s with
  | nil => rfl
  | cons r rs ih =>
    have first : between.headD [] = [] := by
      cases between with
      | nil => rfl
      | cons xs _ => exact none xs List.mem_cons_self
    simp only [takeOrdered, first, State.each_nil]
    exact (takeReport_touches m _ r s).within.trans (ih (fun xs hx => none xs (List.mem_of_mem_tail hx)) _)

theorem takeReports_within {between : List (List TimeArrival)} (none : ∀ xs ∈ between, xs = []) (m : Fin 16) (rs : List Report)
    (s : State) : s.withinBlocks (takeReports m between rs s) := takeOrdered_within none m _ s

theorem acceptScan_within {between : List (List TimeArrival)} (none : ∀ xs ∈ between, xs = []) (m : Fin 16) (d : ModuleDef)
    (seq : Nat) (rs : List Report) (s : State) : s.withinBlocks (acceptScan m d between seq rs s) := by
  have supervised := (setInputModule_touches m { s.inputModule m with supervision := some d.supervision } s).within
  have taken (u : State) : u.withinBlocks (takeReports m between rs (setLastSeq m seq u)) :=
    (setLastSeq_touches m seq u).within.trans (takeReports_within none m rs _)
  unfold acceptScan
  dsimp only
  split
  · exact supervised.trans ((setInputModule_touches m _ _).within.trans (taken _))
  · exact supervised.trans ((endSilence_touches m d _).within.trans (taken _))
  · split
    · refine supervised.trans ?_
      unfold takeLive
      split
      · exact (setInputModule_touches m _ _).within
      split
      · exact taken _
      · exact (offerNow_touches _ _ _ _ _ _).within.trans (taken _)
    · exact supervised.trans (taken _)

theorem takeScan_within {between : List (List TimeArrival)} (none : ∀ xs ∈ between, xs = []) (h : Held) (s : State) :
    s.withinBlocks (takeScan between h s) := by
  unfold takeScan
  split
  · rfl
  · split
    · exact acceptScan_within none _ _ _ _ _
    · rfl

theorem scanFrame_withinTime (s : State) : ∃ a, { s with arriving := a }.withinTime (scanFrame s) := by
  unfold scanFrame
  split
  · refine ⟨[], ?_⟩
    have h := (takeScan_withinTime s.arriving ‹_› s).trans (givePlace_within .A (Held.owned kindScan) _).time
    unfold State.withinTime State.withinBlocks at *
    rw [h]
  · exact ⟨s.arriving, rfl⟩

theorem scanFrame_station {s : State} (none : ∀ xs ∈ s.arriving, xs = []) : (scanFrame s).time.station = s.time.station := by
  unfold scanFrame
  split
  · have h := (takeScan_within none ‹_› s).trans (givePlace_within .A (Held.owned kindScan) _)
    unfold State.withinBlocks at h
    dsimp only
    rw [h]
  · rfl

theorem handleConfirm_within (f : Frame) (s : State) : s.withinBlocks (handleConfirm f s) := by
  unfold handleConfirm
  split
  · rfl
  · split
    · rfl
    · exact (matchConfirm_touches _ _ _ _).within

theorem confirmFrame_within (s : State) : s.withinBlocks (confirmFrame s) := by
  unfold confirmFrame; split
  · exact (handleConfirm_within _ s).trans (givePlace_within _ _ _)
  · rfl

theorem takeButton_within {act : State → State} (h : ∀ s : State, s.withinBlocks (act s)) (s : State) : s.withinBlocks (takeButton act s) :=
  (h s).trans (givePlace_within _ _ _)

theorem buttonAck_within (s : State) : s.withinBlocks (buttonAck s) := by
  unfold buttonAck; split
  · exact takeButton_within (fun s => (ackGroup_touches _ _ s).within) s
  · rfl

theorem buttonReset_within (s : State) : s.withinBlocks (buttonReset s) := by
  unfold buttonReset; split
  · exact takeButton_within (fun s => (resetGroup_touches _ s).within) s
  · rfl

theorem buttonSilence_within (s : State) : s.withinBlocks (buttonSilence s) := by
  unfold buttonSilence; split
  · exact takeButton_within (fun s => (silenceHorn_touches _ s).within) s
  · rfl

theorem buttonTestOn_within (s : State) : s.withinBlocks (buttonTestOn s) := by
  unfold buttonTestOn; split
  · exact takeButton_within (fun s => (lampOn_touches s).within) s
  · rfl

theorem buttonTestOff_within (s : State) : s.withinBlocks (buttonTestOff s) := by
  unfold buttonTestOff; split
  · exact takeButton_within (fun s => (lampOff_touches s).within) s
  · rfl

theorem buttonIgnored_within (s : State) : s.withinBlocks (buttonIgnored s) := by
  unfold buttonIgnored; split
  · exact takeButton_within (act := countIgnoredButton) (fun _ => rfl) s
  · rfl

theorem syncExpiry_within (s : State) : s.withinBlocks (syncExpiry s) := by
  unfold syncExpiry; split <;> rfl

theorem chatterDecayExpiry_within (s : State) : s.withinBlocks (chatterDecayExpiry s) := by
  unfold chatterDecayExpiry
  split
  · exact State.withinBlocks.trans (by rfl) (State.each_rel State.onlyPoints.refl State.onlyPoints.trans decayPoint_touches _ _).within
  · rfl

/-! ### Management commands -/

theorem applySettings_within (v : Settings) (s : State) : { s with settings := v }.withinBlocks (applySettings v s) := by
  have judged := (judgeFlow_within .A { s with settings := v }).trans (judgeFlow_within .B _)
  unfold applySettings
  dsimp only
  split
  · exact judged
  · exact judged.trans (State.each_rel State.withinBlocks.refl State.withinBlocks.trans
      (fun _ u => (clearAt_touches _ u).within.trans (activateAt_touches _ _ _).within) _ _)

theorem leaveTrip_touches (k : Fin 8) (s : State) : s.onlyChannels (leaveTrip k s) := rfl

theorem dropAwaited_touches (k : Fin 8) (o : Fin 16) (s : State) : s.onlyChannels (dropAwaited k o s) := rfl

theorem settleModule_touches (k : Fin 8) (s : State) : s.onlyChannels (settleModule k s) := by
  unfold settleModule; split
  · exact leaveTrip_touches k s
  · exact joinTrip_touches k s

theorem applyOutput_touches (k : Fin 8) (address : Option Nat) (timeout : Nat) (s : State) :
    s.onlyChannels (applyOutput k address timeout s) := by
  unfold applyOutput
  dsimp only
  split
  · rfl
  · split
    · exact (setOutputModule_touches k _ s).trans (joinTrip_touches k _)
    · exact (setOutputModule_touches k _ s).trans (joinTrip_touches k _)
    · exact (setOutputModule_touches k _ s).trans ((leaveTrip_touches k _).trans
        (State.each_rel State.onlyChannels.refl State.onlyChannels.trans (becomeConfirmed_touches false) _ _))

theorem applyChannelWrite_touches (c : Fin 16) (d : ChannelDef) (s : State) : s.onlyChannels (applyChannelWrite c d s) := by
  unfold applyChannelWrite
  split
  · exact (setChannel_touches c _ s).trans (joinTrip_touches _ _)
  · dsimp only
    split
    · rfl
    · exact (setChannel_touches c _ s).trans ((dropAwaited_touches _ _ _).trans ((becomeConfirmed_touches _ c _).trans
        ((settleModule_touches _ _).trans (joinTrip_touches _ _))))

theorem applyChannelClear_touches (c : Fin 16) (s : State) : s.onlyChannels (applyChannelClear c s) := by
  unfold applyChannelClear
  split
  · rfl
  · exact (dropAwaited_touches _ _ s).trans ((becomeConfirmed_touches _ c _).trans
      ((setChannel_touches c _ _).trans (settleModule_touches _ _)))

theorem restartAnnunciation_touches (s : State) : s.onlyPoints (restartAnnunciation s) :=
  (offerNow_touches _ _ _ _ _ s).ann.channels.elements.points.trans
    ((pointsRestart_touches _).trans (annRestart_touches _).channels.elements.points)

/-- An effect inside the blocks leaves all but the blocks as it is; a clear of the counts is the only other one. -/
theorem BlockEffect.touches {s t : State} (h : BlockEffect s t) : s.onlyModules t ∨ t = Machine.clearCounters s := by
  cases h with
  | idle => exact .inl rfl
  | moduleWrite m d _ => exact .inl (applyModuleWrite_touches m d s)
  | moduleClear m _ => exact .inl (applyModuleClear_touches m s)
  | pointWrite p d => exact .inl (applyPointWrite_touches p d s).modules
  | pointClear p => exact .inl (applyPointClear_touches p s).modules
  | windowWrite w d _ => exact .inl (applyWindowWrite_panel w d s).ann.blocks
  | windowClear w => exact .inl (applyWindowClear_panel w s).ann.blocks
  | driver d a => exact .inl (applyDriver_panel d a s).ann.blocks
  | groupWrite g d => exact .inl (applyGroupWrite_panel g d s).ann.blocks
  | groupClear g _ => exact .inl (setGroup_touches g {} s).blocks
  | horn h v => exact .inl (applyHorn_panel h v s).ann.blocks
  | pattern i v => exact .inl rfl
  | elementWrite e d => exact .inl (applyElementWrite_touches e d s).points.modules
  | elementClear e => exact .inl (applyElementClear_touches e s).points.modules
  | output k a n => exact .inl (applyOutput_touches k a n s).blocks
  | channelWrite c d => exact .inl (applyChannelWrite_touches c d s).blocks
  | channelClear c => exact .inl (applyChannelClear_touches c s).blocks
  | restart _ => exact .inl (restartAnnunciation_touches s).modules
  | ack g origin => exact .inl (ackGroup_touches g origin s).blocks
  | reset g => exact .inl (resetGroup_touches g s).blocks
  | silence h => exact .inl (silenceHorn_touches h s).blocks
  | lampOn => exact .inl (lampOn_touches s).blocks
  | lampOff => exact .inl (lampOff_touches s).blocks
  | lockout c _ => exact .inl ((setChannel_touches c _ s).trans ((channelRecord_touches _ c _).ann.channels.trans
      (outputChanged_touches c false _))).blocks
  | force on e => exact .inl (forceElement_touches _ on e s).points.modules
  | clearCounters => exact .inr rfl

theorem BlockEffect.within {s t : State} (h : BlockEffect s t) : s.withinBlocks t := by
  rcases h.touches with modules | rfl
  · exact modules.within
  · rfl

theorem pointsToRun_touches (s : State) : { s with decay := some s.settings.chatterInterval }.onlyPoints (pointsToRun s) :=
  State.each_rel State.onlyPoints.refl State.onlyPoints.trans (reannounce_touches .standing) _ _

theorem pointsToRun_within (s : State) : s.withinBlocks (pointsToRun s) :=
  State.withinBlocks.trans (t := { s with decay := some s.settings.chatterInterval }) rfl (pointsToRun_touches s).within

theorem pointToConfiguring_touches (p : Fin 1024) (s : State) : s.onlyPoints (pointToConfiguring p s) := by
  unfold pointToConfiguring
  dsimp only
  split
  · split
    · exact (setPoint_touches p _ s).trans (clearAt_touches _ _).channels.elements.points
    · rfl
  · rfl

theorem pointsToConfiguring_touches (s : State) : { s with decay := none }.onlyPoints (pointsToConfiguring s) :=
  State.each_rel State.onlyPoints.refl State.onlyPoints.trans pointToConfiguring_touches _ _

theorem pointsToConfiguring_within (s : State) : s.withinBlocks (pointsToConfiguring s) :=
  State.withinBlocks.trans (t := { s with decay := none }) rfl (pointsToConfiguring_touches s).within

theorem offerModeChange_touches (m : Mode) (s : State) : s.onlyEvents (offerModeChange m s) := offerNow_touches _ _ _ _ _ s

theorem enterRun_within (s : State) : { s with mode := .run }.withinBlocks (enterRun s) := by
  refine .trans ?_ (joinAscending_panel _ _).ann.within
  refine .trans ?_ (judgeLines_touches _).within
  refine .trans ?_ (elementsToRun_touches _).within
  refine .trans ?_ (modulesToRun_touches _).within
  refine .trans ?_ (annEnterRun_touches _).within
  refine .trans ?_ (pointsToRun_within _)
  refine .trans ?_ (queueOverflow_touches _).within
  exact (offerNow_touches _ _ _ _ _ _).within

theorem enterTest_within (s : State) : { s with mode := .test }.withinBlocks (enterTest s) := by
  refine .trans ?_ (joinTripAll_touches _).within
  refine .trans ?_ (judgeLines_touches _).within
  exact (offerNow_touches _ _ _ _ _ _).within

theorem leaveTest_within (s : State) : { s with mode := .run }.withinBlocks (leaveTest s) := by
  refine .trans ?_ (joinAscending_panel _ _).ann.within
  refine .trans ?_ (exitTest_touches _).within
  refine .trans ?_ (clearForces_touches _).within
  exact (offerNow_touches _ _ _ _ _ _).within

theorem enterConfiguring_within (s : State) : { s with mode := .configuring }.withinBlocks (enterConfiguring s) := by
  refine .trans ?_ (joinAscending_panel _ _).ann.within
  refine .trans ?_ (judgeLines_touches _).within
  refine .trans ?_ (elementsToConfiguring_touches _).within
  refine .trans ?_ (annEnterConfiguring_touches _).within
  refine .trans ?_ (pointsToConfiguring_within _)
  have h := (offerNow_touches .modeChange .trip noSubject Mode.configuring.code 0 s).within
  unfold State.withinBlocks at *
  rw [offerModeChange, h]

/-- A command changes the inside of the blocks and at most mode, settings and freeze latch, which it does not release. -/
theorem CommandEffect.within {s t : State} (h : CommandEffect s t) :
    s.withinCommand t ∧ (t.frozen = s.frozen ∨ t.frozen = true) := by
  have of_blocks {u : State} (h : u.withinBlocks t) (hu : s.withinCommand u) (frozen : u.frozen = s.frozen) :
      s.withinCommand t ∧ (t.frozen = s.frozen ∨ t.frozen = true) := by
    unfold State.withinCommand State.withinBlocks at *
    constructor
    · rw [h, hu]
    · rw [h]; exact .inl frozen
  cases h with
  | block h => exact of_blocks h.within rfl rfl
  | settings v _ => exact of_blocks (applySettings_within v s) rfl rfl
  | enterRun _ _ => exact of_blocks (enterRun_within s) rfl rfl
  | leaveTest _ => exact of_blocks (leaveTest_within s) rfl rfl
  | enterTest _ => exact of_blocks (enterTest_within s) rfl rfl
  | enterConfiguring _ => exact of_blocks (enterConfiguring_within s) rfl rfl
  | freeze => exact ⟨rfl, .inr rfl⟩

/-! ### Settings, modes and latch: what each leaves of the three -/

theorem State.withinBlocks.keeps {s t : State} (h : s.withinBlocks t) :
    t.mode = s.mode ∧ t.frozen = s.frozen ∧ t.settings = s.settings := by
  unfold State.withinBlocks at h
  rw [h]
  exact ⟨rfl, rfl, rfl⟩

theorem writeSettings_keeps (index : Nat) (entry : List Byte) (s : State) :
    (writeSettings index entry s).state.mode = s.mode ∧ (writeSettings index entry s).state.frozen = s.frozen := by
  unfold writeSettings
  split
  · exact ⟨rfl, rfl⟩
  split
  · exact ⟨rfl, rfl⟩
  split
  · exact ⟨rfl, rfl⟩
  · split
    · exact ⟨rfl, rfl⟩
    · have h := (applySettings_within ‹_› s).keeps
      exact ⟨h.1, h.2.1⟩

theorem clearSettings_keeps (index : Nat) (s : State) :
    (clearSettings index s).state.mode = s.mode ∧ (clearSettings index s).state.frozen = s.frozen := by
  unfold clearSettings
  split
  · exact ⟨rfl, rfl⟩
  · have h := (applySettings_within {} s).keeps
    exact ⟨h.1, h.2.1⟩

theorem setModeRun_keeps (s : State) :
    (setModeRun s).state.frozen = s.frozen ∧ (setModeRun s).state.settings = s.settings := by
  unfold setModeRun
  split
  · exact ⟨rfl, rfl⟩
  · exact (leaveTest_within s).keeps.2
  · split
    · exact ⟨rfl, rfl⟩
    · exact (enterRun_within s).keeps.2

theorem setModeTest_keeps (s : State) :
    (setModeTest s).state.frozen = s.frozen ∧ (setModeTest s).state.settings = s.settings := by
  unfold setModeTest
  split
  · exact ⟨rfl, rfl⟩
  · exact ⟨rfl, rfl⟩
  · split
    · exact ⟨rfl, rfl⟩
    · exact (enterTest_within s).keeps.2

theorem setModeConfiguring_keeps (s : State) :
    (setModeConfiguring s).state.frozen = s.frozen ∧ (setModeConfiguring s).state.settings = s.settings := by
  unfold setModeConfiguring
  split
  · exact ⟨rfl, rfl⟩
  split
  · exact ⟨rfl, rfl⟩
  split
  · exact ⟨rfl, rfl⟩
  · exact (enterConfiguring_within s).keeps.2

theorem freezeMatrix_keeps (s : State) :
    (freezeMatrix s).state.mode = s.mode ∧ (freezeMatrix s).state.settings = s.settings := by
  unfold freezeMatrix
  split
  · exact ⟨rfl, rfl⟩
  split <;> exact ⟨rfl, rfl⟩

/-! ### The whole part -/

/-- The changes of the whole part that O3 allows a row `c` from `s` to `t`. -/
def allowedChanges (c : Instr) (s t : State) : Prop :=
  t.pending = s.pending ∧ (t.arriving = s.arriving ∨ c = .scanFrame) ∧
  (t.node ≠ s.node → ∃ ads rsa rsb, c = .coldReset ads rsa rsb) ∧
  (t.mode ≠ s.mode → (∃ ads rsa rsb, c = .coldReset ads rsa rsb) ∨ c = .cmdFrame ∨
    ∃ src, c = .setModeRun src ∨ c = .setModeTest src ∨ c = .setModeConfiguring src) ∧
  (t.frozen ≠ s.frozen → (∃ ads rsa rsb, c = .coldReset ads rsa rsb) ∨
    (t.frozen = true ∧ (c = .cmdFrame ∨ ∃ src, c = .freezeMatrix src))) ∧
  (t.settings ≠ s.settings → (∃ ads rsa rsb, c = .coldReset ads rsa rsb) ∨ c = .cmdFrame ∨
    ∃ src index, c = .clearSettings src index ∨ ∃ entry, c = .writeSettings src index entry) ∧
  (t.time.station ≠ s.time.station → (∃ ads rsa rsb, c = .coldReset ads rsa rsb) ∨ c = .localTick ∨
    (∃ cs, c = .frameReceived .A cs) ∨ (∃ dest src seq payload, c = .timeFrame dest src seq payload) ∨
    (c = .scanFrame ∧ ∃ xs ∈ s.arriving, xs ≠ [])) ∧
  (t.reply = none → s.reply ≠ none → (∃ ads rsa rsb, c = .coldReset ads rsa rsb) ∨ c = .replyHandover)

namespace allowedChanges

variable {c : Instr} {s t : State}

theorem of_within (h : s.withinBlocks t) : allowedChanges c s t := by
  rw [State.withinBlocks] at h
  rw [h]
  exact ⟨rfl, .inl rfl, fun h => absurd rfl h, fun h => absurd rfl h, fun h => absurd rfl h, fun h => absurd rfl h,
    fun h => absurd rfl h, fun h k => absurd h k⟩

theorem of_running {f : State → State} (h : running s f = .next t) (hf : s.withinBlocks (f s)) : allowedChanges c s t := by
  rcases running_cases h with rfl | ⟨-, rfl⟩
  · exact of_within (State.withinBlocks.refl t)
  · exact of_within hf

theorem of_running_of {f : State → State} (h : running s f = .next t) (hf : allowedChanges c s (f s)) : allowedChanges c s t := by
  rcases running_cases h with rfl | ⟨-, rfl⟩
  · exact of_within (State.withinBlocks.refl t)
  · exact hf

/-- A row that may change station time, and nothing else that every command reads. -/
theorem of_running_time {f : State → State} (h : running s f = .next t) (hf : s.withinTime (f s))
    (row : c = .localTick ∨ (∃ cs, c = .frameReceived .A cs) ∨ ∃ dest src seq payload, c = .timeFrame dest src seq payload) :
    allowedChanges c s t := by
  rcases running_cases h with rfl | ⟨-, rfl⟩
  · exact of_within (State.withinBlocks.refl t)
  · unfold State.withinTime State.withinBlocks at hf
    rw [hf]
    refine ⟨rfl, .inl rfl, fun h => absurd rfl h, fun h => absurd rfl h, fun h => absurd rfl h, fun h => absurd rfl h,
      fun _ => ?_, fun h k => absurd h k⟩
    rcases row with row | row | row
    · exact .inr (.inl row)
    · exact .inr (.inr (.inl row))
    · exact .inr (.inr (.inr (.inl row)))

theorem of_scanFrame (h : exec .scanFrame s = .next t) : allowedChanges .scanFrame s t := by
  rcases running_cases (f := scanFrame) h with rfl | ⟨-, rfl⟩
  · exact of_within (State.withinBlocks.refl t)
  · obtain ⟨a, ha⟩ := scanFrame_withinTime s
    unfold State.withinTime State.withinBlocks at ha
    have station (h : (scanFrame s).time.station ≠ s.time.station) : ∃ xs ∈ s.arriving, xs ≠ [] := by
      by_contra none
      exact h (scanFrame_station fun xs hx => by_contra fun hne => none ⟨xs, hx, hne⟩)
    refine ⟨?_, .inr rfl, ?_, ?_, ?_, ?_, fun h => .inr (.inr (.inr (.inr ⟨rfl, station h⟩))), ?_⟩ <;> rw [ha]
    · exact fun h => absurd rfl h
    · exact fun h => absurd rfl h
    · exact fun h => absurd rfl h
    · exact fun h => absurd rfl h
    · exact fun h k => absurd h k

/-- A command that changes only the inside of the blocks. -/
theorem of_takeBlock {code src : Byte} {act : State → Answer} (effect : BlockEffect s (act s).state) :
    allowedChanges c s (takeCommand code src act s) := by
  rcases takeCommand_cases code src act s with idle | ⟨-, taken⟩
  · rw [idle]; exact of_within (State.withinBlocks.refl s)
  · have hw := effect.within
    unfold State.withinBlocks at hw
    rw [taken, Answer.replied, hw]
    exact ⟨rfl, .inl rfl, fun h => absurd rfl h, fun h => absurd rfl h, fun h => absurd rfl h, fun h => absurd rfl h,
      fun h => absurd rfl h, nofun⟩

theorem of_blockCommand {k : Command} (hk : command c = some k) (h : exec c s = .next t) (effect : BlockEffect s (k.act s).state) :
    allowedChanges c s t :=
  of_running_of ((exec_of_command hk s).symm.trans h) (of_takeBlock effect)

/-- A command that may change mode, settings and freeze latch, with what that says of the row. -/
theorem of_takeCommand {code src : Byte} {act : State → Answer} (effect : CommandEffect s (act s).state)
    (mode : (act s).state.mode ≠ s.mode → c = .cmdFrame ∨ ∃ src, c = .setModeRun src ∨ c = .setModeTest src ∨
      c = .setModeConfiguring src)
    (frozen : (act s).state.frozen ≠ s.frozen → c = .cmdFrame ∨ ∃ src, c = .freezeMatrix src)
    (settings : (act s).state.settings ≠ s.settings → c = .cmdFrame ∨
      ∃ src index, c = .clearSettings src index ∨ ∃ entry, c = .writeSettings src index entry) :
    allowedChanges c s (takeCommand code src act s) := by
  rcases takeCommand_cases code src act s with idle | ⟨-, taken⟩
  · rw [idle]; exact of_within (State.withinBlocks.refl s)
  · obtain ⟨hw, latch⟩ := effect.within
    unfold State.withinCommand State.withinBlocks at hw
    rw [taken, Answer.replied]
    refine ⟨?_, .inl ?_, ?_, fun h => .inr (mode h), fun h => .inr ⟨latch.resolve_left h, frozen h⟩,
      fun h => .inr (settings h), ?_, nofun⟩
    · rw [hw]
    · rw [hw]
    · rw [hw]; exact fun h => absurd rfl h
    · rw [hw]; exact fun h => absurd rfl h

/-- A named command that may change the mode. -/
theorem of_modeCommand {k : Command} (hk : command c = some k)
    (row : ∃ src, c = .setModeRun src ∨ c = .setModeTest src ∨ c = .setModeConfiguring src) (h : exec c s = .next t)
    (effect : CommandEffect s (k.act s).state ∧ (k.act s).state.frozen = s.frozen ∧ (k.act s).state.settings = s.settings) :
    allowedChanges c s t :=
  of_running_of ((exec_of_command hk s).symm.trans h) (of_takeCommand effect.1 (fun _ => .inr row)
    (fun ne => absurd effect.2.1 ne) (fun ne => absurd effect.2.2 ne))

/-- A named command that may change the settings record. -/
theorem of_settingsCommand {k : Command} (hk : command c = some k)
    (row : ∃ src index, c = .clearSettings src index ∨ ∃ entry, c = .writeSettings src index entry) (h : exec c s = .next t)
    (effect : CommandEffect s (k.act s).state ∧ (k.act s).state.mode = s.mode ∧ (k.act s).state.frozen = s.frozen) :
    allowedChanges c s t :=
  of_running_of ((exec_of_command hk s).symm.trans h) (of_takeCommand effect.1 (fun ne => absurd effect.2.1 ne)
    (fun ne => absurd effect.2.2 ne) (fun _ => .inr row))

theorem trans_within {u : State} (h : allowedChanges c s t) (k : t.withinBlocks u) : allowedChanges c s u := by
  unfold State.withinBlocks at k
  rw [k]
  exact h

theorem of_cmdFrame (s : State) : allowedChanges .cmdFrame s (cmdFrame s) := by
  unfold cmdFrame
  split
  · split
    · exact of_within (State.withinBlocks.refl s)
    · exact trans_within (of_takeCommand (CommandEffect.of_payload s _) (fun _ => .inl rfl) (fun _ => .inl rfl)
        (fun _ => .inl rfl)) (givePlace_within _ _ _)
  · exact of_within (State.withinBlocks.refl s)

theorem of_coldReset {ads : BitVec 8} {rsa rsb : BitVec 2} (h : exec (.coldReset ads rsa rsb) s = .next t) :
    allowedChanges (.coldReset ads rsa rsb) s t := by
  obtain rfl := Host.Outcome.next.inj h
  have row : ∃ a b c, Instr.coldReset ads rsa rsb = .coldReset a b c := ⟨_, _, _, rfl⟩
  exact ⟨rfl, .inl rfl, fun _ => row, fun _ => .inl row, fun _ => .inl row, fun _ => .inl row, fun _ => .inl row,
    fun _ _ => .inl row⟩

theorem of_replyHandover (h : exec .replyHandover s = .next t) : allowedChanges .replyHandover s t := by
  rcases running_cases (f := replyHandover) h with rfl | ⟨-, rfl⟩
  · exact of_within (State.withinBlocks.refl t)
  · unfold replyHandover
    split
    · split
      · refine ⟨rfl, .inl rfl, fun h => absurd rfl h, fun h => absurd rfl h, fun h => absurd rfl h, fun h => absurd rfl h,
          fun h => absurd rfl h, fun _ _ => .inr rfl⟩
      · exact of_within (State.withinBlocks.refl s)
    · exact of_within (State.withinBlocks.refl s)

theorem of_exec (h : exec c s = .next t) : allowedChanges c s t := by
  cases c
  case coldReset => exact of_coldReset h
  case resetnHeldLow => exact of_within (Host.Outcome.next.inj h ▸ rfl)
  case localTick => exact of_running_time (f := localTick) h rfl (.inl rfl)
  case frameReceived p cs =>
    cases p with
    | A =>
      exact of_running_time (f := frameReceived .A cs) h
        (frameReceived_rel (R := State.withinTime) State.withinTime.trans State.withinBlocks.time (acceptFrame_withinTime .A) cs s) (.inr (.inl ⟨cs, rfl⟩))
    | B =>
      exact of_running (f := frameReceived .B cs) h
        (frameReceived_rel (R := State.withinBlocks) State.withinBlocks.trans id acceptFrame_B_within cs s)
  case timeFrame dest src seq payload =>
    exact of_running_time (f := timeFrame dest src seq payload) h
      (timeFrame_withinTime dest src seq payload s) (.inr (.inr ⟨dest, src, seq, payload, rfl⟩))
  case scanFrame => exact of_scanFrame h
  case replyHandover => exact of_replyHandover h
  case frameAbandoned p cs => exact of_running h (frameAbandoned_within p cs s)
  case pauseReceived p => exact of_running h (setPort_within p _ s)
  case resumeReceived p => exact of_running h (resumeReceived_within p s)
  case pauseSelfResumeExpiry p => exact of_running h (selfResumeExpiry_within p s)
  case controlByteSent p => exact of_running h (controlByteSent_within p s)
  case transmitEnd p => exact of_running h (transmitEnd_within p s)
  case sofReceived p => exact of_running (f := fun s => s.setPort p { s.port p with rx := .withinFrame }) h (setPort_within p _ s)
  case tripHandover => exact of_running h (tripHandover_within s)
  case phaseHandover => exact of_running h (phaseHandover_within s)
  case windowHandover => exact of_running h (windowHandover_within s)
  case passThroughHandover p => exact of_running h (passThroughHandover_within p s)
  case eventHandover => exact of_running h (eventHandover_within s)
  case syncSupervisionExpiry => exact of_running h (syncExpiry_within s)
  case moduleSupervisionExpiry m => exact of_running h (supervisionExpiry_touches m s).within
  case chatterDecayExpiry => exact of_running h (chatterDecayExpiry_within s)
  case settleExpiry g => exact of_running h (settleExpiry_touches g s).within
  case windowRefreshExpiry => exact of_running h (windowRefreshExpiry_touches s).within
  case phaseIntervalExpiry => exact of_running h (phaseIntervalExpiry_touches s).within
  case lampTestLimitExpiry => exact of_running h (lampLimitExpiry_touches s).within
  case elementDelayExpiry e => exact of_running h (elementDelayExpiry_touches e s).within
  case confirmDeadlineExpiry k => exact of_running h (deadlineExpiry_touches k s).within
  case tripRefreshExpiry => exact of_running h (tripRefreshExpiry_touches s).within
  case batchTimerExpiry => exact of_running h (batchExpiry_touches s).within
  case confirmFrame => exact of_running h (confirmFrame_within s)
  case buttonAck => exact of_running h (buttonAck_within s)
  case buttonReset => exact of_running h (buttonReset_within s)
  case buttonSilence => exact of_running h (buttonSilence_within s)
  case buttonTestOn => exact of_running h (buttonTestOn_within s)
  case buttonTestOff => exact of_running h (buttonTestOff_within s)
  case buttonIgnored => exact of_running h (buttonIgnored_within s)
  case cmdFrame =>
    rcases running_cases (f := cmdFrame) h with rfl | ⟨-, rfl⟩
    · exact of_within (State.withinBlocks.refl t)
    · exact of_cmdFrame s
  case cmdUnknown src payload =>
    refine of_running_of (f := cmdUnknown src payload) h ?_
    unfold cmdUnknown
    split
    · rename_i unlisted
      exact of_takeBlock ((congrArg (BlockEffect s) (performPayload_unknown unlisted s)).mpr .idle)
    · exact of_within (State.withinBlocks.refl s)
  case readEntry src table index => exact of_blockCommand rfl h ((congrArg (BlockEffect s) (readEntry_state table index s)).mpr .idle)
  case readState src table index => exact of_blockCommand rfl h ((congrArg (BlockEffect s) (readState_state table index s)).mpr .idle)
  case writeSettings src index entry =>
    exact of_settingsCommand rfl ⟨src, index, .inr ⟨entry, rfl⟩⟩ h
      (by
        simp only [entryReply_state]
        exact ⟨.writeSettings s _ _, writeSettings_keeps index.toNat entry s⟩)
  case clearSettings src index =>
    exact of_settingsCommand rfl ⟨src, index, .inl rfl⟩ h (by
        simp only [entryReply_state]
        exact ⟨.clearSettings s _, clearSettings_keeps index.toNat s⟩)
  case setModeRun src => exact of_modeCommand rfl ⟨src, .inl rfl⟩ h ⟨.setModeRun s, setModeRun_keeps s⟩
  case setModeTest src => exact of_modeCommand rfl ⟨src, .inr (.inl rfl)⟩ h ⟨.setModeTest s, setModeTest_keeps s⟩
  case setModeConfiguring src => exact of_modeCommand rfl ⟨src, .inr (.inr rfl)⟩ h ⟨.setModeConfiguring s, setModeConfiguring_keeps s⟩
  case freezeMatrix src =>
    refine of_running_of ((exec_of_command (c := .freezeMatrix src) rfl s).symm.trans h) (of_takeCommand (CommandEffect.freezeMatrix s) ?_ (fun _ => .inr ⟨src, rfl⟩) ?_)
    · exact fun ne => absurd (freezeMatrix_keeps s).1 ne
    · exact fun ne => absurd (freezeMatrix_keeps s).2 ne
  case writeModule => exact of_blockCommand rfl h (.entry s (.writeModule s _ _))
  case clearModule => exact of_blockCommand rfl h (.entry s (.clearModule s _))
  case writePoint => exact of_blockCommand rfl h (.entry s (.writePoint s _ _))
  case clearPoint => exact of_blockCommand rfl h (.entry s (.clearPoint s _))
  case writeWindow => exact of_blockCommand rfl h (.entry s (.writeWindow s _ _))
  case clearWindow => exact of_blockCommand rfl h (.entry s (.clearWindow s _))
  case writeDriver => exact of_blockCommand rfl h (.entry s (.writeDriver s _ _))
  case clearDriver => exact of_blockCommand rfl h (.entry s (.clearDriver s _))
  case writeGroup => exact of_blockCommand rfl h (.entry s (.writeGroup s _ _))
  case clearGroup => exact of_blockCommand rfl h (.entry s (.clearGroup s _))
  case writeHorn => exact of_blockCommand rfl h (.entry s (.writeHorn s _ _))
  case clearHorn => exact of_blockCommand rfl h (.entry s (.clearHorn s _))
  case writePattern => exact of_blockCommand rfl h (.entry s (.writePattern s _ _))
  case clearPattern => exact of_blockCommand rfl h (.entry s (.clearPattern s _))
  case writeElement => exact of_blockCommand rfl h (.entry s (.writeElement s _ _))
  case clearElement => exact of_blockCommand rfl h (.entry s (.clearElement s _))
  case writeOutput => exact of_blockCommand rfl h (.entry s (.writeOutput s _ _))
  case clearOutput => exact of_blockCommand rfl h (.entry s (.clearOutput s _))
  case writeChannel => exact of_blockCommand rfl h (.entry s (.writeChannel s _ _))
  case clearChannel => exact of_blockCommand rfl h (.entry s (.clearChannel s _))
  case groupAck => exact of_blockCommand rfl h (.groupAck s _)
  case groupReset => exact of_blockCommand rfl h (.groupReset s _)
  case hornSilence => exact of_blockCommand rfl h (.hornSilence s _)
  case lockoutReset => exact of_blockCommand rfl h (.lockoutReset s _)
  case readStatus => exact of_blockCommand rfl h (.readStatus s _)
  case annunciationRestart => exact of_blockCommand rfl h (.annunciationRestart s)
  case lampTestOn => exact of_blockCommand rfl h .lampOn
  case lampTestOff => exact of_blockCommand rfl h .lampOff
  case forceElementOn => exact of_blockCommand rfl h (.forceCommand s _ _)
  case forceElementOff => exact of_blockCommand rfl h (.forceCommand s _ _)

end allowedChanges

/-- Settles O3: a row changes the inside of the blocks only, but for the rows that are named. -/
theorem onlyTheNamedCommandsChangeTheWholePart : Obligations.OnlyTheNamedCommandsChangeTheWholePart :=
  fun _ _ _ h => allowedChanges.of_exec h

end Sys2Proof.Machine

/-! Properties that every delivery keeps. The blocks reach the Channel Unit's waiting list, the Annunciation Unit and the Event Queue
by a few operations only; a property that these keep is kept by every operation built from them. -/

namespace Sys2Proof.Machine

/-- What taking a SCAN frame is built from keeps `P` (R30 to R34, R41). -/
structure KeptByReports (P : State → Prop) : Prop where
  takeReport : ∀ (m : Fin 16) (trx : Nat) (r : Report) {s : State}, P s → P (takeReport m trx r s)
  timeArrives : ∀ (a : TimeArrival) {s : State}, P s → P (timeArrives a s)
  setInputModule : ∀ (m : Fin 16) (v : InputModule) {s : State}, P s → P (s.setInputModule m v)
  offerNow : ∀ (k : RecordKind) (c : RecClass) (a v x : Nat) {s : State}, P s → P (offerNow k c a v x s)
  clearAt : ∀ (w : Option (Fin 192)) {s : State}, P s → P (clearAt w s)
  unknownSource : ∀ (n : Nat) {s : State}, P s → P { s with unknownSource := n }

namespace KeptByReports

variable {P : State → Prop} (h : KeptByReports P) {s : State}

include h

theorem takeOrdered (m : Fin 16) (rs : List Report) (between : List (List TimeArrival)) (hs : P s) :
    P (Machine.takeOrdered m rs between s) := by
  induction rs generalizing between s with
  | nil => exact hs
  | cons r rs ih => exact ih _ (h.takeReport m _ r (State.each_keeps (fun a _ => h.timeArrives a) _ _ hs))

theorem takeReports (m : Fin 16) (between : List (List TimeArrival)) (rs : List Report) (hs : P s) :
    P (Machine.takeReports m between rs s) := h.takeOrdered m _ between hs

theorem setLastSeq (m : Fin 16) (q : Nat) (hs : P s) : P (Machine.setLastSeq m q s) := h.setInputModule m _ hs

theorem endSilence (m : Fin 16) (d : ModuleDef) (hs : P s) : P (Machine.endSilence m d s) :=
  h.offerNow _ _ _ _ _ (h.clearAt _ (h.setInputModule m _ hs))

theorem takeLive (m : Fin 16) (between : List (List TimeArrival)) (last seq : Nat) (rs : List Report) (hs : P s) :
    P (Machine.takeLive m between last seq rs s) := by
  unfold Machine.takeLive
  split
  · exact h.setInputModule m _ hs
  split
  · exact h.takeReports m between rs (h.setLastSeq m seq hs)
  · exact h.takeReports m between rs (h.setLastSeq m seq (h.offerNow _ _ _ _ _ hs))

theorem acceptScan (m : Fin 16) (d : ModuleDef) (between : List (List TimeArrival)) (seq : Nat) (rs : List Report) (hs : P s) :
    P (Machine.acceptScan m d between seq rs s) := by
  have fed : P (s.setInputModule m { s.inputModule m with supervision := some d.supervision }) := h.setInputModule m _ hs
  unfold Machine.acceptScan
  dsimp only
  split
  · exact h.takeReports m between rs (h.setLastSeq m seq (h.setInputModule m _ fed))
  · exact h.takeReports m between rs (h.setLastSeq m seq (h.endSilence m d fed))
  · split
    · exact h.takeLive m between _ seq rs fed
    · exact h.takeReports m between rs (h.setLastSeq m seq fed)

theorem takeScan (between : List (List TimeArrival)) (x : Held) (hs : P s) : P (Machine.takeScan between x s) := by
  unfold Machine.takeScan
  split
  · exact h.unknownSource _ hs
  · split
    · exact h.acceptScan _ _ _ _ _ hs
    · exact h.setInputModule _ _ hs

end KeptByReports

/-- `P` is about the Channel Unit, the Annunciation Unit, the Event Queue and the mode, and the operations by which the other blocks
reach these keep it. -/
structure KeptByDeliveries (P : State → Prop) : Prop where
  frame : ∀ {s t : State}, P s → t.ann = s.ann → t.trip = s.trip → t.events = s.events → t.mode = s.mode → P t
  offer : ∀ (o : Offer) {s : State}, P s → P (offer o s)
  activate : ∀ (w : Fin 192) (capture : Option (Fin 1024 × Nat)) {s : State}, P s → P (activate w capture s)
  clearSource : ∀ (w : Fin 192) {s : State}, P s → P (clearSource w s)
  setChannel : ∀ {c : Fin 16} {v : Channel} {s : State}, v.defn = (s.channel c).defn → P s → P (s.setChannel c v)
  setOutputModule : ∀ {k : Fin 8} {v : OutputModule} {s : State}, v.address = (s.outputModule k).address → P s →
    P (s.setOutputModule k v)
  joinTrip : ∀ (k : Fin 8) {s : State}, P s → P (joinTrip k s)
  judgeLine : ∀ (k : Fin 2) {s : State}, P s → P (judgeLine k s)

namespace KeptByDeliveries

variable {P : State → Prop} (h : KeptByDeliveries P) {s : State}

include h

theorem offerNow (k : RecordKind) (c : RecClass) (a v x : Nat) (hs : P s) : P (Machine.offerNow k c a v x s) := h.offer _ hs

theorem activateAt (w : Option (Fin 192)) (capture : Option (Fin 1024 × Nat)) (hs : P s) : P (Machine.activateAt w capture s) := by
  cases w with
  | none => exact hs
  | some w => exact h.activate w capture hs

theorem clearAt (w : Option (Fin 192)) (hs : P s) : P (Machine.clearAt w s) := by
  cases w with
  | none => exact hs
  | some w => exact h.clearSource w hs

/-! ### The Channel Unit -/

theorem channelRecord (k : RecordKind) (c : Fin 16) (hs : P s) : P (Machine.channelRecord k c s) := h.offerNow _ _ _ _ _ hs

theorem joinTripAll (hs : P s) : P (Machine.joinTripAll s) := State.each_keeps (fun k _ => h.joinTrip k) _ _ hs

theorem judgeLines (hs : P s) : P (Machine.judgeLines s) := h.judgeLine 1 (h.judgeLine 0 hs)

theorem becomeMissing (c : Fin 16) (hs : P s) : P (Machine.becomeMissing c s) := by
  unfold Machine.becomeMissing
  split
  · exact hs
  · exact h.judgeLine _ (h.activateAt _ _ (h.channelRecord _ c (h.setChannel rfl hs)))

theorem becomeConfirmed (byMatch : Bool) (c : Fin 16) (hs : P s) : P (Machine.becomeConfirmed byMatch c s) := by
  have confirmed : P (s.setChannel c { s.channel c with confirmation := .confirmed }) := h.setChannel rfl hs
  unfold Machine.becomeConfirmed
  dsimp only
  split
  · split
    · exact h.judgeLine _ (h.clearAt _ (h.channelRecord _ c confirmed))
    · exact h.judgeLine _ (h.clearAt _ confirmed)
  · exact confirmed

theorem outputChanged (c : Fin 16) (asserted : Bool) (hs : P s) : P (Machine.outputChanged c asserted s) := by
  unfold Machine.outputChanged
  split
  · dsimp only
    split
    · exact h.judgeLine _ (h.activateAt _ _ (h.joinTrip _ hs))
    · exact h.judgeLine _ (h.clearAt _ (h.joinTrip _ hs))
  · exact hs

theorem gainDemand (c : Fin 16) (hs : P s) : P (Machine.gainDemand c s) := by
  unfold Machine.gainDemand
  split
  · exact h.outputChanged c true (h.channelRecord _ c (h.setChannel rfl hs))
  · exact hs
  · exact h.channelRecord _ c (h.setChannel rfl hs)

theorem loseDemand (c : Fin 16) (hs : P s) : P (Machine.loseDemand c s) := by
  unfold Machine.loseDemand
  split
  · split
    · exact h.channelRecord _ c (h.setChannel rfl hs)
    · exact h.outputChanged c false (h.channelRecord _ c (h.setChannel rfl hs))
  · exact hs

theorem deliverDemand (taking : Taking) (asserted : Bool) (c : Fin 16) (hs : P s) :
    P (Machine.deliverDemand taking asserted c s) := by
  have counted : P (s.setChannel c { s.channel c with
      demand := if asserted then (s.channel c).demand + 1 else (s.channel c).demand - 1 }) := h.setChannel rfl hs
  have moved (t : State) (ht : P t) : P (if taking = .countsOnly ∨ (t.channel c).defn = none then t
      else if asserted ∧ (s.channel c).demand = 0 then Machine.gainDemand c t
      else if ¬ asserted ∧ (s.channel c).demand = 1 then Machine.loseDemand c t else t) := by
    split
    · exact ht
    split
    · exact h.gainDemand c ht
    split
    · exact h.loseDemand c ht
    · exact ht
  exact moved _ counted

theorem commandChannel (passed : Bool) (c : Fin 16) (v : Bool) (hs : P s) : P (Machine.commandChannel passed c v s) := by
  have commanded : P (s.setChannel c { s.channel c with commanded := v }) := h.setChannel rfl hs
  unfold Machine.commandChannel
  dsimp only
  split
  · exact h.becomeMissing c commanded
  split
  · exact h.setChannel rfl commanded
  · exact commanded

theorem recordCommand (k : Fin 8) (seq : Nat) (pairs : List (Fin 16 × Bool)) (hs : P s) :
    P (Machine.recordCommand k seq pairs s) := by
  refine State.each_keeps (fun p u hu => ?_) _ _ (h.setOutputModule rfl hs)
  split
  · exact h.commandChannel _ _ _ hu
  · exact hu

theorem handleConfirm (f : Frame) (hs : P s) : P (Machine.handleConfirm f s) := by
  unfold Machine.handleConfirm
  split
  · exact h.frame hs rfl rfl rfl rfl
  · split
    · exact h.setOutputModule rfl hs
    · unfold matchConfirm
      dsimp only
      split
      · refine State.each_keeps (fun p u hu => ?_) _ _ (h.setOutputModule rfl hs)
        unfold judgeConfirm
        split
        · split
          · exact h.becomeConfirmed true _ hu
          · exact h.becomeMissing _ hu
        · exact hu
      · exact h.setOutputModule rfl hs

theorem deadlineExpiry (k : Fin 8) (hs : P s) : P (Machine.deadlineExpiry k s) := by
  unfold Machine.deadlineExpiry
  split
  · refine State.each_keeps (fun p u hu => ?_) _ _ (h.setOutputModule rfl hs)
    unfold expireChannel
    split
    · split
      · exact h.becomeMissing _ hu
      · exact hu
    · exact hu
  · exact hs

theorem exitChannel (c : Fin 16) (hs : P s) : P (Machine.exitChannel c s) := by
  have delivered (t : State) (ht : P t) : P (match (t.channel c).defn with
      | some d =>
        if (s.channel c).state.asserted = (t.channel c).state.asserted then t
        else if (t.channel c).state.asserted then Machine.activateAt d.window none t else Machine.clearAt d.window t
      | none => t) := by
    split
    · split
      · exact ht
      split
      · exact h.activateAt _ _ ht
      · exact h.clearAt _ ht
    · exact ht
  refine delivered _ ?_
  split
  · exact h.channelRecord _ c (h.setChannel rfl hs)
  · exact h.setChannel rfl hs

theorem exitTest (hs : P s) : P (Machine.exitTest s) :=
  h.judgeLines (h.joinTripAll (State.each_keeps (fun c _ => h.exitChannel c) _ _ hs))

/-! ### The Trip Matrix -/

theorem setElement (e : Fin 64) (v : Element) (hs : P s) : P (s.setElement e v) := h.frame hs rfl rfl rfl rfl

theorem performMove (taking : Taking) (e : Fin 64) (d : ElementDef) (mv : Move) (hs : P s) :
    P (Machine.performMove taking e d mv s) := by
  have recorded : P (State.each mv.records (fun k u => Machine.offerNow k .trip e.val (s.element e).sum 0 u)
      (s.setElement e { s.element e with state := mv.state, timer := mv.timer })) :=
    State.each_keeps (P := P) (fun _ _ => h.offerNow _ _ _ _ _) _ _ (h.setElement e _ hs)
  unfold Machine.performMove
  dsimp only
  split
  · exact recorded
  · exact State.each_keeps (fun c _ => h.deliverDemand taking _ c) _ _ recorded

theorem installDefinition (e : Fin 64) (d : ElementDef) (hs : P s) : P (Machine.installDefinition e d s) := h.setElement e _ hs

theorem evaluateOnce (taking : Taking) (e : Fin 64) (hs : P s) : P (Machine.evaluateOnce taking e s) := by
  unfold Machine.evaluateOnce
  split
  · split
    · exact h.performMove taking e _ _ hs
    · exact hs
  · exact hs

theorem installPending (taking : Taking) (e : Fin 64) (hs : P s) : P (Machine.installPending taking e s) := by
  unfold Machine.installPending
  split
  · exact hs
  · exact h.evaluateOnce taking e (h.installDefinition e _ hs)
  · exact h.setElement e _ hs

theorem moveAndInstall (taking : Taking) (e : Fin 64) (d : ElementDef) (mv : Move) (hs : P s) :
    P (Machine.moveAndInstall taking e d mv s) := by
  unfold Machine.moveAndInstall
  dsimp only
  split
  · exact h.installPending taking e (h.performMove taking e d mv hs)
  · exact h.performMove taking e d mv hs

theorem evaluateElement (taking : Taking) (e : Fin 64) (hs : P s) : P (Machine.evaluateElement taking e s) := by
  unfold Machine.evaluateElement
  split
  · split
    · exact h.moveAndInstall taking e _ _ hs
    · exact hs
  · exact hs

theorem elementTakes (p : Fin 1024) (e : Fin 64) (hs : P s) : P (Machine.elementTakes p e s) := by
  unfold Machine.elementTakes
  split
  · split
    · dsimp only
      split
      · exact h.setElement e _ hs
      · exact h.evaluateElement _ e (h.setElement e _ hs)
    · exact hs
  · exact hs

theorem tripDeliver (p : Fin 1024) (hs : P s) : P (Machine.tripDeliver p s) :=
  State.each_keeps (fun e _ => h.elementTakes p e) _ _ hs

theorem elementDelayExpiry (e : Fin 64) (hs : P s) : P (Machine.elementDelayExpiry e s) := by
  have stopped : P (s.setElement e { s.element e with timer := none }) := h.setElement e _ hs
  unfold Machine.elementDelayExpiry
  split
  · dsimp only
    split
    · split
      · exact h.moveAndInstall _ e _ _ stopped
      · exact stopped
    · exact stopped
  · exact hs

theorem applyElementWrite (e : Fin 64) (d : ElementDef) (hs : P s) : P (Machine.applyElementWrite e d s) := by
  have installed : P (Machine.installDefinition e d (s.setElement e { s.element e with state := .idle })) :=
    h.installDefinition e d (h.setElement e _ hs)
  unfold Machine.applyElementWrite
  split
  · exact h.setElement e _ hs
  · dsimp only
    split
    · exact installed
    · exact h.evaluateElement _ e installed

theorem applyElementClear (e : Fin 64) (hs : P s) : P (Machine.applyElementClear e s) := by
  unfold Machine.applyElementClear
  split
  · exact h.setElement e _ hs
  · exact h.setElement e _ hs

theorem forceElement (taking : Taking) (on : Bool) (e : Fin 64) (hs : P s) : P (Machine.forceElement taking on e s) := by
  unfold Machine.forceElement
  split
  · exact hs
  · exact h.evaluateElement taking e (h.setElement e _ hs)

theorem elementsToConfiguring (hs : P s) : P (Machine.elementsToConfiguring s) := by
  refine State.each_keeps (fun e u hu => ?_) _ _ hs
  unfold elementToConfiguring
  dsimp only
  split
  · exact h.setElement e _ hu
  · exact h.installDefinition e _ (h.setElement e _ hu)
  · exact h.setElement e _ (h.setElement e _ hu)

theorem elementsToRun (hs : P s) : P (Machine.elementsToRun s) :=
  State.each_keeps (fun e _ => h.evaluateElement .moves e) _ _ hs

theorem clearForces (hs : P s) : P (Machine.clearForces s) :=
  State.each_keeps (fun e _ => h.forceElement .countsOnly false e) _ _ hs

/-! ### The Point Unit -/

theorem setPoint (p : Fin 1024) (v : Point) (hs : P s) : P (s.setPoint p v) := h.frame hs rfl rfl rfl rfl

theorem deliverSource {how : Announcing} (counted : how ≠ .countOnly) (p : Fin 1024) (w : Option (Fin 192)) (a : Condition)
    (hs : P s) : P (Machine.deliverSource how p w a s) := by
  cases how with
  | countOnly => exact absurd rfl counted
  | capturing =>
    cases a with
    | alarm => exact h.activateAt _ _ hs
    | normal => exact h.clearAt _ hs
  | standing =>
    cases a with
    | alarm => exact h.activateAt _ _ hs
    | normal => exact h.clearAt _ hs

theorem reannounce {how : Announcing} (counted : how ≠ .countOnly) (p : Fin 1024) (hs : P s) :
    P (Machine.reannounce how p s) := by
  unfold Machine.reannounce
  split
  · dsimp only
    split
    · exact hs
    · exact h.deliverSource counted p _ _ (h.setPoint p _ hs)
  · exact hs

theorem offerPointRecord (p : Fin 1024) (d : PointDef) (c : Condition) (st : Stamp) (suppressed : Bool) (hs : P s) :
    P (Machine.offerPointRecord p d c st suppressed s) := by
  unfold Machine.offerPointRecord
  split
  · exact h.offer _ hs
  · exact hs

theorem countChatter (p : Fin 1024) (d : PointDef) (st : Stamp) (hs : P s) : P (Machine.countChatter p d st s) := by
  unfold Machine.countChatter
  split
  · exact hs
  · dsimp only
    split
    · exact h.offer _ (h.setPoint p _ hs)
    · exact h.setPoint p _ hs

theorem conditionChange (p : Fin 1024) (d : PointDef) (c : Condition) (st : Stamp) (suppressed counted : Bool) (hs : P s) :
    P (Machine.conditionChange p d c st suppressed counted s) := by
  have recorded : P (Machine.offerPointRecord p d c st suppressed (Machine.tripDeliver p (s.setPoint p { s.point p with condition := c }))) :=
    h.offerPointRecord p d c st suppressed (h.tripDeliver p (h.setPoint p _ hs))
  unfold Machine.conditionChange
  dsimp only
  refine h.reannounce (how := .capturing) nofun p ?_
  split
  · exact h.countChatter p d st recorded
  · exact recorded

theorem applyTransition (p : Fin 1024) (tr : Transition) (hs : P s) : P (Machine.applyTransition p tr s) := by
  have moved : P (s.setPoint p { s.point p with contact := tr.contact, lastEvent := tr.stamp.time }) := h.setPoint p _ hs
  unfold Machine.applyTransition
  split
  · exact hs
  · split
    · exact hs
    · dsimp only
      split
      · split
        · exact moved
        · exact h.conditionChange p _ _ _ _ _ moved
      · split
        · exact h.conditionChange p _ _ _ _ _ (h.conditionChange p _ _ _ _ _ moved)
        · exact moved

theorem deliverQuality (p : Fin 1024) (q : Quality) (st : Stamp) (record : Bool) (hs : P s) :
    P (Machine.deliverQuality p q st record s) := by
  unfold Machine.deliverQuality
  split
  · exact hs
  · split
    · exact hs
    · have told : P (Machine.reannounce .standing p (Machine.tripDeliver p (s.setPoint p { s.point p with quality := q }))) :=
        h.reannounce (how := .standing) nofun p (h.tripDeliver p (h.setPoint p _ hs))
      dsimp only
      split
      · exact h.offer _ told
      · exact told

theorem modulePointsBad (m : Fin 16) (hs : P s) : P (Machine.modulePointsBad m s) :=
  State.each_keeps (fun p _ => h.deliverQuality p _ _ _) _ _ hs

theorem decayPoint (p : Fin 1024) (hs : P s) : P (Machine.decayPoint p s) := by
  unfold Machine.decayPoint
  dsimp only
  split
  · exact hs
  split
  · exact h.reannounce (how := .standing) nofun p (h.offerNow _ _ _ _ _ (h.setPoint p _ hs))
  · exact h.setPoint p _ hs

theorem chatterDecayExpiry (hs : P s) : P (Machine.chatterDecayExpiry s) := by
  unfold Machine.chatterDecayExpiry
  split
  · exact State.each_keeps (fun p _ => h.decayPoint p) _ _ (h.frame hs rfl rfl rfl rfl)
  · exact hs

theorem pointsToConfiguring (hs : P s) : P (Machine.pointsToConfiguring s) := by
  refine State.each_keeps (fun p u hu => ?_) _ _ (h.frame (t := { s with decay := none }) hs rfl rfl rfl rfl)
  unfold pointToConfiguring
  dsimp only
  split
  · split
    · exact h.clearAt _ (h.setPoint p _ hu)
    · exact h.setPoint p _ hu
  · exact h.setPoint p _ hu

theorem pointsToRun (hs : P s) : P (Machine.pointsToRun s) :=
  State.each_keeps (fun p _ => h.reannounce (how := .standing) nofun p) _ _ (h.frame hs rfl rfl rfl rfl)

theorem deriveWritten (p : Fin 1024) (d : PointDef) (hs : P s) : P (Machine.deriveWritten p d s) := by
  unfold Machine.deriveWritten
  dsimp only
  split
  · exact hs
  · exact h.offerPointRecord p d _ _ _ (h.tripDeliver p (h.setPoint p _ hs))

theorem announceWritten (p : Fin 1024) (d : PointDef) (held : Condition) (hs : P s) : P (Machine.announceWritten p d held s) := by
  unfold Machine.announceWritten
  dsimp only
  split
  · exact h.activateAt _ _ (h.setPoint p _ hs)
  · exact h.setPoint p _ hs

theorem removeContribution (p : Fin 1024) (hs : P s) : P (Machine.removeContribution p s) := by
  unfold Machine.removeContribution
  split
  · exact h.clearAt _ hs
  · exact hs

theorem applyPointWrite (p : Fin 1024) (d : PointDef) (hs : P s) : P (Machine.applyPointWrite p d s) := by
  unfold Machine.applyPointWrite
  dsimp only
  split
  · exact h.deriveWritten p d (h.setPoint p _ hs)
  · exact h.announceWritten p d _ (h.deriveWritten p d (h.setPoint p _ (h.removeContribution p hs)))

theorem applyPointClear (p : Fin 1024) (hs : P s) : P (Machine.applyPointClear p s) := by
  unfold Machine.applyPointClear
  split
  · exact h.setPoint p _ hs
  · exact h.setPoint p _ (h.removeContribution p hs)

/-! ### The link and the Time Base -/

theorem setPort (p : Port) (v : PortState) (hs : P s) : P (s.setPort p v) := by
  cases p
  · exact h.frame hs rfl rfl rfl rfl
  · exact h.frame hs rfl rfl rfl rfl

theorem givePlace (p : Port) (sel : Held → Bool) (hs : P s) : P (Machine.givePlace p sel s) := h.setPort p _ (h.setPort p _ hs)

theorem giveLast (p : Port) (hs : P s) : P (Machine.giveLast p s) := h.setPort p _ (h.setPort p _ hs)

theorem furtherPause (p : Port) (hs : P s) : P (Machine.furtherPause p s) := by
  unfold Machine.furtherPause
  split
  · exact h.setPort p _ hs
  · exact hs

theorem takePlace (p : Port) (x : Held) (hs : P s) : P (Machine.takePlace p x s) :=
  h.setPort p _ (h.setPort p _ (h.furtherPause p hs))

theorem takeTime (payload : List Byte) (hs : P s) : P (Machine.takeTime payload s) := by
  unfold Machine.takeTime applyTime
  split
  · dsimp only
    split
    · exact h.frame hs rfl rfl rfl rfl
    split
    · exact h.frame hs rfl rfl rfl rfl
    · exact h.offerNow _ _ _ _ _ (h.frame hs rfl rfl rfl rfl)
  · exact hs

theorem acceptFrame (p : Port) (f : Frame) (hs : P s) : P (Machine.acceptFrame p f s) := by
  have placed (forward : Bool) : P (Machine.takePlace p (s.place p f forward) s) := h.takePlace p _ hs
  unfold Machine.acceptFrame
  split
  · exact placed _
  · exact h.giveLast p (h.takeTime _ (placed _))
  · exact h.takeTime _ (placed _)
  · exact placed _
  · exact h.giveLast p (placed _)
  · exact h.frame (h.giveLast p (placed _)) rfl rfl rfl rfl
  · exact h.frame (h.giveLast p (placed _)) rfl rfl rfl rfl

theorem frameReceived (p : Port) (cs : List RxChar) (hs : P s) : P (Machine.frameReceived p cs s) := by
  have free : P (receiverFree p s) := h.setPort p _ hs
  unfold Machine.frameReceived
  split
  · split
    · dsimp only
      split
      · exact h.setPort p _ free
      · split
        · unfold judgeFrame
          split
          · exact h.setPort p _ free
          split
          · exact h.furtherPause p (h.setPort p _ free)
          · exact h.acceptFrame p _ free
        · exact free
    · exact hs
  · exact hs

theorem timeArrives (a : TimeArrival) (hs : P s) : P (Machine.timeArrives a s) := by
  unfold Machine.timeArrives
  split
  · exact h.acceptFrame .A _ (h.setPort .A _ hs)
  · exact hs

theorem timeFrame (dest src seq : Byte) (payload : List Byte) (hs : P s) : P (Machine.timeFrame dest src seq payload s) := by
  unfold Machine.timeFrame
  split
  · exact h.timeArrives _ hs
  · exact hs

theorem frameAbandoned (p : Port) (cs : List RxChar) (hs : P s) : P (Machine.frameAbandoned p cs s) := by
  unfold Machine.frameAbandoned
  split
  · split
    · exact h.setPort p _ hs
    · exact h.setPort p _ hs
    · exact hs
  · exact hs

theorem resumeReceived (p : Port) (hs : P s) : P (Machine.resumeReceived p s) := by
  unfold Machine.resumeReceived
  split
  · exact h.setPort p _ hs
  · exact hs

theorem selfResumeExpiry (p : Port) (hs : P s) : P (Machine.selfResumeExpiry p s) := by
  unfold Machine.selfResumeExpiry
  split
  · exact h.setPort p _ hs
  · exact hs

theorem controlByteSent (p : Port) (hs : P s) : P (Machine.controlByteSent p s) := by
  unfold Machine.controlByteSent
  split
  · exact h.setPort p _ hs
  · exact hs

theorem transmitEnd (p : Port) (hs : P s) : P (Machine.transmitEnd p s) := by
  unfold Machine.transmitEnd
  split
  · dsimp only
    split
    · exact h.givePlace _ _ (h.setPort p _ hs)
    · exact h.setPort p _ hs
  · exact hs

theorem originate (p : Port) (dest kind : Byte) (payload : List Byte) (hs : P s) : P (Machine.originate p dest kind payload s) :=
  h.setPort p _ (h.setPort p _ hs)

theorem passThroughHandover (p : Port) (hs : P s) : P (Machine.passThroughHandover p s) := by
  unfold Machine.passThroughHandover
  split
  · split
    · exact h.setPort _ _ (h.setPort p _ (h.setPort p _ hs))
    · exact hs
  · exact hs

theorem replyHandover (hs : P s) : P (Machine.replyHandover s) := by
  unfold Machine.replyHandover
  split
  · split
    · rename_i r _
      exact h.frame (h.originate .A r.dest kindReply r.payload hs) rfl rfl rfl rfl
    · exact hs
  · exact hs

theorem confirmFrame (hs : P s) : P (Machine.confirmFrame s) := by
  unfold Machine.confirmFrame
  split
  · exact h.givePlace _ _ (h.handleConfirm _ hs)
  · exact hs

theorem syncExpiry (hs : P s) : P (Machine.syncExpiry s) := by
  unfold Machine.syncExpiry
  split
  · exact h.frame hs rfl rfl rfl rfl
  · exact hs

theorem applySettings (v : Settings) (hs : P s) : P (Machine.applySettings v s) := by
  have judged : P (judgeFlow .B (judgeFlow .A { s with settings := v })) :=
    h.setPort .B _ (h.setPort .A _ (h.frame hs rfl rfl rfl rfl))
  unfold Machine.applySettings
  dsimp only
  split
  · exact judged
  · exact State.each_keeps (fun _ _ hu => h.activateAt _ _ (h.clearAt _ hu)) _ _ judged

/-! ### Scan Intake -/

theorem setInputModule (m : Fin 16) (v : InputModule) (hs : P s) : P (s.setInputModule m v) := h.frame hs rfl rfl rfl rfl

theorem takeReport (m : Fin 16) (trx : Nat) (r : Report) (hs : P s) : P (Machine.takeReport m trx r s) := by
  unfold Machine.takeReport
  dsimp only
  split
  · exact h.setInputModule m _ hs
  · rename_i p _
    have delivered : P (Machine.deliverQuality p r.quality (stampReport trx r.age (s.inputModule m).floor) true
        (s.setInputModule m { s.inputModule m with floor := (stampReport trx r.age (s.inputModule m).floor).time })) :=
      h.deliverQuality p _ _ _ (h.setInputModule m _ hs)
    split
    · exact delivered
    · exact State.each_keeps (fun tr _ => h.applyTransition p tr) _ _ delivered

theorem reports : KeptByReports P where
  takeReport := fun m trx r _ hs => h.takeReport m trx r hs
  timeArrives := fun a _ hs => h.timeArrives a hs
  setInputModule := fun m v _ hs => h.setInputModule m v hs
  offerNow := fun k c a v x _ hs => h.offerNow k c a v x hs
  clearAt := fun w _ hs => h.clearAt w hs
  unknownSource := fun _ _ hs => h.frame hs rfl rfl rfl rfl

theorem takeScan (between : List (List TimeArrival)) (x : Held) (hs : P s) : P (Machine.takeScan between x s) :=
  h.reports.takeScan between x hs

theorem scanFrame (hs : P s) : P (Machine.scanFrame s) := by
  unfold Machine.scanFrame
  split
  · exact h.frame (h.givePlace .A (Held.owned kindScan) (h.takeScan _ _ hs)) rfl rfl rfl rfl
  · exact hs

theorem supervisionExpiry (m : Fin 16) (hs : P s) : P (Machine.supervisionExpiry m s) := by
  unfold Machine.supervisionExpiry
  split
  · split
    · exact h.activateAt _ _ (h.offerNow _ _ _ _ _ (h.modulePointsBad m (h.setInputModule m _ hs)))
    · exact hs
  · exact hs

theorem modulesToRun (hs : P s) : P (Machine.modulesToRun s) := by
  refine State.each_keeps (fun m u hu => ?_) _ _ hs
  unfold restartUnseen
  split
  · split
    · exact h.setInputModule m _ hu
    · exact hu
  · exact hu

theorem applyModuleClear (m : Fin 16) (hs : P s) : P (Machine.applyModuleClear m s) := by
  unfold Machine.applyModuleClear
  dsimp only
  split
  · exact hs
  · unfold clearSilence
    split
    · exact h.clearAt _ (h.modulePointsBad m (h.setInputModule m _ hs))
    · exact h.modulePointsBad m (h.setInputModule m _ hs)

theorem applyModuleWrite (m : Fin 16) (d : ModuleDef) (hs : P s) : P (Machine.applyModuleWrite m d s) := by
  unfold Machine.applyModuleWrite
  split
  · exact h.setInputModule m _ hs
  · split
    · unfold rewriteModule
      dsimp only
      split
      · exact h.activateAt _ _ (h.clearAt _ (h.setInputModule m _ hs))
      · exact h.setInputModule m _ hs
    · exact h.setInputModule m _ (h.applyModuleClear m hs)

theorem resetLockout (c : Fin 16) (hs : P s) : P (Machine.outputChanged c false
    (Machine.channelRecord .channelNormal c (s.setChannel c { s.channel c with state := .normal }))) :=
  h.outputChanged c false (h.channelRecord _ c (h.setChannel rfl hs))

end KeptByDeliveries

end Sys2Proof.Machine

/-! The effects of the rows that a property kept by every delivery does not follow from the deliveries, said once: with them, the property
is kept by every step. -/

namespace Sys2Proof.Machine

/-- Besides the deliveries, the effects that reach the waiting lists, the Annunciation Unit or the Event Queue on their own keep `P`. -/
structure KeptByRows (P : State → Prop) : Prop extends KeptByDeliveries P where
  coldReset : ∀ (ads : BitVec 8) (rsa rsb : BitVec 2), P (State.coldReset ads rsa rsb)
  resetnHeldLow : ∀ {s : State}, P s → P (resetnHeldLow s)
  localTick : ∀ {s : State}, P s → P (localTick s)
  takeTripHead : ∀ {k : Fin 8} {rest : List (Fin 8)} {s : State}, P s → s.trip.waiting = k :: rest →
    P { s with trip := { s.trip with waiting := rest } }
  takeDriverHead : ∀ {d : Fin 6} {rest : List (Fin 6)} {s : State}, P s → s.ann.waiting = d :: rest →
    P { s with ann := { s.ann with waiting := rest } }
  setPhaseWaiting : ∀ (b : Bool) {s : State}, P s → P { s with ann := { s.ann with phaseWaiting := b } }
  removeEvents : ∀ {s : State}, P s → P (removeEvents s)
  batchExpiry : ∀ {s : State}, P s → P (batchExpiry s)
  settleExpiry : ∀ (g : Fin 32) {s : State}, P s → P (settleExpiry g s)
  windowRefreshExpiry : ∀ {s : State}, P s → P (windowRefreshExpiry s)
  restartPhase : ∀ {s : State}, P s → P { s with ann := { s.ann with phase := some 1000 } }
  tripRefresh : ∀ {s : State}, P s → P { s with trip := { s.trip with refresh := some 200 } }
  windowWrite : ∀ (w : Fin 192) (d : WindowDef) {s : State}, (s.mode ≠ .configuring → (s.group d.group).defn ≠ none) → P s →
    P (applyWindowWrite w d s)
  windowClear : ∀ (w : Fin 192) {s : State}, P s → P (applyWindowClear w s)
  driver : ∀ (d : Fin 6) (a : Option Nat) {s : State}, P s → P (applyDriver d a s)
  groupWrite : ∀ (g : Fin 32) (d : GroupDef) {s : State}, P s → P (applyGroupWrite g d s)
  groupClear : ∀ (g : Fin 32) {s : State}, (s.mode ≠ .configuring → groupInUse s g = false) → P s → P (s.setGroup g {})
  hornSound : ∀ (h : Fin 4) (v : Sound) {s : State}, P s → P (s.setHorn h { s.horn h with sound := v })
  setPattern : ∀ (i : Fin 4) (v : PatternEntry) {s : State}, P s →
    P { s with ann := { s.ann with patterns := s.ann.patterns.set i v } }
  output : ∀ (k : Fin 8) (address : Option Nat) (timeout : Nat) {s : State}, P s → P (applyOutput k address timeout s)
  channelWrite : ∀ (c : Fin 16) (d : ChannelDef) {s : State}, P s → P (applyChannelWrite c d s)
  channelClear : ∀ (c : Fin 16) {s : State}, P s → P (applyChannelClear c s)
  enterRun : ∀ {s : State}, s.mode = .configuring → consistencyFailure s = none → P s → P (enterRun s)
  enterTest : ∀ {s : State}, s.mode = .run → P s → P (enterTest s)
  leaveTest : ∀ {s : State}, s.mode = .test → P s → P (leaveTest s)
  enterConfiguring : ∀ {s : State}, s.mode ≠ .configuring → P s → P (enterConfiguring s)
  restart : ∀ {s : State}, s.mode ≠ .configuring → P s → P (restartAnnunciation s)
  ack : ∀ (g : Fin 32) (origin : Nat) {s : State}, P s → P (ackGroup g origin s)
  reset : ∀ (g : Fin 32) {s : State}, P s → P (resetGroup g s)
  silence : ∀ (h : Fin 4) {s : State}, P s → P (silenceHorn h s)
  lampOn : ∀ {s : State}, P s → P (lampOn s)
  lampOff : ∀ {s : State}, P s → P (lampOff s)

namespace KeptByRows

variable {P : State → Prop} (h : KeptByRows P) {s t : State}

include h

theorem blockEffect (effect : BlockEffect s t) (hs : P s) : P t := by
  cases effect with
  | idle => exact hs
  | moduleWrite m d _ => exact h.applyModuleWrite m d hs
  | moduleClear m _ => exact h.applyModuleClear m hs
  | pointWrite p d => exact h.applyPointWrite p d hs
  | pointClear p => exact h.applyPointClear p hs
  | windowWrite w d known => exact h.windowWrite w d known hs
  | windowClear w => exact h.windowClear w hs
  | driver d a => exact h.driver d a hs
  | groupWrite g d => exact h.groupWrite g d hs
  | groupClear g unused => exact h.groupClear g unused hs
  | horn x v =>
    unfold applyHorn
    dsimp only
    split
    · exact h.setPhaseWaiting true (h.hornSound x v hs)
    · exact h.hornSound x v hs
  | pattern i v => exact h.setPhaseWaiting true (h.setPattern i v hs)
  | elementWrite e d => exact h.applyElementWrite e d hs
  | elementClear e => exact h.applyElementClear e hs
  | output k a n => exact h.output k a n hs
  | channelWrite c d => exact h.channelWrite c d hs
  | channelClear c => exact h.channelClear c hs
  | restart service => exact h.restart service hs
  | ack g origin => exact h.ack g origin hs
  | reset g => exact h.reset g hs
  | silence x => exact h.silence x hs
  | lampOn => exact h.lampOn hs
  | lampOff => exact h.lampOff hs
  | lockout c _ => exact h.resetLockout c hs
  | force on e => exact h.forceElement _ on e hs
  | clearCounters => exact h.frame hs rfl rfl rfl rfl

theorem commandEffect (effect : CommandEffect s t) (hs : P s) : P t := by
  cases effect with
  | block effect => exact h.blockEffect effect hs
  | settings v _ => exact h.applySettings v hs
  | enterRun configuring consistent => exact h.enterRun configuring consistent hs
  | leaveTest test => exact h.leaveTest test hs
  | enterTest run => exact h.enterTest run hs
  | enterConfiguring service => exact h.enterConfiguring service hs
  | freeze => exact h.frame hs rfl rfl rfl rfl

theorem tripHandover (hs : P s) : P (Machine.tripHandover s) := by
  unfold Machine.tripHandover
  split
  · split
    · rename_i k rest head
      split
      · rename_i a _
        exact h.recordCommand k _ _
          (h.takeTripHead (h.originate .B (lowByte a) kindTrip (tripPayload s k) hs) head)
      · exact hs
    · exact hs
  · exact hs

theorem phaseHandover (hs : P s) : P (Machine.phaseHandover s) := by
  unfold Machine.phaseHandover
  split
  · exact h.setPhaseWaiting false (h.originate .B broadcast kindPhase (phasePayload s) hs)
  · exact hs

theorem windowHandover (hs : P s) : P (Machine.windowHandover s) := by
  unfold Machine.windowHandover
  split
  · split
    · rename_i d rest head
      split
      · rename_i a _
        exact h.takeDriverHead (h.setPort .B _ (h.originate .B (lowByte a) kindWindow (imageBytes s d) hs)) head
      · exact hs
    · exact hs
  · exact hs

theorem eventHandover (hs : P s) : P (Machine.eventHandover s) := by
  unfold Machine.eventHandover
  split
  · exact h.removeEvents (h.setPort .A _ (h.originate .A _ _ _ hs))
  · exact hs

theorem phaseIntervalExpiry (hs : P s) : P (Machine.phaseIntervalExpiry s) := by
  unfold Machine.phaseIntervalExpiry
  split
  · exact h.setPhaseWaiting true (h.restartPhase hs)
  · exact hs

theorem lampLimitExpiry (hs : P s) : P (Machine.lampLimitExpiry s) := by
  unfold Machine.lampLimitExpiry
  split
  · exact h.lampOff hs
  · exact hs

theorem tripRefreshExpiry (hs : P s) : P (Machine.tripRefreshExpiry s) := by
  unfold Machine.tripRefreshExpiry
  split
  · exact h.joinTripAll (h.tripRefresh hs)
  · exact hs

theorem rowEffect (effect : RowEffect s t) (hs : P s) : P t := by
  cases effect with
  | idle => exact hs
  | coldReset ads rsa rsb => exact h.frame (h.coldReset ads rsa rsb) rfl rfl rfl rfl
  | resetnHeldLow => exact h.resetnHeldLow hs
  | localTick => exact h.localTick hs
  | frameReceived p cs => exact h.frameReceived p cs hs
  | frameAbandoned p cs => exact h.frameAbandoned p cs hs
  | pauseReceived p => exact h.setPort p _ hs
  | resumeReceived p => exact h.resumeReceived p hs
  | selfResumeExpiry p => exact h.selfResumeExpiry p hs
  | controlByteSent p => exact h.controlByteSent p hs
  | transmitEnd p => exact h.transmitEnd p hs
  | sofReceived p => exact h.setPort p _ hs
  | tripHandover => exact h.tripHandover hs
  | phaseHandover => exact h.phaseHandover hs
  | windowHandover => exact h.windowHandover hs
  | passThroughHandover p => exact h.passThroughHandover p hs
  | eventHandover => exact h.eventHandover hs
  | replyHandover => exact h.replyHandover hs
  | scanFrame => exact h.scanFrame hs
  | timeFrame dest src seq payload => exact h.timeFrame dest src seq payload hs
  | syncExpiry => exact h.syncExpiry hs
  | supervisionExpiry m => exact h.supervisionExpiry m hs
  | chatterDecayExpiry => exact h.chatterDecayExpiry hs
  | settleExpiry g => exact h.settleExpiry g hs
  | windowRefreshExpiry => exact h.windowRefreshExpiry hs
  | phaseIntervalExpiry => exact h.phaseIntervalExpiry hs
  | lampLimitExpiry => exact h.lampLimitExpiry hs
  | elementDelayExpiry e => exact h.elementDelayExpiry e hs
  | deadlineExpiry k => exact h.deadlineExpiry k hs
  | tripRefreshExpiry => exact h.tripRefreshExpiry hs
  | batchExpiry => exact h.batchExpiry hs
  | confirmFrame => exact h.confirmFrame hs
  | button act => exact h.givePlace .B _ (h.commandEffect act hs)
  | ignoredButton => exact h.givePlace .B _ (h.frame hs rfl rfl rfl rfl)
  | answered act r => exact h.frame (h.commandEffect act hs) rfl rfl rfl rfl
  | cmdFrame act r => exact h.givePlace .A _ (h.frame (h.commandEffect act hs) rfl rfl rfl rfl)
  | discardedCmd => exact h.givePlace .A _ hs

/-- Every step keeps the property. -/
theorem step (hs : P s) (hstep : step s = .next t) : P t :=
  step_keeps (fun _ hs => h.frame hs rfl rfl rfl rfl) h.rowEffect hs hstep

end KeptByRows

end Sys2Proof.Machine

/-! Every step keeps at most 8 frames in each receive buffer, with a pause state that agrees with the marks (section 9.5, R166). -/

namespace Sys2Proof.Machine

/-! ### One port -/

/-- As many frames are held, and the pause state is the same. -/
def PortState.alike (p q : PortState) : Prop := q.buf.length = p.buf.length ∧ q.pauseAsserted = p.pauseAsserted

theorem PortState.settled.of_alike {high low : Nat} {p q : PortState} (h : p.settled high low) (alike : p.alike q) :
    q.settled high low := by
  obtain ⟨len, pause⟩ := alike
  unfold PortState.settled at *
  rwa [len, pause]

theorem PortState.settled.ordered {high low : Nat} {p : PortState} (h : p.settled high low) : low < high := h.2.1

/-- A judgement settles a port, whatever its pause state was (R166). -/
theorem PortState.judge_settled {high low : Nat} {p : PortState} (ordered : low < high) (room : p.buf.length ≤ 8) :
    (p.judge high low).settled high low := by
  cases hp : p.pauseAsserted with
  | false =>
    by_cases hh : high ≤ p.buf.length
    · simpa [judge, settled, due, hp, hh, room, ordered] using by omega
    · simpa [judge, settled, hp, hh, room, ordered] using by omega
  | true =>
    by_cases hl : p.buf.length ≤ low
    · simpa [judge, settled, due, hp, hl, room, ordered] using by omega
    · simpa [judge, settled, hp, hl, room, ordered] using by omega

theorem markSending_length (hs : List Held) : (markSending hs).length = hs.length := by
  induction hs with
  | nil => rfl
  | cons h hs ih =>
    rw [markSending]
    split
    · rfl
    · simp [ih]

/-! ### Both ports -/

variable {s t : State}

theorem flowSettled_iff : s.flowSettled ↔ ∀ p : Port, (s.port p).settled (s.marks p).1 (s.marks p).2 := by
  constructor
  · rintro ⟨a, b⟩ p
    cases p
    · exact a
    · exact b
  · exact fun h => ⟨h .A, h .B⟩

theorem State.flowSettled.port (h : s.flowSettled) (p : Port) : (s.port p).settled (s.marks p).1 (s.marks p).2 := flowSettled_iff.mp h p

theorem State.setPort_marks (p q : Port) (v : PortState) (s : State) : (s.setPort p v).marks q = s.marks q := by
  cases p <;> rfl

theorem State.flowSettled.setPort (h : s.flowSettled) {p : Port} {v : PortState} (hv : v.settled (s.marks p).1 (s.marks p).2) :
    (s.setPort p v).flowSettled := by
  cases p
  · exact ⟨hv, h.2⟩
  · exact ⟨h.1, hv⟩

theorem State.flowSettled.setPort_alike (h : s.flowSettled) {p : Port} {v : PortState} (alike : (s.port p).alike v) :
    (s.setPort p v).flowSettled := h.setPort ((h.port p).of_alike alike)

/-- The ports are alike and the settings record is the same. -/
def State.alikeLink (s t : State) : Prop := s.portA.alike t.portA ∧ s.portB.alike t.portB ∧ t.settings = s.settings

theorem State.flowSettled.of_alike (h : s.flowSettled) (alike : s.alikeLink t) : t.flowSettled := by
  obtain ⟨a, b, settings⟩ := alike
  unfold State.flowSettled at *
  rw [settings]
  exact ⟨h.1.of_alike a, h.2.of_alike b⟩

theorem State.alikeLink.of_same (a : t.portA = s.portA) (b : t.portB = s.portB) (settings : t.settings = s.settings) :
    s.alikeLink t := by
  unfold State.alikeLink
  rw [a, b]
  exact ⟨⟨rfl, rfl⟩, ⟨rfl, rfl⟩, settings⟩

theorem State.flowSettled.of_same (h : s.flowSettled) (a : t.portA = s.portA) (b : t.portB = s.portB)
    (settings : t.settings = s.settings) : t.flowSettled := h.of_alike (.of_same a b settings)

theorem State.flowSettled.of_modules (h : s.flowSettled) (k : s.onlyModules t) : t.flowSettled := by
  unfold State.onlyModules at k
  exact h.of_same (by rw [k]) (by rw [k]) (by rw [k])

/-- A port that is judged after its buffer holds `b` is settled. -/
theorem State.flowSettled.judged (h : s.flowSettled) {p : Port} {v : PortState} (room : v.buf.length ≤ 8) :
    (judgeFlow p (s.setPort p v)).flowSettled := by
  have settled : (v.judge (s.marks p).1 (s.marks p).2).settled (s.marks p).1 (s.marks p).2 :=
    PortState.judge_settled (h.port p).ordered room
  cases p
  · exact ⟨settled, h.2⟩
  · exact ⟨h.1, settled⟩

/-! ### Places -/

theorem State.flowSettled.givePlace (h : s.flowSettled) (p : Port) (sel : Held → Bool) : (givePlace p sel s).flowSettled :=
  h.judged (List.length_eraseP_le.trans (h.port p).1)

theorem State.flowSettled.giveLast (h : s.flowSettled) (p : Port) : (giveLast p s).flowSettled := by
  have room : (s.port p).buf.length ≤ 8 := (h.port p).1
  exact h.judged (by simp only [List.length_dropLast]; omega)

theorem State.flowSettled.furtherPause (h : s.flowSettled) (p : Port) : (furtherPause p s).flowSettled := by
  unfold Machine.furtherPause
  split
  · exact h.setPort_alike ⟨rfl, rfl⟩
  · exact h

theorem furtherPause_buf (p : Port) (s : State) : ((furtherPause p s).port p).buf = (s.port p).buf := by
  unfold furtherPause
  split
  · rw [State.setPort_port_self]; rfl
  · rfl

theorem State.flowSettled.takePlace (h : s.flowSettled) {p : Port} (room : (s.port p).buf.length < 8) (x : Held) :
    (takePlace p x s).flowSettled :=
  (h.furtherPause p).judged (by
    simp only [List.length_append, List.length_cons, List.length_nil, furtherPause_buf]
    omega)

/-! ### Receptions -/

theorem State.flowSettled.takeTime (h : s.flowSettled) (payload : List Byte) : (takeTime payload s).flowSettled := by
  unfold Machine.takeTime applyTime
  split
  · dsimp only
    split
    · exact h.of_same rfl rfl rfl
    split
    · exact h.of_same rfl rfl rfl
    · have back : (refreshSync (stepBack (natOfBytes payload) s)).flowSettled :=
        h.of_alike ⟨⟨List.length_map .., rfl⟩, ⟨rfl, rfl⟩, rfl⟩
      exact back.of_modules (offerNow_touches _ _ _ _ _ _).ann.blocks
  · exact h

theorem State.flowSettled.acceptFrame (h : s.flowSettled) {p : Port} (room : (s.port p).buf.length < 8) (f : Frame) :
    (acceptFrame p f s).flowSettled := by
  have placed (forward : Bool) : (Machine.takePlace p (s.place p f forward) s).flowSettled := h.takePlace room _
  unfold Machine.acceptFrame
  split
  · exact placed _
  · exact ((placed _).takeTime _).giveLast p
  · exact (placed _).takeTime _
  · exact placed _
  · exact (placed _).giveLast p
  · exact ((placed _).giveLast p).of_same rfl rfl rfl
  · exact ((placed _).giveLast p).of_same rfl rfl rfl

theorem State.flowSettled.receiverFree (h : s.flowSettled) (p : Port) : (receiverFree p s).flowSettled := h.setPort_alike ⟨rfl, rfl⟩

theorem State.flowSettled.frameReceived (h : s.flowSettled) (p : Port) (cs : List RxChar) : (frameReceived p cs s).flowSettled := by
  have free := h.receiverFree p
  unfold Machine.frameReceived
  split
  · split
    · dsimp only
      split
      · exact free.setPort_alike ⟨rfl, rfl⟩
      · split
        · unfold judgeFrame
          split
          · exact free.setPort_alike ⟨rfl, rfl⟩
          split
          · refine State.flowSettled.furtherPause ?_ p
            exact free.setPort_alike ⟨rfl, rfl⟩
          · rename_i room
            exact free.acceptFrame (by simpa [bufferSize] using room) _
        · exact free
    · exact h
  · exact h

theorem State.flowSettled.timeArrives (h : s.flowSettled) (a : TimeArrival) : (timeArrives a s).flowSettled := by
  unfold Machine.timeArrives
  split
  · rename_i arrives
    exact (h.receiverFree .A).acceptFrame (p := .A) arrives.1 _
  · exact h

theorem flowSettled_reports : KeptByReports State.flowSettled where
  takeReport := fun m trx r _ hs => hs.of_modules (takeReport_touches m trx r _)
  timeArrives := fun a _ hs => hs.timeArrives a
  setInputModule := fun _ _ _ hs => hs.of_same rfl rfl rfl
  offerNow := fun _ _ _ _ _ _ hs => hs.of_modules (offerNow_touches _ _ _ _ _ _).ann.blocks
  clearAt := fun _ _ hs => hs.of_modules (clearAt_touches _ _).blocks
  unknownSource := fun _ _ hs => hs.of_same rfl rfl rfl

/-! ### Transmitters -/

theorem State.flowSettled.originate (h : s.flowSettled) (p : Port) (dest kind : Byte) (payload : List Byte) :
    (originate p dest kind payload s).flowSettled := by
  refine State.flowSettled.setPort_alike ?_ ⟨rfl, rfl⟩
  exact h.setPort_alike ⟨rfl, rfl⟩

theorem State.flowSettled.passThroughHandover (h : s.flowSettled) (p : Port) : (passThroughHandover p s).flowSettled := by
  unfold Machine.passThroughHandover
  split
  · split
    · refine State.flowSettled.setPort_alike ?_ ⟨markSending_length _, rfl⟩
      refine State.flowSettled.setPort_alike ?_ ⟨rfl, rfl⟩
      exact h.setPort_alike ⟨rfl, rfl⟩
    · exact h
  · exact h

theorem State.flowSettled.transmitEnd (h : s.flowSettled) (p : Port) : (transmitEnd p s).flowSettled := by
  unfold Machine.transmitEnd
  split
  · dsimp only
    split
    · refine State.flowSettled.givePlace ?_ _ _
      exact h.setPort_alike ⟨rfl, rfl⟩
    · exact h.setPort_alike ⟨rfl, rfl⟩
  · exact h

theorem State.flowSettled.tripHandover (h : s.flowSettled) : (tripHandover s).flowSettled := by
  unfold Machine.tripHandover
  split
  · split
    · split
      · refine State.flowSettled.of_modules ?_ (recordCommand_touches _ _ _ _).blocks
        exact (h.originate .B _ _ _).of_same rfl rfl rfl
      · exact h
    · exact h
  · exact h

theorem State.flowSettled.phaseHandover (h : s.flowSettled) : (phaseHandover s).flowSettled := by
  unfold Machine.phaseHandover
  split
  · exact (h.originate .B _ _ _).of_same rfl rfl rfl
  · exact h

theorem State.flowSettled.windowHandover (h : s.flowSettled) : (windowHandover s).flowSettled := by
  unfold Machine.windowHandover
  split
  · split
    · split
      · rename_i d _ _ _ a _
        exact (h.originate .B (lowByte a) kindWindow (imageBytes s d)).of_alike ⟨⟨rfl, rfl⟩, ⟨rfl, rfl⟩, rfl⟩
      · exact h
    · exact h
  · exact h

theorem State.flowSettled.eventHandover (h : s.flowSettled) : (eventHandover s).flowSettled := by
  unfold Machine.eventHandover
  split
  · refine State.flowSettled.of_modules ?_ (removeEvents_touches _).ann.blocks
    exact State.flowSettled.setPort_alike (h.originate .A _ _ _) ⟨rfl, rfl⟩
  · exact h

theorem State.flowSettled.replyHandover (h : s.flowSettled) : (replyHandover s).flowSettled := by
  unfold Machine.replyHandover
  split
  · split
    · exact (h.originate .A _ _ _).of_same rfl rfl rfl
    · exact h
  · exact h

/-! ### Commands -/

theorem State.flowSettled.applySettings (h : s.flowSettled) {v : Settings} (ordered : v.lowA < v.highA ∧ v.lowB < v.highB) :
    (applySettings v s).flowSettled := by
  have judged : (judgeFlow .B (judgeFlow .A { s with settings := v })).flowSettled :=
    ⟨PortState.judge_settled ordered.1 (h.port .A).1, PortState.judge_settled ordered.2 (h.port .B).1⟩
  unfold Machine.applySettings
  dsimp only
  split
  · exact judged
  · refine State.each_keeps (P := State.flowSettled) (fun _ u hu => ?_) _ _ judged
    exact hu.of_modules ((clearAt_touches _ _).trans (activateAt_touches _ _ _)).blocks

theorem State.flowSettled.enterRun (h : s.flowSettled) : (enterRun s).flowSettled := by
  have offered := (h.of_same rfl rfl rfl : ({ s with mode := .run } : State).flowSettled).of_modules
    ((offerModeChange_touches .run _).trans (queueOverflow_touches _)).ann.blocks
  have announced : (pointsToRun (queueOverflow (offerModeChange .run { s with mode := .run }))).flowSettled := by
    refine State.flowSettled.of_modules ?_ (pointsToRun_touches _).modules
    exact offered.of_same rfl rfl rfl
  refine announced.of_modules (.trans ?_ (joinAscending_panel _ _).ann.blocks)
  refine .trans ?_ (judgeLines_touches _).blocks
  refine .trans ?_ (elementsToRun_touches _).points.modules
  refine .trans ?_ (modulesToRun_touches _)
  exact (annEnterRun_touches _).blocks

theorem State.flowSettled.enterTest (h : s.flowSettled) : (enterTest s).flowSettled := by
  have moved : ({ s with mode := .test } : State).flowSettled := h.of_same rfl rfl rfl
  refine moved.of_modules (.trans ?_ (joinTripAll_touches _).blocks)
  exact ((offerModeChange_touches _ _).ann.channels.trans (judgeLines_touches _)).blocks

theorem State.flowSettled.leaveTest (h : s.flowSettled) : (leaveTest s).flowSettled := by
  have moved : ({ s with mode := .run } : State).flowSettled := h.of_same rfl rfl rfl
  refine moved.of_modules (.trans ?_ (joinAscending_panel _ _).ann.blocks)
  refine .trans ?_ (exitTest_touches _).blocks
  exact ((offerModeChange_touches _ _).ann.channels.elements.trans (clearForces_touches _)).points.modules

theorem State.flowSettled.enterConfiguring (h : s.flowSettled) : (enterConfiguring s).flowSettled := by
  have offered := h.of_modules (offerModeChange_touches .configuring s).ann.blocks
  have announced : (pointsToConfiguring { offerModeChange .configuring s with mode := .configuring }).flowSettled := by
    refine State.flowSettled.of_modules ?_ (pointsToConfiguring_touches _).modules
    exact offered.of_same rfl rfl rfl
  refine announced.of_modules (.trans ?_ (joinAscending_panel _ _).ann.blocks)
  refine .trans ?_ (judgeLines_touches _).blocks
  refine .trans ?_ (elementsToConfiguring_touches _).points.modules
  exact (annEnterConfiguring_touches _).blocks

theorem State.flowSettled.blockEffect (h : s.flowSettled) (effect : BlockEffect s t) : t.flowSettled := by
  rcases effect.touches with modules | rfl
  · exact h.of_modules modules
  · exact h.of_alike ⟨⟨rfl, rfl⟩, ⟨rfl, rfl⟩, rfl⟩

theorem State.flowSettled.commandEffect (h : s.flowSettled) (effect : CommandEffect s t) : t.flowSettled := by
  cases effect with
  | block effect => exact h.blockEffect effect
  | settings v ordered => exact h.applySettings ordered
  | enterRun _ _ => exact h.enterRun
  | leaveTest _ => exact h.leaveTest
  | enterTest _ => exact h.enterTest
  | enterConfiguring _ => exact h.enterConfiguring
  | freeze => exact h.of_same rfl rfl rfl

/-! ### Rows -/

theorem flowSettled_coldReset (ads : BitVec 8) (rsa rsb : BitVec 2) : (State.coldReset ads rsa rsb).flowSettled := by
  simp [State.flowSettled, PortState.settled, State.coldReset]

theorem State.flowSettled.rowEffect (h : s.flowSettled) (effect : RowEffect s t) : t.flowSettled := by
  cases effect with
  | idle => exact h
  | coldReset ads rsa rsb => exact (flowSettled_coldReset ads rsa rsb).of_same rfl rfl rfl
  | resetnHeldLow => exact h.of_alike ⟨⟨rfl, rfl⟩, ⟨rfl, rfl⟩, rfl⟩
  | localTick => exact h.of_alike ⟨⟨rfl, rfl⟩, ⟨rfl, rfl⟩, rfl⟩
  | frameReceived p cs => exact h.frameReceived p cs
  | frameAbandoned p cs =>
    unfold Machine.frameAbandoned
    split
    · split
      · exact h.setPort_alike ⟨rfl, rfl⟩
      · exact h.setPort_alike ⟨rfl, rfl⟩
      · exact h
    · exact h
  | pauseReceived p => exact h.setPort_alike ⟨rfl, rfl⟩
  | resumeReceived p =>
    unfold Machine.resumeReceived
    split
    · exact h.setPort_alike ⟨rfl, rfl⟩
    · exact h
  | selfResumeExpiry p =>
    unfold Machine.selfResumeExpiry
    split
    · exact h.setPort_alike ⟨rfl, rfl⟩
    · exact h
  | controlByteSent p =>
    unfold Machine.controlByteSent
    split
    · exact h.setPort_alike ⟨rfl, rfl⟩
    · exact h
  | transmitEnd p => exact h.transmitEnd p
  | sofReceived p => exact h.setPort_alike ⟨rfl, rfl⟩
  | tripHandover => exact h.tripHandover
  | phaseHandover => exact h.phaseHandover
  | windowHandover => exact h.windowHandover
  | passThroughHandover p => exact h.passThroughHandover p
  | eventHandover => exact h.eventHandover
  | replyHandover => exact h.replyHandover
  | scanFrame =>
    unfold Machine.scanFrame
    split
    · exact ((flowSettled_reports.takeScan _ _ h).givePlace .A (Held.owned kindScan)).of_same rfl rfl rfl
    · exact h
  | timeFrame dest src seq payload =>
    unfold Machine.timeFrame
    split
    · exact h.timeArrives _
    · exact h
  | syncExpiry =>
    unfold Machine.syncExpiry
    split
    · exact h.of_same rfl rfl rfl
    · exact h
  | supervisionExpiry m => exact h.of_modules (supervisionExpiry_touches m s)
  | chatterDecayExpiry =>
    unfold Machine.chatterDecayExpiry
    split
    · refine State.flowSettled.of_modules (s := { s with decay := some s.settings.chatterInterval }) ?_
        (State.each_rel State.onlyPoints.refl State.onlyPoints.trans decayPoint_touches _ _).modules
      exact h.of_same rfl rfl rfl
    · exact h
  | settleExpiry g => exact h.of_modules (settleExpiry_touches g s).blocks
  | windowRefreshExpiry => exact h.of_modules (windowRefreshExpiry_touches s).blocks
  | phaseIntervalExpiry => exact h.of_modules (phaseIntervalExpiry_touches s).blocks
  | lampLimitExpiry => exact h.of_modules (lampLimitExpiry_touches s).blocks
  | elementDelayExpiry e => exact h.of_modules (elementDelayExpiry_touches e s).points.modules
  | deadlineExpiry k => exact h.of_modules (deadlineExpiry_touches k s).blocks
  | tripRefreshExpiry => exact h.of_modules (tripRefreshExpiry_touches s).blocks
  | batchExpiry => exact h.of_modules (batchExpiry_touches s).ann.blocks
  | confirmFrame =>
    unfold Machine.confirmFrame
    split
    · refine State.flowSettled.givePlace ?_ _ _
      unfold handleConfirm
      split
      · exact h.of_same rfl rfl rfl
      · split
        · exact h.of_same rfl rfl rfl
        · exact h.of_modules (matchConfirm_touches _ _ _ _).blocks
    · exact h
  | button act => exact (h.commandEffect act).givePlace _ _
  | ignoredButton => exact (State.flowSettled.of_same h rfl rfl rfl : (countIgnoredButton s).flowSettled).givePlace _ _
  | answered act r => exact (h.commandEffect act).of_same rfl rfl rfl
  | @cmdFrame u act r =>
    exact ((h.commandEffect act).of_same rfl rfl rfl : ({ u with reply := some r } : State).flowSettled).givePlace _ _
  | discardedCmd => exact h.givePlace _ _

theorem step_keeps_flowSettled (h : s.flowSettled) (hstep : step s = .next t) : t.flowSettled :=
  step_keeps (fun _ hs => State.flowSettled.of_same hs rfl rfl rfl) (fun effect hs => State.flowSettled.rowEffect hs effect) h hstep

end Sys2Proof.Machine

/-! The changes of mode and the restart, for a property kept by the deliveries; and the properties that the Annunciation Unit's own
tables do not reach. -/

namespace Sys2Proof.Machine

/-! ### Whole-unit changes before the drivers join (R181 to R183) -/

/-- CONFIGURING to RUN, before the drivers join. -/
def runEntered (s : State) : State :=
  judgeLines (elementsToRun (modulesToRun (annEnterRun (pointsToRun
    (queueOverflow (offerModeChange .run { s with mode := .run }))))))

theorem enterRun_eq (s : State) : enterRun s = joinAscending s.ann.waiting (runEntered s) := rfl

/-- TEST to RUN, before the drivers join. -/
def testLeft (s : State) : State := exitTest (clearForces (offerModeChange .run { s with mode := .run }))

theorem leaveTest_eq (s : State) : leaveTest s = joinAscending s.ann.waiting (testLeft s) := rfl

/-- RUN or TEST to CONFIGURING, before the drivers join. -/
def configuringEntered (s : State) : State :=
  judgeLines (elementsToConfiguring (annEnterConfiguring (pointsToConfiguring
    { offerModeChange .configuring s with mode := .configuring })))

theorem enterConfiguring_eq (s : State) : enterConfiguring s = joinAscending s.ann.waiting (configuringEntered s) := rfl

/-- Besides the deliveries, a change of mode that the consistency check allows and the whole-unit changes of the Annunciation Unit
keep `P`. -/
structure KeptByModes (P : State → Prop) : Prop extends KeptByDeliveries P where
  setMode : ∀ (m : Mode) {s : State}, (s.mode = .configuring → m ≠ .configuring → consistencyFailure s = none) → P s →
    P { s with mode := m }
  queueOverflow : ∀ {s : State}, P s → P (queueOverflow s)
  countActivation : ∀ (w : Fin 192) {s : State}, P s → P (countActivation w s)
  countClear : ∀ (w : Fin 192) {s : State}, P s → P (countClear w s)
  annEnterRun : ∀ {s : State}, P s → P (annEnterRun s)
  annEnterConfiguring : ∀ {s : State}, P s → P (annEnterConfiguring s)
  annRestart : ∀ {s : State}, P s → P (annRestart s)

namespace KeptByModes

variable {P : State → Prop} (h : KeptByModes P) {s : State}

include h

theorem pointsToConfiguring (hs : P s) : P (Machine.pointsToConfiguring s) := by
  unfold Machine.pointsToConfiguring
  have stopped : P { s with decay := none } := h.frame hs rfl rfl rfl rfl
  refine State.each_keeps (fun p u hu => ?_) _ _ stopped
  unfold pointToConfiguring
  dsimp only
  split
  · split
    · exact h.clearAt _ (h.setPoint p _ hu)
    · exact h.setPoint p _ hu
  · exact h.setPoint p _ hu

/-- The deliveries of a restart count alone (R24). -/
theorem deliverCount (p : Fin 1024) (w : Option (Fin 192)) (a : Condition) (hs : P s) : P (deliverSource .countOnly p w a s) := by
  cases w with
  | none =>
    cases a with
    | alarm => exact hs
    | normal => exact hs
  | some w =>
    cases a with
    | alarm => exact h.countActivation w hs
    | normal => exact h.countClear w hs

theorem pointsRestart (hs : P s) : P (Machine.pointsRestart s) := by
  refine State.each_keeps (fun p u hu => ?_) _ _ hs
  have left : P (u.setPoint p { u.point p with chatter := 0, suppressed := false }) := h.setPoint p _ hu
  unfold pointRestart Machine.reannounce
  split
  · dsimp only
    split
    · exact left
    · exact h.deliverCount p _ _ (h.setPoint p _ left)
  · exact left

theorem restartAnnunciation (hs : P s) : P (Machine.restartAnnunciation s) :=
  h.annRestart (h.pointsRestart (h.offerNow _ _ _ _ _ hs))

theorem runEntered (consistent : consistencyFailure s = none) (hs : P s) :
    P (Machine.runEntered s) :=
  h.judgeLines (h.elementsToRun (h.modulesToRun (h.annEnterRun (h.pointsToRun
    (h.queueOverflow (h.offerNow _ _ _ _ _ (h.setMode .run (fun _ _ => consistent) hs)))))))

theorem enterTest (run : s.mode = .run) (hs : P s) : P (Machine.enterTest s) := by
  have tested : P { s with mode := .test } := h.setMode .test (by rw [run]; nofun) hs
  exact h.joinTripAll (h.judgeLines (h.offerNow _ _ _ _ _ tested))

theorem testLeft (test : s.mode = .test) (hs : P s) : P (Machine.testLeft s) := by
  have running : P { s with mode := .run } := h.setMode .run (by rw [test]; nofun) hs
  exact h.exitTest (h.clearForces (h.offerNow _ _ _ _ _ running))

theorem configuringEntered (hs : P s) : P (Machine.configuringEntered s) := by
  have resting : P { offerModeChange .configuring s with mode := .configuring } :=
    h.setMode .configuring (fun _ left => absurd rfl left) (h.offerNow _ _ _ _ _ hs)
  exact h.judgeLines (h.elementsToConfiguring (h.annEnterConfiguring (h.pointsToConfiguring resting)))

end KeptByModes

/-! ### Properties that the Channel Unit's tables do not reach -/

namespace KeptByDeliveries

variable {P : State → Prop} (h : KeptByDeliveries P)
  (offTrip : ∀ {s t : State}, P s → t.ann = s.ann → t.events = s.events → t.mode = s.mode → P t) {s : State}

include h offTrip

theorem settleModule_offTrip (k : Fin 8) (hs : P s) : P (settleModule k s) := by
  unfold settleModule
  split
  · exact offTrip hs rfl rfl rfl
  · exact h.joinTrip k hs

theorem applyOutput_offTrip (k : Fin 8) (address : Option Nat) (timeout : Nat) (hs : P s) : P (applyOutput k address timeout s) := by
  have written (v : OutputModule) : P (s.setOutputModule k v) := offTrip hs rfl rfl rfl
  unfold applyOutput
  dsimp only
  split
  · exact written _
  · split
    · exact h.joinTrip k (written _)
    · exact h.joinTrip k (written _)
    · have left (v : OutputModule) : P (leaveTrip k (s.setOutputModule k v)) := offTrip hs rfl rfl rfl
      exact State.each_keeps (fun c _ => h.becomeConfirmed false c) _ _ (left _)

theorem applyChannelWrite_offTrip (c : Fin 16) (d : ChannelDef) (hs : P s) : P (applyChannelWrite c d s) := by
  have written (v : Channel) : P (s.setChannel c v) := offTrip hs rfl rfl rfl
  unfold applyChannelWrite
  split
  · exact h.joinTrip _ (written _)
  · dsimp only
    split
    · exact written _
    · rename_i old _ _
      have dropped : P (dropAwaited old.outputModule old.output (s.setChannel c { s.channel c with defn := some d })) :=
        offTrip hs rfl rfl rfl
      exact h.joinTrip _ (h.settleModule_offTrip offTrip _ (h.becomeConfirmed false c dropped))

theorem applyChannelClear_offTrip (c : Fin 16) (hs : P s) : P (applyChannelClear c s) := by
  unfold applyChannelClear
  split
  · exact hs
  · rename_i old _
    have dropped : P (dropAwaited old.outputModule old.output s) := offTrip hs rfl rfl rfl
    have cleared := h.becomeConfirmed false c dropped
    exact h.settleModule_offTrip offTrip _ (offTrip cleared rfl rfl rfl)

end KeptByDeliveries

/-! ### Properties that the panel does not reach -/

/-- `P` is about the Channel Unit and the Event Queue. -/
structure KeptOutsidePanel (P : State → Prop) : Prop where
  frame : ∀ {s t : State}, P s → t.trip = s.trip → t.events = s.events → P t
  offer : ∀ (o : Offer) {s : State}, P s → P (offer o s)
  queueOverflow : ∀ {s : State}, P s → P (queueOverflow s)
  removeEvents : ∀ {s : State}, P s → P (removeEvents s)
  batchExpiry : ∀ {s : State}, P s → P (batchExpiry s)
  setChannel : ∀ {c : Fin 16} {v : Channel} {s : State}, v.defn = (s.channel c).defn → P s → P (s.setChannel c v)
  setOutputModule : ∀ {k : Fin 8} {v : OutputModule} {s : State}, v.address = (s.outputModule k).address → P s →
    P (s.setOutputModule k v)
  joinTrip : ∀ (k : Fin 8) {s : State}, P s → P (joinTrip k s)
  judgeLine : ∀ (k : Fin 2) {s : State}, P s → P (judgeLine k s)
  coldReset : ∀ (ads : BitVec 8) (rsa rsb : BitVec 2), P (State.coldReset ads rsa rsb)
  resetnHeldLow : ∀ {s : State}, P s → P (resetnHeldLow s)
  localTick : ∀ {s : State}, P s → P (localTick s)
  takeTripHead : ∀ {k : Fin 8} {rest : List (Fin 8)} {s : State}, P s → s.trip.waiting = k :: rest →
    P { s with trip := { s.trip with waiting := rest } }
  tripRefresh : ∀ {s : State}, P s → P { s with trip := { s.trip with refresh := some 200 } }

namespace KeptOutsidePanel

variable {P : State → Prop} (h : KeptOutsidePanel P) {s t : State}

include h

theorem ofPanel (panel : s.onlyPanel t) (hs : P s) : P t := by
  unfold State.onlyPanel at panel
  exact h.frame hs (by rw [panel]) (by rw [panel])

/-- An operation inside the Annunciation Unit that offers at most one record. -/
theorem ofOffers (touches : s.onlyAnnunciation t) (offers : s.offersAtMostOne t) (hs : P s) : P t := by
  have trip : t.trip = s.trip := by unfold State.onlyAnnunciation at touches; rw [touches]
  rcases offers with same | ⟨o, offered⟩
  · exact h.frame hs trip same
  · have offeredTrip : (Machine.offer o s).trip = s.trip := by
      have only := offer_touches o s
      unfold State.onlyEvents at only
      rw [only]
    exact h.frame (h.offer o hs) (trip.trans offeredTrip.symm) offered

theorem deliveries : KeptByDeliveries P where
  frame := fun hs _ trip events _ => h.frame hs trip events
  offer := fun o _ hs => h.offer o hs
  activate := fun w capture _ hs => h.ofOffers (activate_touches w capture _) (activate_offers w capture _) hs
  clearSource := fun w _ hs => h.ofPanel (clearSource_panel w _) hs
  setChannel := h.setChannel
  setOutputModule := h.setOutputModule
  joinTrip := h.joinTrip
  judgeLine := h.judgeLine

theorem modes : KeptByModes P where
  toKeptByDeliveries := h.deliveries
  setMode := fun _ _ _ hs => h.frame hs rfl rfl
  queueOverflow := h.queueOverflow
  countActivation := fun _ _ hs => h.frame hs rfl rfl
  countClear := fun _ _ hs => h.frame hs rfl rfl
  annEnterRun := fun hs => h.ofPanel (annEnterRun_panel _) hs
  annEnterConfiguring := fun hs => h.ofPanel (annEnterConfiguring_panel _) hs
  annRestart := fun hs => h.ofPanel (annRestart_panel _) hs

theorem settleExpiry (g : Fin 32) (hs : P s) : P (settleExpiry g s) := by
  unfold Machine.settleExpiry
  split
  · exact h.offer _ (h.frame hs rfl rfl)
  · exact hs

theorem ackGroup (g : Fin 32) (origin : Nat) (hs : P s) : P (ackGroup g origin s) := by
  unfold Machine.ackGroup
  split
  · exact hs
  · exact h.offer _ (h.ofPanel (each_panel ackWindow_panel _ s) hs)

theorem resetGroup (g : Fin 32) (hs : P s) : P (resetGroup g s) := by
  unfold Machine.resetGroup
  split
  · exact hs
  · exact h.offer _ (h.ofPanel (each_panel resetWindow_panel _ s) hs)

theorem silenceHorn (x : Fin 4) (hs : P s) : P (silenceHorn x s) := by
  unfold Machine.silenceHorn
  split
  · exact h.offer _ (h.ofPanel (putHorn_panel x _ s) hs)
  · exact hs

/-- With the writes of output modules and channels, such a property is kept by every row. -/
theorem rows (output : ∀ (k : Fin 8) (address : Option Nat) (timeout : Nat) {s : State}, P s → P (applyOutput k address timeout s))
    (channelWrite : ∀ (c : Fin 16) (d : ChannelDef) {s : State}, P s → P (applyChannelWrite c d s))
    (channelClear : ∀ (c : Fin 16) {s : State}, P s → P (applyChannelClear c s)) : KeptByRows P where
  toKeptByDeliveries := h.deliveries
  coldReset := h.coldReset
  resetnHeldLow := h.resetnHeldLow
  localTick := h.localTick
  takeTripHead := h.takeTripHead
  takeDriverHead := fun hs _ => h.frame hs rfl rfl
  setPhaseWaiting := fun _ _ hs => h.frame hs rfl rfl
  removeEvents := h.removeEvents
  batchExpiry := h.batchExpiry
  settleExpiry := fun g _ hs => h.settleExpiry g hs
  windowRefreshExpiry := fun hs => h.ofPanel (windowRefreshExpiry_panel _) hs
  restartPhase := fun hs => h.frame hs rfl rfl
  tripRefresh := h.tripRefresh
  windowWrite := fun w d _ _ hs => h.ofPanel (applyWindowWrite_panel w d _) hs
  windowClear := fun w _ hs => h.ofPanel (applyWindowClear_panel w _) hs
  driver := fun d a _ hs => h.ofPanel (applyDriver_panel d a _) hs
  groupWrite := fun g d _ hs => h.ofPanel (applyGroupWrite_panel g d _) hs
  groupClear := fun _ _ _ hs => h.frame hs rfl rfl
  hornSound := fun _ _ _ hs => h.frame hs rfl rfl
  setPattern := fun _ _ _ hs => h.frame hs rfl rfl
  output := output
  channelWrite := channelWrite
  channelClear := channelClear
  enterRun := fun _ consistent hs => h.ofPanel (joinAscending_panel _ _) (h.modes.runEntered consistent hs)
  enterTest := h.modes.enterTest
  leaveTest := fun test hs => h.ofPanel (joinAscending_panel _ _) (h.modes.testLeft test hs)
  enterConfiguring := fun _ hs => h.ofPanel (joinAscending_panel _ _) (h.modes.configuringEntered hs)
  restart := fun _ hs => h.modes.restartAnnunciation hs
  ack := fun g origin _ hs => h.ackGroup g origin hs
  reset := fun g _ hs => h.resetGroup g hs
  silence := fun x _ hs => h.silenceHorn x hs
  lampOn := fun hs => h.ofPanel (lampOn_panel _) hs
  lampOff := fun hs => h.ofPanel (lampOff_panel _) hs

end KeptOutsidePanel

end Sys2Proof.Machine

/-! Every step keeps the bounds of the event queue and its sequence numbers without a gap (R145, R147, R149, R150). -/

namespace Sys2Proof.Machine

/-- What `queueSound` says of the queue. -/
def EventQueue.sound (q : EventQueue) : Prop :=
  q.records.length ≤ 512 ∧ (alarmRecords q.records).length ≤ 480 ∧ q.dropped ≤ 65535 ∧ q.nextSeq < 65536 ∧
  ∀ (i : Nat) (r : Record), q.records[i]? = some r → r.seq = (q.nextSeq + 65536 - q.records.length + i) % 65536

theorem queueSound_iff (s : State) : s.queueSound ↔ s.events.sound := Iff.rfl

theorem EventQueue.sound_empty : ({} : EventQueue).sound :=
  ⟨by decide, by decide, by decide, by decide, fun _ _ h => by cases h⟩

/-- The records, the dropped count and the next sequence number are the same. -/
def EventQueue.sameRecords (q r : EventQueue) : Prop := r.records = q.records ∧ r.dropped = q.dropped ∧ r.nextSeq = q.nextSeq

theorem EventQueue.sound.of_sameRecords {q r : EventQueue} (h : q.sound) (same : q.sameRecords r) : r.sound := by
  obtain ⟨records, dropped, next⟩ := same
  unfold EventQueue.sound at *
  rwa [records, dropped, next]

/-! ### One record more, eight records less -/

/-- A record with the next number joins the tail within the bounds of its class. -/
theorem EventQueue.sound.append {q t : EventQueue} (h : q.sound) {r : Record} (seq : r.seq = q.nextSeq)
    (room : q.records.length < classLimit r.cls) (records : t.records = q.records ++ [r])
    (next : t.nextSeq = (q.nextSeq + 1) % 65536) (dropped : t.dropped ≤ 65535) : t.sound := by
  obtain ⟨held, alarms, -, bound, numbers⟩ := h
  have limit := classLimit_le r.cls
  refine ⟨?_, ?_, dropped, ?_, fun i x hx => ?_⟩
  · rw [records, List.length_append, List.length_singleton]; omega
  · rw [records]; exact alarmRecords_bounded_of_room room alarms
  · rw [next]; omega
  · rw [records] at hx ⊢
    rw [List.length_append, List.length_singleton, next]
    rcases Nat.lt_or_ge i q.records.length with old | new
    · rw [List.getElem?_append_left old] at hx
      rw [numbers i x hx]
      omega
    · rw [List.getElem?_append_right new, List.getElem?_singleton] at hx
      obtain ⟨last, same⟩ := Option.ite_none_right_eq_some.mp hx
      rw [← Option.some.inj same, seq]
      omega

/-- The oldest records leave the queue, and the numbers of the rest run on. -/
theorem EventQueue.sound.drop {q t : EventQueue} (h : q.sound) (n : Nat) (records : t.records = q.records.drop n)
    (next : t.nextSeq = q.nextSeq) (dropped : t.dropped = q.dropped) : t.sound := by
  obtain ⟨held, alarms, counted, bound, numbers⟩ := h
  refine ⟨?_, ?_, dropped ▸ counted, next ▸ bound, fun i x hx => ?_⟩
  · rw [records, List.length_drop]; omega
  · rw [records]
    exact (((List.drop_sublist n q.records).filter _).length_le).trans alarms
  · rw [records, List.getElem?_drop] at hx
    have inside : n + i < q.records.length := (List.getElem?_eq_some_iff.mp hx).1
    rw [numbers _ x hx, records, List.length_drop, next]
    omega

/-! ### The operations of the Event Queue -/

theorem startBatch_sameRecords (s : State) : s.events.sameRecords (startBatch s).events := by
  unfold startBatch
  split
  · exact ⟨rfl, rfl, rfl⟩
  · dsimp only
    split
    · exact ⟨rfl, rfl, rfl⟩
    · exact ⟨rfl, rfl, rfl⟩

theorem acceptRecord_sameRecords (o : Offer) (s : State) : (appendRecord o s).events.sameRecords (acceptRecord o s).events := by
  by_cases empty : s.events.records = []
  · rw [acceptRecord_first empty]; exact startBatch_sameRecords _
  · rw [acceptRecord_behind empty]; exact ⟨rfl, rfl, rfl⟩

theorem acceptRecord_sound {s : State} (h : s.events.sound) {o : Offer} (room : s.events.records.length < classLimit o.cls) :
    (acceptRecord o s).events.sound :=
  (h.append (t := (appendRecord o s).events) (r := completeRecord o s) rfl room rfl rfl h.2.2.1).of_sameRecords
    (acceptRecord_sameRecords o s)

theorem saturate_le (n : Nat) : saturate n ≤ 65535 := Nat.min_le_right _ _

theorem offer_sound {s : State} (h : s.events.sound) (o : Offer) : (offer o s).events.sound := by
  unfold offer
  split
  · exact h
  split
  · exact acceptRecord_sound h ‹_›
  · obtain ⟨held, alarms, -, bound, numbers⟩ := h
    exact ⟨held, alarms, saturate_le _, bound, numbers⟩

theorem queueOverflow_sound {s : State} (h : s.events.sound) : (queueOverflow s).events.sound := by
  unfold queueOverflow
  split
  · rename_i called
    obtain ⟨held, alarms, -, bound, numbers⟩ := acceptRecord_sound h
      (o := { kind := .queueOverflow, cls := .trip, time := s.time.station, subject := noSubject, extra := s.events.dropped })
      (show s.events.records.length < 512 by omega)
    exact ⟨held, alarms, Nat.zero_le _, bound, numbers⟩
  · exact h

theorem removeEvents_sound {s : State} (h : s.events.sound) : (removeEvents s).events.sound := by
  have left : ({ s with events := { s.events with records := s.events.records.drop 8 } } : State).events.sound :=
    h.drop 8 rfl rfl rfl
  exact (queueOverflow_sound left).of_sameRecords (startBatch_sameRecords _)

theorem batchExpiry_sound {s : State} (h : s.events.sound) : (batchExpiry s).events.sound := by
  unfold batchExpiry
  split
  · exact h.of_sameRecords ⟨rfl, rfl, rfl⟩
  · exact h

/-! ### Every operation that offers records -/

theorem State.offersAtMostOne.sound {s t : State} (offers : s.offersAtMostOne t) (h : s.queueSound) : t.queueSound := by
  rcases offers with same | ⟨o, offered⟩
  · rw [queueSound_iff, same]; exact h
  · rw [queueSound_iff, offered]; exact offer_sound h o

theorem State.onlyPanel.queueSound {s t : State} (panel : s.onlyPanel t) (h : s.queueSound) : t.queueSound :=
  State.offersAtMostOne.sound (.inl panel.events) h

theorem State.queueSound.of_events {s t : State} (h : s.queueSound) (events : t.events = s.events) : t.queueSound :=
  State.offersAtMostOne.sound (.inl events) h

theorem queueSound_outsidePanel : KeptOutsidePanel State.queueSound where
  frame := fun hs _ events => hs.of_events events
  offer := fun o _ hs => offer_sound hs o
  queueOverflow := queueOverflow_sound
  removeEvents := removeEvents_sound
  batchExpiry := batchExpiry_sound
  coldReset := fun _ _ _ => EventQueue.sound_empty
  localTick := fun hs => EventQueue.sound.of_sameRecords hs ⟨rfl, rfl, rfl⟩
  resetnHeldLow := fun hs => hs.of_events rfl
  setChannel := fun _ hs => hs.of_events rfl
  setOutputModule := fun _ hs => hs.of_events rfl
  joinTrip := fun k _ hs => hs.of_events (joinTrip_events k _)
  judgeLine := fun k _ hs => hs.of_events (by unfold judgeLine; split <;> rfl)
  takeTripHead := fun hs _ => hs.of_events rfl
  tripRefresh := fun hs => hs.of_events rfl

theorem queueSound_rows : KeptByRows State.queueSound :=
  queueSound_outsidePanel.rows
    (fun k address timeout _ hs => queueSound_outsidePanel.deliveries.applyOutput_offTrip
      (fun hs _ events _ => State.queueSound.of_events hs events) k address timeout hs)
    (fun c d _ hs => queueSound_outsidePanel.deliveries.applyChannelWrite_offTrip
      (fun hs _ events _ => State.queueSound.of_events hs events) c d hs)
    (fun c _ hs => queueSound_outsidePanel.deliveries.applyChannelClear_offTrip
      (fun hs _ events _ => State.queueSound.of_events hs events) c hs)

theorem step_keeps_queueSound {s t : State} (h : s.queueSound) (hstep : step s = .next t) : t.queueSound :=
  queueSound_rows.step h hstep

end Sys2Proof.Machine

/-! Every step keeps the TRIP waiting list: each module once, and only modules with a present address that host a defined channel
(R135). -/

namespace Sys2Proof.Machine

/-- What `waitingSound` says of the TRIP waiting list, but for a module whose channels are changing and that is judged last. -/
def State.modulesWait (s : State) (exempt : Option (Fin 8)) : Prop :=
  s.trip.waiting.Nodup ∧
  ∀ k ∈ s.trip.waiting, (s.outputModule k).address.isSome = true ∧ (exempt ≠ some k → hostedBy s k ≠ [])

variable {s t : State} {exempt : Option (Fin 8)}

/-! ### The channels a module hosts -/

theorem mem_definedChannels (s : State) (c : Fin 16) : c ∈ s.definedChannels ↔ (s.channel c).defn.isSome = true := by
  unfold State.definedChannels
  rw [List.mem_filter, and_iff_right_iff_imp]
  intro defined
  exact Table.mem_keys_of_get_ne (d := {}) fun initial => by
    rw [State.channel, initial] at defined
    cases defined

theorem mem_hostedBy (s : State) (k : Fin 8) (c : Fin 16) :
    c ∈ hostedBy s k ↔ ∃ d, (s.channel c).defn = some d ∧ d.outputModule = k := by
  unfold hostedBy
  rw [List.mem_filter, mem_definedChannels]
  cases (s.channel c).defn <;> simp

theorem hostedBy_ne_nil (s : State) (k : Fin 8) :
    hostedBy s k ≠ [] ↔ ∃ c d, (s.channel c).defn = some d ∧ d.outputModule = k := by
  rw [ne_eq, List.eq_nil_iff_forall_not_mem, not_forall]
  simp only [not_not, mem_hostedBy]

theorem hostedBy_ne_nil_of_defns (same : ∀ c, (t.channel c).defn = (s.channel c).defn) {k : Fin 8} (hosts : hostedBy s k ≠ []) :
    hostedBy t k ≠ [] := by
  rw [hostedBy_ne_nil] at *
  simpa only [same] using hosts

/-! ### One change -/

/-- A change that keeps addresses and definitions, and adds nothing to the list. -/
theorem State.modulesWait.of_sublist (h : s.modulesWait exempt) (sub : t.trip.waiting.Sublist s.trip.waiting)
    (address : ∀ k ∈ t.trip.waiting, (s.outputModule k).address.isSome = true → (t.outputModule k).address.isSome = true)
    (hosts : ∀ k ∈ t.trip.waiting, hostedBy s k ≠ [] → hostedBy t k ≠ []) : t.modulesWait exempt :=
  ⟨h.1.sublist sub, fun k hk => ⟨address k hk (h.2 k (sub.subset hk)).1, fun judged => hosts k hk ((h.2 k (sub.subset hk)).2 judged)⟩⟩

theorem State.modulesWait.of_trip (h : s.modulesWait exempt) (waiting : t.trip.waiting = s.trip.waiting)
    (outputs : t.trip.outputs = s.trip.outputs) (channels : t.trip.channels = s.trip.channels) : t.modulesWait exempt := by
  refine h.of_sublist (by rw [waiting]) (fun k _ present => ?_) (fun k _ => hostedBy_ne_nil_of_defns fun c => ?_)
  · rw [State.outputModule, outputs]; exact present
  · rw [State.channel, channels]; rfl

theorem joinTrip_modulesWait (k : Fin 8) (h : s.modulesWait exempt) : (joinTrip k s).modulesWait exempt := by
  unfold joinTrip
  split
  · rename_i qualifies
    obtain ⟨present, hosts, absent⟩ := qualifies
    refine ⟨List.nodup_append.mpr ⟨h.1, List.nodup_singleton k, ?_⟩, fun j hj => ?_⟩
    · intro a ha b hb same
      exact absent (List.mem_singleton.mp hb ▸ same ▸ ha)
    · rcases List.mem_append.mp hj with old | new
      · exact h.2 j old
      · rw [List.mem_singleton.mp new]; exact ⟨present, fun _ => hosts⟩
  · exact h

/-- A module off the list may lose its address and its channels. -/
theorem leaveTrip_modulesWait (k : Fin 8) (once : s.trip.waiting.Nodup) (others : ∀ j ∈ s.trip.waiting, j ≠ k →
    (s.outputModule j).address.isSome = true ∧ hostedBy s j ≠ []) : (leaveTrip k s).modulesWait none := by
  refine ⟨once.filter _, fun j hj => ?_⟩
  obtain ⟨held, other⟩ := List.mem_filter.mp hj
  obtain ⟨present, hosts⟩ := others j held (of_decide_eq_true other)
  exact ⟨present, fun _ => hosts⟩

theorem setChannel_hosts {c : Fin 16} {v : Channel} (same : v.defn = (s.channel c).defn) (j : Fin 16) :
    ((s.setChannel c v).channel j).defn = (s.channel j).defn := by
  rw [State.setChannel_channel]
  split
  · rename_i at_c; rw [at_c, same]
  · rfl

theorem setOutputModule_present {k : Fin 8} {v : OutputModule} (same : v.address = (s.outputModule k).address) (j : Fin 8) :
    ((s.setOutputModule k v).outputModule j).address = (s.outputModule j).address := by
  rw [State.setOutputModule_outputModule]
  split
  · rename_i at_k; rw [at_k, same]
  · rfl

/-- A listed entry is mapped in its place, also in a table that is not canonical. -/
theorem Table.get_mapCells_of_ne {n : Nat} {α : Type} [DecidableEq α] (d : α) (f : α → α) (initial : ∀ v, f v = d → v = d)
    (i : Fin n) (t : Table n α) (listed : Table.get d t i ≠ d) : Table.get d (Table.mapCells d f t) i = f (Table.get d t i) := by
  induction t with
  | nil => exact absurd rfl listed
  | cons x rest ih =>
    obtain ⟨j, v⟩ := x
    rw [Table.get_cons] at listed ⊢
    unfold Table.mapCells at ih ⊢
    rw [List.filterMap_cons]
    by_cases here : i = j
    · rw [if_pos here] at listed ⊢
      have kept : f v ≠ d := fun gone => listed (initial v gone)
      simp only [kept, if_false]
      rw [Table.get_cons, if_pos here]
    · rw [if_neg here] at listed ⊢
      split
      · exact ih listed
      · rename_i cell
        split at cell
        · cases cell
        · rw [← Option.some.inj cell, Table.get_cons, if_neg here]
          exact ih listed

theorem Deadline.tick_stopped {d : Deadline} (h : d.tick = .stopped) : d = .stopped := by
  cases d with
  | stopped => rfl
  | running n => cases h
  | passed => cases h

/-- A tick leaves every entry that is not the initial one with its address. -/
theorem tick_present (k : Fin 8) (present : (s.outputModule k).address.isSome = true) :
    ((localTick s).outputModule k).address = (s.outputModule k).address := by
  have listed : s.outputModule k ≠ {} := fun initial => by rw [initial] at present; cases present
  have initial (v : OutputModule) (h : { v with deadline := v.deadline.tick } = ({} : OutputModule)) : v = {} := by
    have stopped : v.deadline.tick = .stopped := congrArg OutputModule.deadline h
    rw [← h, Deadline.tick_stopped stopped]
    cases v
    cases Deadline.tick_stopped stopped
    rfl
  have ticked := Table.get_mapCells_of_ne ({} : OutputModule) (fun m : OutputModule => { m with deadline := m.deadline.tick }) initial k
    s.trip.outputs listed
  have address := congrArg OutputModule.address ticked
  exact address

theorem modulesWait_outsidePanel (exempt : Option (Fin 8)) : KeptOutsidePanel (fun s => s.modulesWait exempt) where
  frame := fun hs trip _ => hs.of_trip (by rw [trip]) (by rw [trip]) (by rw [trip])
  offer := fun o s hs => by
    have only := offer_touches o s
    unfold State.onlyEvents at only
    rw [only]
    exact hs
  queueOverflow := fun {s} hs => by
    have only := queueOverflow_touches s
    unfold State.onlyEvents at only
    rw [only]
    exact hs
  removeEvents := fun {s} hs => by
    have only := removeEvents_touches s
    unfold State.onlyEvents at only
    rw [only]
    exact hs
  batchExpiry := fun {s} hs => by
    have only := batchExpiry_touches s
    unfold State.onlyEvents at only
    rw [only]
    exact hs
  setChannel := fun same hs => hs.of_sublist (List.Sublist.refl _) (fun _ _ present => present)
    (fun _ _ => hostedBy_ne_nil_of_defns (setChannel_hosts same))
  setOutputModule := fun same hs => hs.of_sublist (List.Sublist.refl _)
    (fun j _ present => by rw [setOutputModule_present same]; exact present) (fun _ _ hosts => hosts)
  joinTrip := fun k _ hs => joinTrip_modulesWait k hs
  judgeLine := fun k _ hs => by
    unfold Machine.judgeLine
    split
    · exact hs.of_trip rfl rfl rfl
    · exact hs.of_trip rfl rfl rfl
  coldReset := fun _ _ _ => ⟨List.nodup_nil, nofun⟩
  resetnHeldLow := fun hs => hs.of_trip rfl rfl rfl
  localTick := fun hs => hs.of_sublist (List.Sublist.refl _) (fun k _ present => by rw [tick_present k present]; exact present)
    (fun _ _ hosts => hosts)
  takeTripHead := fun hs head => hs.of_sublist (by rw [head]; exact List.sublist_cons_self ..) (fun _ _ present => present)
    (fun _ _ hosts => hosts)
  tripRefresh := fun hs => hs.of_trip rfl rfl rfl

/-! ### Writes of output modules and channels -/

/-- The list is sound, with no module exempt. -/
theorem modulesWait_deliveries : KeptByDeliveries (fun s => s.modulesWait none) := (modulesWait_outsidePanel none).deliveries

theorem applyOutput_modulesWait (k : Fin 8) (address : Option Nat) (timeout : Nat) (h : s.modulesWait none) :
    (applyOutput k address timeout s).modulesWait none := by
  -- the entry may change while its address stays present or `k` is not on the list
  have written (v : OutputModule) (present : v.address.isSome = true ∨ k ∉ s.trip.waiting) :
      (s.setOutputModule k v).modulesWait none := by
    refine h.of_sublist (List.Sublist.refl _) (fun j hj old => ?_) (fun _ _ hosts => hosts)
    rw [State.setOutputModule_outputModule]
    split
    · rename_i at_k
      exact present.resolve_right fun absent => absent (at_k ▸ hj)
    · exact old
  have absent (gone : (s.outputModule k).address = none) : k ∉ s.trip.waiting := fun held => by
    have present := (h.2 k held).1
    rw [gone] at present
    cases present
  unfold applyOutput
  dsimp only
  split
  · rename_i same
    exact (modulesWait_outsidePanel none).setOutputModule same.symm h
  · split
    · rename_i gone _
      exact joinTrip_modulesWait k (written _ (.inr (absent gone)))
    · exact joinTrip_modulesWait k (written _ (.inl rfl))
    · refine State.each_keeps (P := fun s => s.modulesWait none) (fun c _ => modulesWait_deliveries.becomeConfirmed false c) _ _ ?_
      refine leaveTrip_modulesWait k h.1 fun j hj other => ?_
      rw [State.setOutputModule_outputModule_ne _ _ other]
      exact ⟨(h.2 j hj).1, (h.2 j hj).2 nofun⟩

theorem dropAwaited_modulesWait (k : Fin 8) (o : Fin 16) (h : s.modulesWait exempt) : (dropAwaited k o s).modulesWait exempt :=
  (modulesWait_outsidePanel exempt).setOutputModule (v := { s.outputModule k with
    awaited := (s.outputModule k).awaited.filter (fun p => decide (p.1 ≠ o)) }) rfl h

/-- The exempt module is judged (R130). -/
theorem settleModule_modulesWait (k : Fin 8) (h : s.modulesWait (some k)) : (settleModule k s).modulesWait none := by
  obtain ⟨once, held⟩ := h
  have others (j : Fin 8) (hj : j ∈ s.trip.waiting) (other : j ≠ k) :
      (s.outputModule j).address.isSome = true ∧ hostedBy s j ≠ [] :=
    ⟨(held j hj).1, (held j hj).2 fun same => other (Option.some.inj same).symm⟩
  unfold settleModule
  split
  · exact leaveTrip_modulesWait k once others
  · rename_i hosts
    refine joinTrip_modulesWait k ⟨once, fun j hj => ⟨(held j hj).1, fun _ => ?_⟩⟩
    by_cases at_k : j = k
    · rw [at_k]; exact hosts
    · exact (others j hj at_k).2

/-- A channel leaves the module that hosted it, for another or for none. -/
theorem setChannel_modulesWait {c : Fin 16} {v : Channel} {old : ChannelDef} (was : (s.channel c).defn = some old)
    (h : s.modulesWait none) : (s.setChannel c v).modulesWait (some old.outputModule) := by
  refine ⟨h.1, fun j hj => ⟨(h.2 j hj).1, fun other => ?_⟩⟩
  obtain ⟨b, d, defined, hosted⟩ := (hostedBy_ne_nil s j).mp ((h.2 j hj).2 nofun)
  refine (hostedBy_ne_nil _ j).mpr ⟨b, d, ?_, hosted⟩
  rw [State.setChannel_channel_ne _ _ fun same => ?_]
  · exact defined
  · rw [same, was] at defined
    exact other (Option.some.inj defined ▸ hosted ▸ rfl)

theorem applyChannelWrite_modulesWait (c : Fin 16) (d : ChannelDef) (h : s.modulesWait none) :
    (applyChannelWrite c d s).modulesWait none := by
  unfold applyChannelWrite
  split
  · rename_i undefined
    refine joinTrip_modulesWait _ (h.of_sublist (List.Sublist.refl _) (fun _ _ present => present) fun k _ hosts => ?_)
    obtain ⟨b, x, defined, hosted⟩ := (hostedBy_ne_nil s k).mp hosts
    refine (hostedBy_ne_nil _ k).mpr ⟨b, x, ?_, hosted⟩
    rw [State.setChannel_channel_ne _ _ fun same => ?_]
    · exact defined
    · rw [same, undefined] at defined
      cases defined
  · rename_i old was
    dsimp only
    split
    · rename_i same
      refine h.of_sublist (List.Sublist.refl _) (fun _ _ present => present) fun k _ hosts => ?_
      obtain ⟨b, x, defined, hosted⟩ := (hostedBy_ne_nil s k).mp hosts
      rw [hostedBy_ne_nil]
      by_cases at_c : b = c
      · refine ⟨c, d, by rw [State.setChannel_channel_self], ?_⟩
        rw [at_c, was] at defined
        rw [← hosted, ← Option.some.inj defined, same.1]
      · exact ⟨b, x, by rw [State.setChannel_channel_ne _ _ at_c, defined], hosted⟩
    · refine joinTrip_modulesWait _ (settleModule_modulesWait _ ?_)
      refine (modulesWait_outsidePanel (some old.outputModule)).deliveries.becomeConfirmed false c ?_
      exact dropAwaited_modulesWait _ _ (setChannel_modulesWait was h)

/-! ### Definitions that stay -/

/-- No delivery changes a channel's definition. -/
theorem channelDefns_deliveries (defns : Fin 16 → Option ChannelDef) :
    KeptByDeliveries (fun s => ∀ c, (s.channel c).defn = defns c) where
  frame := fun hs _ trip _ _ c => by rw [State.channel, trip]; exact hs c
  offer := fun o s hs => by
    have only := offer_touches o s
    unfold State.onlyEvents at only
    rw [only]
    exact hs
  activate := fun w capture s hs => by
    have only := activate_touches w capture s
    unfold State.onlyAnnunciation at only
    rw [only]
    exact hs
  clearSource := fun w s hs => by
    have only := clearSource_touches w s
    unfold State.onlyAnnunciation at only
    rw [only]
    exact hs
  setChannel := fun same hs c => (setChannel_hosts same c).trans (hs c)
  setOutputModule := fun _ hs => hs
  joinTrip := fun k s hs c => by rw [joinTrip_channel]; exact hs c
  judgeLine := fun k s hs c => by rw [judgeLine_channel]; exact hs c

theorem becomeConfirmed_defn (byMatch : Bool) (c : Fin 16) (s : State) (j : Fin 16) :
    ((becomeConfirmed byMatch c s).channel j).defn = (s.channel j).defn :=
  (channelDefns_deliveries fun j => (s.channel j).defn).becomeConfirmed byMatch c (fun _ => rfl) j

theorem applyChannelClear_modulesWait (c : Fin 16) (h : s.modulesWait none) : (applyChannelClear c s).modulesWait none := by
  unfold applyChannelClear
  split
  · exact h
  · rename_i old was
    refine settleModule_modulesWait _ (setChannel_modulesWait (old := old) ?_ ?_)
    · rw [becomeConfirmed_defn]; exact was
    · exact modulesWait_deliveries.becomeConfirmed false c (dropAwaited_modulesWait _ _ h)

theorem modulesWait_rows : KeptByRows (fun s => s.modulesWait none) :=
  (modulesWait_outsidePanel none).rows (fun k address timeout _ hs => applyOutput_modulesWait k address timeout hs)
    (fun c d _ hs => applyChannelWrite_modulesWait c d hs) (fun c _ hs => applyChannelClear_modulesWait c hs)

end Sys2Proof.Machine

/-! The writes that the operations of the Annunciation Unit are built from (chapters 4 and 5). A property that these keep is kept by
every operation of the unit, and with a few effects of other rows by every step. -/

namespace Sys2Proof.Machine

/-- Horn and FAST count agree (R95). -/
def Horn.agrees (v : Horn) : Prop := v.state = .quiet ↔ v.fastCount = 0

/-- Each write of a panel table, with what the operations observe at it, keeps `P`; nothing else reaches `P` but the mode. -/
structure KeptByPanel (P : State → Prop) : Prop where
  frame : ∀ {s t : State}, P s → t.ann.windows = s.ann.windows → t.ann.groups = s.ann.groups → t.ann.horns = s.ann.horns →
    t.ann.drivers = s.ann.drivers → t.ann.waiting = s.ann.waiting → t.mode = s.mode → P t
  setMode : ∀ (m : Mode) {s : State}, (s.mode = .configuring → m ≠ .configuring → consistencyFailure s = none) → P s →
    P { s with mode := m }
  setWindow : ∀ (w : Fin 192) (v : Window) {s : State}, (v.defn = (s.window w).defn ∨
    (s.mode ≠ .configuring → ∀ d, v.defn = some d → (s.group d.group).defn ≠ none)) → P s → P (s.setWindow w v)
  setWindows : ∀ (f : Fin 192 → Window) {s : State}, (∀ w, (f w).defn = (s.window w).defn) → P s →
    P { s with ann := { s.ann with windows := Table.ofFn {} f } }
  setGroup : ∀ (g : Fin 32) (v : Group) {s : State}, (v.defn = (s.group g).defn ∨ v.defn ≠ none ∨
    (s.mode ≠ .configuring → groupInUse s g = false)) → ((s.group g).sound → v.sound) → P s → P (s.setGroup g v)
  setHorn : ∀ (h : Fin 4) (v : Horn) {s : State}, ((s.horn h).agrees → v.agrees) → P s → P (s.setHorn h v)
  joinDriver : ∀ (d : Fin 6) {s : State}, P s → P (joinDriver d s)

/-! ### The states of a group -/

/-- A group in ARMED with nothing recorded is sound. -/
theorem Group.sound_armed {v : Group} (state : v.state = .armed) (window : v.foWindow = none) (point : v.foPoint = none)
    (settle : v.settle = none) : v.sound := by
  simp [Group.sound, state, window, point, settle]

/-! ### First-out -/

@[simp] theorem setMark_group (w : Fin 192) (m : Bool) (s : State) (g : Fin 32) : (setMark w m s).group g = s.group g := rfl

@[simp] theorem unmark_group (w : Option (Fin 192)) (s : State) (g : Fin 32) : (unmark w s).group g = s.group g := by
  cases w <;> rfl

/-- The mark moves to window `w` (R86, R87). -/
def moveMark (old : Option (Fin 192)) (w : Fin 192) (s : State) : State := setMark w true (unmark old s)

@[simp] theorem moveMark_group (old : Option (Fin 192)) (w : Fin 192) (s : State) (g : Fin 32) :
    (moveMark old w s).group g = s.group g := by
  rw [moveMark, setMark_group, unmark_group]

theorem recordFirstOut_eq (g : Fin 32) (w : Fin 192) (p : Fin 1024) (n : Nat) (s : State) :
    recordFirstOut g w p n s = (moveMark (s.group g).foWindow w s).setGroup g
      { s.group g with foWindow := some w, foPoint := some p, captured := n } := by
  have same := moveMark_group (s.group g).foWindow w s g
  unfold moveMark at same ⊢
  rw [recordFirstOut, same]

/-- What an offer that the group takes leaves: the mark on its window, the group's new entry, and FIRST_OUT of a group without a settle
time (R86 to R88). -/
inductive TakenOffer (g : Fin 32) (w : Fin 192) (p : Fin 1024) (n : Nat) (s : State) : State → Prop where
  | idle : TakenOffer g w p n s s
  | captured (gd : GroupDef) (armed : (s.group g).state = .armed) (defined : (s.group g).defn = some gd) (now : gd.settle = 0) :
      TakenOffer g w p n s (offerFirstOut g ((moveMark (s.group g).foWindow w s).setGroup g
        { s.group g with state := .captured, foWindow := some w, foPoint := some p, captured := n }))
  | provisional (gd : GroupDef) (armed : (s.group g).state = .armed) (defined : (s.group g).defn = some gd) (later : gd.settle ≠ 0) :
      TakenOffer g w p n s ((moveMark (s.group g).foWindow w s).setGroup g
        { s.group g with state := .provisional, foWindow := some w, foPoint := some p, captured := n, settle := some gd.settle })
  | earlier (u : Fin 192) (provisional : (s.group g).state = .provisional) (first : (s.group g).foWindow = some u)
      (wins : n < (s.group g).captured ∨ (n = (s.group g).captured ∧ w < u)) :
      TakenOffer g w p n s ((moveMark (s.group g).foWindow w s).setGroup g
        { s.group g with foWindow := some w, foPoint := some p, captured := n })

theorem takeOffer_taken (g : Fin 32) (w : Fin 192) (p : Fin 1024) (n : Nat) (s : State) :
    TakenOffer g w p n s (takeOffer g w p n s) := by
  unfold takeOffer
  split
  · rename_i armed
    dsimp only
    split
    · rename_i gd defined
      rw [recordFirstOut_eq, State.setGroup_group_self, State.setGroup_setGroup, State.setGroup_setGroup]
      split
      · exact .captured gd armed defined ‹_›
      · exact .provisional gd armed defined ‹_›
    · exact .idle
  · rename_i provisional
    dsimp only
    split
    · rename_i u first
      split
      · rw [recordFirstOut_eq]
        exact .earlier u provisional first ‹_›
      · exact .idle
    · exact .idle
  · exact .idle

namespace KeptByPanel

variable {P : State → Prop} (h : KeptByPanel P) {s t : State}

include h

/-! ### Patterns and horns -/

theorem ofAnn (hs : P s) (ann : t.ann = s.ann) (mode : t.mode = s.mode) : P t :=
  h.frame hs (by rw [ann]) (by rw [ann]) (by rw [ann]) (by rw [ann]) (by rw [ann]) mode

theorem offer (o : Offer) (hs : P s) : P (offer o s) := by
  have only := offer_touches o s
  unfold State.onlyEvents at only
  exact h.ofAnn hs (by rw [only]) (by rw [only])

/-- A write that keeps the definition. -/
theorem keepWindow (w : Fin 192) (v : Window) (same : v.defn = (s.window w).defn) (hs : P s) : P (s.setWindow w v) :=
  h.setWindow w v (.inl same) hs

theorem redisplay (w : Fin 192) (hs : P s) : P (redisplay w s) := by
  unfold Machine.redisplay
  split
  · exact hs
  · exact h.joinDriver _ (h.keepWindow w _ rfl hs)

theorem redisplayBoth (u w : Fin 192) (hs : P s) : P (redisplayBoth u w s) := by
  unfold Machine.redisplayBoth
  split
  · exact h.redisplay w (h.redisplay u hs)
  · exact h.redisplay u (h.redisplay w hs)

theorem redisplayAt (w : Option (Fin 192)) (hs : P s) : P (redisplayAt w s) := by
  cases w with
  | none => exact hs
  | some w => exact h.redisplay w hs

theorem redisplayAll (hs : P s) : P (redisplayAll s) :=
  State.each_keeps (fun d _ => h.joinDriver d) _ _ (h.setWindows (fun w => { s.window w with shown := derivedPattern s w })
    (fun _ => rfl) hs)

theorem phaseOnWait (hs : P s) : P (phaseOnWait s) := h.frame hs rfl rfl rfl rfl rfl rfl

theorem putHorn (x : Fin 4) (v : Horn) (sound : (s.horn x).agrees → v.agrees) (hs : P s) : P (putHorn x v s) := by
  unfold Machine.putHorn
  split
  · exact h.setHorn x v sound hs
  · exact h.phaseOnWait (h.setHorn x v sound hs)

theorem hornEnter (x : Option (Fin 4)) (hs : P s) : P (hornEnter x s) := by
  cases x with
  | none => exact hs
  | some x => exact h.putHorn x _ (fun _ => ⟨nofun, nofun⟩) hs

theorem hornExit (x : Option (Fin 4)) (hs : P s) : P (hornExit x s) := by
  cases x with
  | none => exact hs
  | some x =>
    refine h.putHorn x _ (fun sound => ?_) hs
    unfold Horn.agrees at *
    dsimp only
    split
    · simpa using ‹_›
    · rename_i more
      exact ⟨fun quiet => absurd (sound.mp quiet) (by omega), fun zero => absurd zero more⟩

theorem silenceHorn (x : Fin 4) (hs : P s) : P (silenceHorn x s) := by
  unfold Machine.silenceHorn
  split
  · rename_i sounding
    refine h.offer _ (h.putHorn x _ (fun sound => ?_) hs)
    unfold Horn.agrees at *
    rw [sounding] at sound
    exact ⟨nofun, fun zero => absurd (sound.mpr zero) nofun⟩
  · exact hs

/-! ### First-out -/

theorem setMark (w : Fin 192) (m : Bool) (hs : P s) : P (setMark w m s) := h.keepWindow w _ rfl hs

theorem unmark (w : Option (Fin 192)) (hs : P s) : P (unmark w s) := by
  cases w with
  | none => exact hs
  | some w => exact h.setMark w false hs

theorem rearm (g : Fin 32) (hs : P s) : P (rearm g s) :=
  h.setGroup g _ (.inl rfl) (fun _ => Group.sound_armed rfl rfl rfl rfl) (h.unmark _ hs)

theorem rearmAll (hs : P s) : P (rearmAll s) := State.each_keeps (fun g _ => h.rearm g) _ _ hs

theorem moveMark (old : Option (Fin 192)) (w : Fin 192) (hs : P s) : P (moveMark old w s) := h.setMark w true (h.unmark old hs)

theorem takeOffer (g : Fin 32) (w : Fin 192) (p : Fin 1024) (n : Nat) (hs : P s) : P (takeOffer g w p n s) := by
  have marked : P (Machine.moveMark (s.group g).foWindow w s) := h.moveMark _ w hs
  have taken := takeOffer_taken g w p n s
  generalize Machine.takeOffer g w p n s = t at taken ⊢
  cases taken with
  | idle => exact hs
  | captured gd armed defined now =>
    refine h.offer _ (h.setGroup g _ (.inl (by rw [moveMark_group])) (fun sound => ?_) marked)
    rw [moveMark_group] at sound
    exact ⟨nofun, nofun, fun _ => ⟨nofun, nofun, (sound.1 armed).2.2⟩⟩
  | provisional gd armed defined later =>
    refine h.setGroup g _ (.inl (by rw [moveMark_group])) (fun _ => ?_) marked
    exact ⟨nofun, fun _ => ⟨nofun, nofun, nofun⟩, nofun⟩
  | earlier u provisional first wins =>
    refine h.setGroup g _ (.inl (by rw [moveMark_group])) (fun sound => ?_) marked
    rw [moveMark_group] at sound
    refine ⟨?_, fun _ => ⟨nofun, nofun, (sound.2.1 provisional).2.2⟩, ?_⟩
    · rw [provisional]; nofun
    · rw [provisional]; nofun

theorem offerActivation (w : Fin 192) (p : Fin 1024) (n : Nat) (hs : P s) : P (offerActivation w p n s) := by
  unfold Machine.offerActivation
  split
  · split
    · split
      · exact h.takeOffer _ w p n hs
      · exact hs
    · exact hs
  · exact hs

theorem reachedDark (w : Fin 192) (hs : P s) : P (reachedDark w s) := by
  unfold Machine.reachedDark
  split
  · split
    · exact h.rearm _ hs
    · exact hs
  · exact hs

theorem settleExpiry (g : Fin 32) (hs : P s) : P (settleExpiry g s) := by
  unfold Machine.settleExpiry
  split
  · rename_i due
    refine h.offer _ (h.setGroup g _ (.inl rfl) (fun sound => ?_) hs)
    obtain ⟨window, point, -⟩ := sound.2.1 due.2
    exact ⟨nofun, nofun, fun _ => ⟨window, point, rfl⟩⟩
  · exact hs

/-! ### The window sequence -/

theorem enterFast (w : Fin 192) (hs : P s) : P (enterFast w s) := by
  unfold Machine.enterFast
  split
  · exact hs
  · exact h.hornEnter _ (h.keepWindow w _ rfl hs)

theorem leaveFast (w : Fin 192) (next : WindowState) (hs : P s) : P (leaveFast w next s) := by
  have left := h.hornExit (hornOfWindow s w) (h.keepWindow w { s.window w with state := next } rfl hs)
  unfold Machine.leaveFast
  dsimp only
  split
  · exact h.reachedDark w left
  · exact left

theorem goDark (w : Fin 192) (hs : P s) : P (goDark w s) := h.reachedDark w (h.keepWindow w _ rfl hs)

theorem countActivation (w : Fin 192) (hs : P s) : P (countActivation w s) := h.keepWindow w _ rfl hs

theorem countClear (w : Fin 192) (hs : P s) : P (countClear w s) := h.keepWindow w _ rfl hs

theorem activate (w : Fin 192) (capture : Option (Fin 1024 × Nat)) (hs : P s) : P (activate w capture s) := by
  have counted := h.countActivation w hs
  unfold Machine.activate
  dsimp only
  split
  · refine h.redisplayBoth _ w ?_
    cases capture with
    | none => exact h.enterFast w counted
    | some c => exact h.offerActivation w _ _ (h.enterFast w counted)
  · exact h.redisplay w counted

theorem clearSource (w : Fin 192) (hs : P s) : P (clearSource w s) := by
  have counted := h.countClear w hs
  unfold Machine.clearSource
  dsimp only
  split
  · split
    · split
      · exact h.redisplay w (h.keepWindow w _ rfl counted)
      · exact h.redisplay w (h.goDark w counted)
    · exact h.redisplay w counted
  · exact h.redisplay w counted

theorem ackWindow (w : Fin 192) (hs : P s) : P (ackWindow w s) := by
  unfold Machine.ackWindow
  split
  · split
    · exact h.redisplay w (h.leaveFast w _ hs)
    · exact hs
  · exact hs

theorem resetWindow (w : Fin 192) (hs : P s) : P (resetWindow w s) := by
  unfold Machine.resetWindow
  split
  · exact h.redisplay w (h.goDark w hs)
  · exact hs

theorem ackGroup (g : Fin 32) (origin : Nat) (hs : P s) : P (ackGroup g origin s) := by
  unfold Machine.ackGroup
  split
  · exact hs
  · exact h.offer _ (State.each_keeps (fun w _ => h.ackWindow w) _ _ hs)

theorem resetGroup (g : Fin 32) (hs : P s) : P (resetGroup g s) := by
  unfold Machine.resetGroup
  split
  · exact hs
  · exact h.offer _ (State.each_keeps (fun w _ => h.resetWindow w) _ _ hs)

/-! ### Whole-unit changes -/

theorem lampOn (hs : P s) : P (lampOn s) := by
  have lit : P { s with ann := { s.ann with lampTest := true, lampTimer := some 60000 } } := h.frame hs rfl rfl rfl rfl rfl rfl
  unfold Machine.lampOn
  split
  · exact hs
  · exact h.phaseOnWait (h.redisplayAll lit)

theorem lampOff (hs : P s) : P (lampOff s) := by
  have ended : P { s with ann := { s.ann with lampTest := false, lampTimer := none } } := h.frame hs rfl rfl rfl rfl rfl rfl
  unfold Machine.lampOff
  split
  · exact h.phaseOnWait (h.redisplayAll ended)
  · exact hs

theorem lampEnds (hs : P s) : P (lampEnds s) := by
  unfold Machine.lampEnds
  split
  · exact h.frame hs rfl rfl rfl rfl rfl rfl
  · exact hs

theorem quietHorns (hs : P s) : P (quietHorns s) :=
  State.each_keeps (fun x _ => h.putHorn x _ (fun _ => ⟨fun _ => rfl, fun _ => rfl⟩)) _ _ hs

theorem setWindowStates (f : Window → WindowState) (hs : P s) : P (setWindowStates f s) :=
  h.setWindows (fun w => { s.window w with state := f (s.window w), mark := false }) (fun _ => rfl) hs

theorem annEnterConfiguring (hs : P s) : P (annEnterConfiguring s) :=
  h.redisplayAll (h.lampEnds (h.quietHorns (h.rearmAll (h.setWindowStates _ hs))))

theorem annEnterRun (hs : P s) : P (annEnterRun s) := by
  refine h.redisplayAll (State.each_keeps (fun w u hu => ?_) _ _ hs)
  split
  · exact h.enterFast w hu
  · exact hu

theorem annRestart (hs : P s) : P (annRestart s) :=
  h.phaseOnWait (h.redisplayAll (h.lampEnds (h.quietHorns (h.rearmAll (h.setWindowStates _ hs)))))

theorem windowRefreshExpiry (hs : P s) : P (windowRefreshExpiry s) := by
  have restarted : P { s with ann := { s.ann with refresh := some 250 } } := h.frame hs rfl rfl rfl rfl rfl rfl
  unfold Machine.windowRefreshExpiry
  split
  · exact State.each_keeps (fun d _ => h.joinDriver d) _ _ restarted
  · exact hs

/-! ### Table writes -/

theorem rewriteWindow (w : Fin 192) (old d : WindowDef) (known : s.mode ≠ .configuring → (s.group d.group).defn ≠ none) (hs : P s) :
    P (rewriteWindow w old d s) := by
  have rearmed : P (if (s.window w).mark ∧ (old.group ≠ d.group ∨ d.eligible = false) then Machine.rearm old.group s else s) ∧
      ∀ u, u = (if (s.window w).mark ∧ (old.group ≠ d.group ∨ d.eligible = false) then Machine.rearm old.group s else s) →
        (u.mode ≠ .configuring → (u.group d.group).defn ≠ none) := by
    split
    · refine ⟨h.rearm _ hs, fun u hu => ?_⟩
      rw [hu, rearm_group, (rearm_panel _ s).mode]
      intro service
      split
      · rename_i same; rw [← same]; exact known service
      · exact known service
    · exact ⟨hs, fun u hu => hu ▸ known⟩
  have dark (u : State) (hu : P u) : P (if (u.window w).state = .slow ∧ d.sequence = .autoReset then Machine.goDark w u else u) := by
    split
    · exact h.goDark w hu
    · exact hu
  have moved (u : State) (hu : P u) : P (if (u.window w).state = .fast ∧ old.group ≠ d.group
      then Machine.hornEnter (hornOfGroup u d.group) (Machine.hornExit (hornOfGroup u old.group) u) else u) := by
    split
    · exact h.hornEnter _ (h.hornExit _ hu)
    · exact hu
  refine h.redisplayBoth _ w (moved _ (dark _ (h.setWindow w _ (.inr fun service x hx => ?_) rearmed.1)))
  rw [← Option.some.inj hx]
  exact rearmed.2 _ rfl service

theorem applyWindowWrite (w : Fin 192) (d : WindowDef) (known : s.mode ≠ .configuring → (s.group d.group).defn ≠ none) (hs : P s) :
    P (applyWindowWrite w d s) := by
  have written (v : Window) (hv : v.defn = some d) : P (s.setWindow w v) :=
    h.setWindow w v (.inr fun service x hx => by rw [← Option.some.inj (hv.symm.trans hx)]; exact known service) hs
  unfold Machine.applyWindowWrite
  dsimp only
  split
  · exact written _ rfl
  · split
    · exact h.redisplay w (written _ rfl)
    · exact h.rewriteWindow w _ d known hs

theorem applyWindowClear (w : Fin 192) (hs : P s) : P (applyWindowClear w s) := by
  have cleared (u : State) (v : Window) (hv : v.defn = none) (hu : P u) : P (u.setWindow w v) :=
    h.setWindow w v (.inr fun _ x hx => by rw [hv] at hx; cases hx) hu
  unfold Machine.applyWindowClear
  dsimp only
  split
  · exact hs
  · split
    · exact cleared s _ rfl hs
    · rename_i old _ _
      have rearmed : P (if (s.window w).mark then Machine.rearm old.group s else s) := by
        split
        · exact h.rearm _ hs
        · exact hs
      have exited (u : State) (hu : P u) : P (if (s.window w).state = .fast then Machine.hornExit (hornOfGroup u old.group) u else u) := by
        split
        · exact h.hornExit _ hu
        · exact hu
      exact h.redisplayBoth _ w (cleared _ _ rfl (exited _ rearmed))

theorem moveHorn (old new : Option (Fin 4)) (w : Fin 192) (hs : P s) : P (moveHorn old new w s) := by
  unfold Machine.moveHorn
  split
  · exact h.hornEnter _ (h.hornExit _ hs)
  · exact hs

theorem rewriteGroup (g : Fin 32) (old d : GroupDef) (hs : P s) : P (rewriteGroup g old d s) := by
  have written : P (s.setGroup g { s.group g with defn := some d }) := h.setGroup g _ (.inr (.inl nofun)) (fun sound => sound) hs
  have rearmed (u : State) (marked : Option (Fin 192)) (hu : P u) : P
      (if d.firstOut = false ∧ (u.group g).state ≠ .armed then Machine.redisplayAt marked (Machine.rearm g u) else u) := by
    split
    · exact h.redisplayAt _ (h.rearm g hu)
    · exact hu
  unfold Machine.rewriteGroup
  dsimp only
  split
  · exact rearmed _ _ written
  · exact State.each_keeps (fun w _ => h.moveHorn _ _ w) _ _ (rearmed _ _ written)

theorem applyGroupWrite (g : Fin 32) (d : GroupDef) (hs : P s) : P (applyGroupWrite g d s) := by
  unfold Machine.applyGroupWrite
  split
  · exact h.setGroup g _ (.inr (.inl nofun)) (fun _ => Group.sound_armed rfl rfl rfl rfl) hs
  · split
    · exact h.setGroup g _ (.inr (.inl nofun)) (fun sound => sound) hs
    · exact h.rewriteGroup g _ d hs

theorem groupClear (g : Fin 32) (unused : s.mode ≠ .configuring → groupInUse s g = false) (hs : P s) : P (s.setGroup g {}) :=
  h.setGroup g {} (.inr (.inr unused)) (fun _ => Group.sound_armed rfl rfl rfl rfl) hs

/-! ### Every step -/

theorem ofTrip (hs : P s) (ann : t.ann = s.ann) (_ : t.events = s.events) (mode : t.mode = s.mode) : P t := h.ofAnn hs ann mode

theorem deliveries : KeptByDeliveries P where
  frame := fun hs ann _ _ mode => h.ofAnn hs ann mode
  offer := fun o _ hs => h.offer o hs
  activate := fun w capture _ hs => h.activate w capture hs
  clearSource := fun w _ hs => h.clearSource w hs
  setChannel := fun _ hs => h.ofAnn hs rfl rfl
  setOutputModule := fun _ hs => h.ofAnn hs rfl rfl
  joinTrip := fun k s hs => by
    have only := joinTrip_touches k s
    exact h.ofAnn hs (joinTrip_ann k s) (by unfold State.onlyChannels at only; rw [only])
  judgeLine := fun k s hs => by
    unfold Machine.judgeLine
    split
    · exact h.ofAnn hs rfl rfl
    · exact h.ofAnn hs rfl rfl

theorem modes : KeptByModes P where
  toKeptByDeliveries := h.deliveries
  setMode := h.setMode
  queueOverflow := fun {s} hs => by
    have only := queueOverflow_touches s
    unfold State.onlyEvents at only
    exact h.ofAnn hs (by rw [only]) (by rw [only])
  countActivation := fun w _ hs => h.countActivation w hs
  countClear := fun w _ hs => h.countClear w hs
  annEnterRun := fun hs => h.annEnterRun hs
  annEnterConfiguring := fun hs => h.annEnterConfiguring hs
  annRestart := fun hs => h.annRestart hs

end KeptByPanel

/-- No operation of the panel changes a driver's address. -/
theorem drivers_panel (drivers : Table 6 (Option Nat)) : KeptByPanel (fun s => s.ann.drivers = drivers) where
  frame := fun hs _ _ _ same _ _ => same.trans hs
  setMode := fun _ _ _ hs => hs
  setWindow := fun _ _ _ _ hs => hs
  setWindows := fun _ _ _ hs => hs
  setGroup := fun _ _ _ _ _ hs => hs
  setHorn := fun _ _ _ _ hs => hs
  joinDriver := fun d s hs => by
    unfold joinDriver
    split
    · exact hs
    · exact hs

/-- Besides the writes of the panel's tables, the effects of the rows on timers, drivers and their waiting list keep `P`. -/
structure KeptByPanelRows (P : State → Prop) : Prop extends KeptByPanel P where
  coldReset : ∀ (ads : BitVec 8) (rsa rsb : BitVec 2), P (State.coldReset ads rsa rsb)
  tick : ∀ {s : State}, P s → P { s with ann := s.ann.tick }
  takeDriverHead : ∀ {d : Fin 6} {rest : List (Fin 6)} {s : State}, P s → s.ann.waiting = d :: rest →
    P { s with ann := { s.ann with waiting := rest } }
  driver : ∀ (d : Fin 6) (a : Option Nat) {s : State}, P s → P (applyDriver d a s)
  join : ∀ {s t : State}, P s → P t → t.ann.drivers = s.ann.drivers → P (joinAscending s.ann.waiting t)

namespace KeptByPanelRows

variable {P : State → Prop} (h : KeptByPanelRows P)

include h

theorem rows : KeptByRows P where
  toKeptByDeliveries := h.deliveries
  coldReset := h.coldReset
  resetnHeldLow := fun hs => h.ofAnn hs rfl rfl
  localTick := fun hs => h.ofAnn (h.tick hs) rfl rfl
  takeTripHead := fun hs _ => h.ofAnn hs rfl rfl
  takeDriverHead := h.takeDriverHead
  setPhaseWaiting := fun _ _ hs => h.frame hs rfl rfl rfl rfl rfl rfl
  removeEvents := fun {s} hs => by
    have only := removeEvents_touches s
    unfold State.onlyEvents at only
    exact h.ofAnn hs (by rw [only]) (by rw [only])
  batchExpiry := fun {s} hs => by
    have only := batchExpiry_touches s
    unfold State.onlyEvents at only
    exact h.ofAnn hs (by rw [only]) (by rw [only])
  settleExpiry := fun g _ hs => h.settleExpiry g hs
  windowRefreshExpiry := fun hs => h.windowRefreshExpiry hs
  restartPhase := fun hs => h.frame hs rfl rfl rfl rfl rfl rfl
  tripRefresh := fun hs => h.ofAnn hs rfl rfl
  windowWrite := fun w d _ known hs => h.applyWindowWrite w d known hs
  windowClear := fun w _ hs => h.applyWindowClear w hs
  driver := h.driver
  groupWrite := fun g d _ hs => h.applyGroupWrite g d hs
  groupClear := fun g _ unused hs => h.groupClear g unused hs
  hornSound := fun x _ _ hs => h.setHorn x _ (fun agrees => agrees) hs
  setPattern := fun _ _ _ hs => h.frame hs rfl rfl rfl rfl rfl rfl
  output := fun k address timeout _ hs => h.deliveries.applyOutput_offTrip h.ofTrip k address timeout hs
  channelWrite := fun c d _ hs => h.deliveries.applyChannelWrite_offTrip h.ofTrip c d hs
  channelClear := fun c _ hs => h.deliveries.applyChannelClear_offTrip h.ofTrip c hs
  enterRun := fun _ consistent hs =>
    h.join hs (h.modes.runEntered consistent hs) ((drivers_panel _).modes.runEntered consistent rfl)
  enterTest := h.modes.enterTest
  leaveTest := fun test hs => h.join hs (h.modes.testLeft test hs) ((drivers_panel _).modes.testLeft test rfl)
  enterConfiguring := fun _ hs => h.join hs (h.modes.configuringEntered hs) ((drivers_panel _).modes.configuringEntered rfl)
  restart := fun _ hs => h.modes.restartAnnunciation hs
  ack := fun g origin _ hs => h.ackGroup g origin hs
  reset := fun g _ hs => h.resetGroup g hs
  silence := fun x _ hs => h.silenceHorn x hs
  lampOn := fun hs => h.lampOn hs
  lampOff := fun hs => h.lampOff hs

end KeptByPanelRows

/-! ### The drivers that wait -/

/-- What `waitingSound` says of the drivers' waiting list. -/
def State.driversWait (s : State) : Prop := s.ann.waiting.Nodup ∧ ∀ d ∈ s.ann.waiting, (s.driver d).isSome = true

variable {s t : State}

theorem waitingSound_iff : s.waitingSound ↔ s.driversWait ∧ s.modulesWait none := by
  simp [State.waitingSound, State.driversWait, State.modulesWait, and_assoc]

theorem State.driversWait.of_waiting (h : s.driversWait) (drivers : t.ann.drivers = s.ann.drivers)
    (once : t.ann.waiting.Nodup) (held : ∀ d ∈ t.ann.waiting, d ∈ s.ann.waiting) : t.driversWait :=
  ⟨once, fun d hd => by rw [State.driver, drivers]; exact h.2 d (held d hd)⟩

theorem joinDriver_driversWait (d : Fin 6) (h : s.driversWait) : (joinDriver d s).driversWait := by
  unfold joinDriver
  split
  · rename_i joins
    obtain ⟨present, absent⟩ := joins
    refine ⟨List.nodup_append.mpr ⟨h.1, List.nodup_singleton d, fun a ha b hb same => ?_⟩, fun j hj => ?_⟩
    · exact absent (List.mem_singleton.mp hb ▸ same ▸ ha)
    · rcases List.mem_append.mp hj with old | new
      · exact h.2 j old
      · rw [List.mem_singleton.mp new]; exact present
  · exact h

theorem driversWait_panel : KeptByPanel State.driversWait where
  frame := fun hs _ _ _ drivers waiting _ => hs.of_waiting drivers (by rw [waiting]; exact hs.1) (by rw [waiting]; exact fun _ hd => hd)
  setMode := fun _ _ _ hs => hs
  setWindow := fun _ _ _ _ hs => hs
  setWindows := fun _ _ _ hs => hs
  setGroup := fun _ _ _ _ _ hs => hs
  setHorn := fun _ _ _ _ hs => hs
  joinDriver := fun d _ hs => joinDriver_driversWait d hs

theorem applyDriver_driversWait (d : Fin 6) (a : Option Nat) (h : s.driversWait) : (applyDriver d a s).driversWait := by
  unfold applyDriver
  split
  · refine joinDriver_driversWait d ⟨h.1, fun j hj => ?_⟩
    rw [State.setDriver_driver]
    split
    · rfl
    · exact h.2 j hj
  · refine ⟨h.1.filter _, fun j hj => ?_⟩
    obtain ⟨held, other⟩ := List.mem_filter.mp hj
    have kept : ((s.setDriver d none).driver j).isSome = true := by
      rw [State.setDriver_driver_ne _ _ (of_decide_eq_true other)]
      exact h.2 j held
    exact kept

theorem joinAscending_driversWait (hs : s.driversWait) (ht : t.driversWait) (drivers : t.ann.drivers = s.ann.drivers) :
    (joinAscending s.ann.waiting t).driversWait := by
  refine ⟨List.nodup_append.mpr ⟨hs.1, (List.nodup_finRange 6).filter _, fun a ha b hb same => ?_⟩, fun d hd => ?_⟩
  · exact (of_decide_eq_true (List.mem_filter.mp hb).2).2 (same ▸ ha)
  · rcases List.mem_append.mp hd with old | joined
    · have present := hs.2 d old
      rw [State.driver, ← drivers] at present
      exact present
    · exact ht.2 d (of_decide_eq_true (List.mem_filter.mp joined).2).1

theorem driversWait_rows : KeptByPanelRows State.driversWait where
  toKeptByPanel := driversWait_panel
  coldReset := fun _ _ _ => ⟨List.nodup_nil, nofun⟩
  tick := fun hs => hs
  takeDriverHead := fun hs head => hs.of_waiting rfl (by have once := hs.1; rw [head] at once; exact once.of_cons)
    (by rw [head]; exact fun _ hd => List.mem_cons_of_mem _ hd)
  driver := fun d a _ hs => applyDriver_driversWait d a hs
  join := joinAscending_driversWait

theorem step_keeps_waitingSound (h : s.waitingSound) (hstep : step s = .next t) : t.waitingSound := by
  obtain ⟨drivers, modules⟩ := waitingSound_iff.mp h
  exact waitingSound_iff.mpr ⟨driversWait_rows.rows.step drivers hstep, modulesWait_rows.step modules hstep⟩

/-! ### The obligation -/

/-- Settles O10: three invariants, each kept by every effect of a row. -/
theorem everyStepKeepsTheQueuesSound : Obligations.EveryStepKeepsTheQueuesSound :=
  ⟨fun _ _ => step_keeps_flowSettled, fun _ _ => step_keeps_queueSound, fun _ _ => step_keeps_waitingSound⟩

end Sys2Proof.Machine

/-! What each operation of the Point Unit makes of its point, said once; no other point and not the mode changes (chapter 1). -/

namespace Sys2Proof.Machine

variable {s t u : State} {p : Fin 1024}

/-! ### One point changes -/

/-- Point `p` becomes `v`; the other points and the mode stay. -/
def State.turns (s : State) (p : Fin 1024) (v : Point) (t : State) : Prop :=
  t.mode = s.mode ∧ ∀ j, t.point j = if j = p then v else s.point j

/-- The points and the mode stay. -/
def State.keepsPoints (s t : State) : Prop := t.mode = s.mode ∧ t.points = s.points

theorem State.keepsPoints.refl (s : State) : s.keepsPoints s := ⟨rfl, rfl⟩

theorem State.keepsPoints.trans (h : s.keepsPoints t) (k : t.keepsPoints u) : s.keepsPoints u :=
  ⟨k.1.trans h.1, k.2.trans h.2⟩

theorem State.onlyElements.keeps (h : s.onlyElements t) : s.keepsPoints t := by
  unfold State.onlyElements at h
  rw [h]
  exact ⟨rfl, rfl⟩

theorem State.onlyChannels.keepsPoints (h : s.onlyChannels t) : s.keepsPoints t := h.elements.keeps
theorem State.onlyAnnunciation.keepsPoints (h : s.onlyAnnunciation t) : s.keepsPoints t := h.channels.keepsPoints
theorem State.onlyEvents.keepsPoints (h : s.onlyEvents t) : s.keepsPoints t := h.ann.keepsPoints

theorem State.keepsPoints.point (h : s.keepsPoints t) (j : Fin 1024) : t.point j = s.point j := by
  rw [State.point, h.2, State.point]

theorem State.turns.point (h : s.turns p v t) : t.point p = v := by rw [h.2, if_pos rfl]

theorem State.turns.other {v : Point} (h : s.turns p v t) {j : Fin 1024} (other : j ≠ p) : t.point j = s.point j := by
  rw [h.2, if_neg other]

theorem State.turns.of_keeps (h : s.keepsPoints t) : s.turns p (s.point p) t := by
  refine ⟨h.1, fun j => ?_⟩
  rw [h.point]
  split
  · rename_i at_p; rw [at_p]
  · rfl

theorem State.turns.refl (s : State) (p : Fin 1024) : s.turns p (s.point p) s := .of_keeps (.refl s)

theorem State.turns.trans {v w : Point} (h : s.turns p v t) (k : t.turns p w u) : s.turns p w u := by
  refine ⟨k.1.trans h.1, fun j => ?_⟩
  rw [k.2, h.2]
  split
  · rfl
  · rfl

theorem State.turns.then_keeps {v : Point} (h : s.turns p v t) (k : t.keepsPoints u) : s.turns p v u :=
  ⟨k.1.trans h.1, fun j => (k.point j).trans (h.2 j)⟩

theorem State.keepsPoints.then_turns {v : Point} (h : s.keepsPoints t) (k : t.turns p v u) : s.turns p v u :=
  ⟨k.1.trans h.1, fun j => by rw [k.2, h.point]⟩

theorem setPoint_turns (p : Fin 1024) (v : Point) (s : State) : s.turns p v (s.setPoint p v) :=
  ⟨rfl, fun j => State.setPoint_point s p j v⟩

/-! ### The announced condition (R8) -/

/-- A point after its announced condition is derived again. -/
def Point.reannounced (mode : Mode) (v : Point) : Point :=
  match v.defn with
  | some d => if mode = .configuring then v else { v with announced := d.announce v v.announced }
  | none => v

theorem Point.reannounced_of_undefined {v : Point} (h : v.defn = none) (mode : Mode) : v.reannounced mode = v := by
  unfold Point.reannounced
  rw [h]

theorem Point.reannounced_of_defined {v : Point} {d : PointDef} (h : v.defn = some d) (mode : Mode) :
    v.reannounced mode = if mode = .configuring then v else { v with announced := d.announce v v.announced } := by
  cases v
  cases h
  rfl

theorem deliverSource_keeps (how : Announcing) (p : Fin 1024) (w : Option (Fin 192)) (a : Condition) (s : State) :
    s.keepsPoints (deliverSource how p w a s) := (deliverSource_touches how p w a s).keepsPoints

theorem reannounce_turns (how : Announcing) (p : Fin 1024) (s : State) :
    s.turns p ((s.point p).reannounced s.mode) (reannounce how p s) := by
  unfold reannounce
  split
  · rename_i d hd
    rw [Point.reannounced_of_defined hd]
    dsimp only
    by_cases configuring : s.mode = .configuring
    · rw [if_pos (Or.inl configuring), if_pos configuring]
      exact .refl s p
    · rw [if_neg configuring]
      split
      · rename_i same
        rw [same.resolve_left configuring]
        exact .refl s p
      · exact (setPoint_turns p _ s).then_keeps (deliverSource_keeps how p d.window _ _)
  · rename_i hd
    rw [Point.reannounced_of_undefined hd]
    exact .refl s p

/-! ### Records and chatter -/

theorem offerPointRecord_keeps (p : Fin 1024) (d : PointDef) (c : Condition) (st : Stamp) (suppressed : Bool) (s : State) :
    s.keepsPoints (offerPointRecord p d c st suppressed s) := (offerPointRecord_touches p d c st suppressed s).keepsPoints

theorem offer_keepsPoints (o : Offer) (s : State) : s.keepsPoints (offer o s) := (offer_touches o s).keepsPoints

theorem tripDeliver_keeps (p : Fin 1024) (s : State) : s.keepsPoints (tripDeliver p s) := (tripDeliver_touches p s).keeps

/-- A point after a condition change has been counted for chatter (R11, R12). -/
def Point.chattered (mode : Mode) (d : PointDef) (v : Point) : Point :=
  if mode = .configuring ∨ d.countable = false then v
  else
    let n := min (v.chatter + 1) 15
    { v with chatter := n, suppressed := v.suppressed || decide (d.chatterLimit ≤ n) }

theorem countChatter_turns (p : Fin 1024) (d : PointDef) (st : Stamp) (s : State) :
    s.turns p ((s.point p).chattered s.mode d) (countChatter p d st s) := by
  unfold countChatter Point.chattered
  split
  · exact .refl s p
  · dsimp only
    split
    · rename_i reached
      rw [decide_eq_true reached.2, Bool.or_true]
      exact (setPoint_turns p _ s).then_keeps (offer_keepsPoints _ _)
    · rename_i short
      have held : ((s.point p).suppressed || decide (d.chatterLimit ≤ min ((s.point p).chatter + 1) 15)) = (s.point p).suppressed := by
        cases hs : (s.point p).suppressed with
        | true => rfl
        | false => simpa [hs] using short
      rw [held]
      exact setPoint_turns p _ s

/-! ### Transitions and quality -/

/-- A point after a condition change from a transition (R5 steps 3 to 6). -/
def Point.changed (mode : Mode) (d : PointDef) (c : Condition) (counted : Bool) (v : Point) : Point :=
  let w := { v with condition := c }
  (if counted then w.chattered mode d else w).reannounced mode

theorem conditionChange_turns (p : Fin 1024) (d : PointDef) (c : Condition) (st : Stamp) (suppressed counted : Bool) (s : State) :
    s.turns p ((s.point p).changed s.mode d c counted) (conditionChange p d c st suppressed counted s) := by
  have recorded : s.turns p { s.point p with condition := c }
      (offerPointRecord p d c st suppressed (tripDeliver p (s.setPoint p { s.point p with condition := c }))) :=
    ((setPoint_turns p _ s).then_keeps (tripDeliver_keeps _ _)).then_keeps (offerPointRecord_keeps _ _ _ _ _ _)
  unfold conditionChange Point.changed
  dsimp only
  cases counted with
  | false =>
    have announced := recorded.trans (reannounce_turns .capturing p _)
    rw [recorded.point, recorded.1] at announced
    exact announced
  | true =>
    have chattered := recorded.trans (countChatter_turns p d st _)
    rw [recorded.point, recorded.1] at chattered
    have announced := chattered.trans (reannounce_turns .capturing p _)
    rw [chattered.point, chattered.1] at announced
    exact announced

/-- A point after a transition (R4, R5). -/
def Point.transitioned (mode : Mode) (tr : Transition) (v : Point) : Point :=
  match v.defn with
  | none => v
  | some d =>
    if tr.contact = v.contact then v
    else
      let w := { v with contact := tr.contact, lastEvent := tr.stamp.time }
      match d.kind with
      | .maintained => if d.derive tr.contact = v.condition then w else w.changed mode d (d.derive tr.contact) true
      | .momentary =>
        if tr.contact = d.polarity.alarmContact then (w.changed mode d .alarm true).changed mode d .normal false else w

theorem Point.transitioned_of_undefined {v : Point} (h : v.defn = none) (mode : Mode) (tr : Transition) :
    v.transitioned mode tr = v := by
  unfold Point.transitioned
  rw [h]

theorem Point.transitioned_of_defined {v : Point} {d : PointDef} (h : v.defn = some d) (mode : Mode) (tr : Transition) :
    v.transitioned mode tr =
      if tr.contact = v.contact then v
      else
        let w := { v with contact := tr.contact, lastEvent := tr.stamp.time }
        match d.kind with
        | .maintained => if d.derive tr.contact = v.condition then w else w.changed mode d (d.derive tr.contact) true
        | .momentary =>
          if tr.contact = d.polarity.alarmContact then (w.changed mode d .alarm true).changed mode d .normal false else w := by
  cases v
  cases h
  rfl

theorem applyTransition_turns (p : Fin 1024) (tr : Transition) (s : State) :
    s.turns p ((s.point p).transitioned s.mode tr) (applyTransition p tr s) := by
  have moved : s.turns p { s.point p with contact := tr.contact, lastEvent := tr.stamp.time }
      (s.setPoint p { s.point p with contact := tr.contact, lastEvent := tr.stamp.time }) := setPoint_turns p _ s
  -- a condition change after the contact has moved
  have changed {v : Point} {t : State} (before : s.turns p v t) (d : PointDef) (c : Condition) (st : Stamp) (supp counted : Bool) :
      s.turns p (v.changed s.mode d c counted) (conditionChange p d c st supp counted t) := by
    have change := before.trans (conditionChange_turns p d c st supp counted t)
    rwa [before.point, before.1] at change
  unfold applyTransition
  split
  · rename_i hd
    rw [Point.transitioned_of_undefined hd]
    exact .refl s p
  · rename_i d hd
    rw [Point.transitioned_of_defined hd]
    split
    · exact .refl s p
    · dsimp only
      cases d.kind with
      | maintained =>
        dsimp only
        split
        · exact moved
        · exact changed moved d _ _ _ _
      | momentary =>
        dsimp only
        split
        · exact changed (changed moved d _ _ _ _) d _ _ _ _
        · exact moved

/-- A point after the delivery of a quality (R6, R7). -/
def Point.qualified (mode : Mode) (q : Quality) (v : Point) : Point :=
  match v.defn with
  | none => v
  | some _ => if q = v.quality then v else { v with quality := q }.reannounced mode

theorem Point.qualified_of_undefined {v : Point} (h : v.defn = none) (mode : Mode) (q : Quality) : v.qualified mode q = v := by
  unfold Point.qualified
  rw [h]

theorem Point.qualified_of_defined {v : Point} {d : PointDef} (h : v.defn = some d) (mode : Mode) (q : Quality) :
    v.qualified mode q = if q = v.quality then v else { v with quality := q }.reannounced mode := by
  cases v
  cases h
  rfl

theorem deliverQuality_turns (p : Fin 1024) (q : Quality) (st : Stamp) (record : Bool) (s : State) :
    s.turns p ((s.point p).qualified s.mode q) (deliverQuality p q st record s) := by
  unfold deliverQuality
  split
  · rename_i hd
    rw [Point.qualified_of_undefined hd]
    exact .refl s p
  · rename_i d hd
    rw [Point.qualified_of_defined hd]
    split
    · exact .refl s p
    · have delivered : s.turns p { s.point p with quality := q } (tripDeliver p (s.setPoint p { s.point p with quality := q })) :=
        (setPoint_turns p _ s).then_keeps (tripDeliver_keeps _ _)
      have announced := delivered.trans (reannounce_turns .standing p _)
      rw [delivered.point, delivered.1] at announced
      dsimp only
      split
      · exact announced.then_keeps (offer_keepsPoints _ _)
      · exact announced

/-! ### Decay, modes and restart -/

/-- A point after a decay expiry (R13, R14). -/
def Point.decayed (mode : Mode) (v : Point) : Point :=
  if v.chatter = 0 then v
  else if v.suppressed = true ∧ v.chatter = 1 then { v with chatter := 0, suppressed := false }.reannounced mode
  else { v with chatter := v.chatter - 1 }

theorem decayPoint_turns (p : Fin 1024) (s : State) : s.turns p ((s.point p).decayed s.mode) (decayPoint p s) := by
  unfold decayPoint Point.decayed
  dsimp only
  split
  · exact .refl s p
  split
  · have ended : s.turns p { s.point p with chatter := 0, suppressed := false } (offerNow .chatterOff .alarm p.val (s.point p).condition.code 0
        (s.setPoint p { s.point p with chatter := 0, suppressed := false })) :=
      (setPoint_turns p _ s).then_keeps (offer_keepsPoints _ _)
    have announced := ended.trans (reannounce_turns .standing p _)
    rwa [ended.point, ended.1] at announced
  · exact setPoint_turns p _ s

/-- A point after an annunciation restart (R24). -/
def Point.restarted (mode : Mode) (v : Point) : Point := { v with chatter := 0, suppressed := false }.reannounced mode

theorem pointRestart_turns (p : Fin 1024) (s : State) : s.turns p ((s.point p).restarted s.mode) (pointRestart p s) := by
  have left := setPoint_turns p { s.point p with chatter := 0, suppressed := false } s
  have announced := left.trans (reannounce_turns .countOnly p _)
  rwa [left.point, left.1] at announced

theorem pointToConfiguring_turns (p : Fin 1024) (s : State) :
    s.turns p { s.point p with announced := .normal, chatter := 0, suppressed := false } (pointToConfiguring p s) := by
  have rested := setPoint_turns p { s.point p with announced := .normal, chatter := 0, suppressed := false } s
  unfold pointToConfiguring
  dsimp only
  split
  · split
    · exact rested.then_keeps (clearAt_touches _ _).keepsPoints
    · exact rested
  · exact rested

/-! ### Writes -/

theorem deriveWritten_turns (p : Fin 1024) (d : PointDef) (s : State) :
    s.turns p { s.point p with condition := d.derive (s.point p).contact } (deriveWritten p d s) := by
  unfold deriveWritten
  dsimp only
  split
  · rename_i same
    rw [same]
    exact .refl s p
  · exact ((setPoint_turns p _ s).then_keeps (tripDeliver_keeps _ _)).then_keeps (offerPointRecord_keeps _ _ _ _ _ _)

theorem announceWritten_turns (p : Fin 1024) (d : PointDef) (held : Condition) (s : State) :
    s.turns p { s.point p with announced := d.announce (s.point p) held } (announceWritten p d held s) := by
  have announced := setPoint_turns p { s.point p with announced := d.announce (s.point p) held } s
  unfold announceWritten
  dsimp only
  split
  · exact announced.then_keeps (activateAt_touches _ _ _).keepsPoints
  · exact announced

/-- The announced condition that a write keeps for a BAD point: NORMAL where the point was undefined (R20). -/
def Point.heldAnnounced (v : Point) : Condition :=
  match v.defn with
  | some _ => v.announced
  | none => .normal

theorem applyPointWrite_configuring {s : State} (h : s.mode = .configuring) (p : Fin 1024) (d : PointDef) :
    applyPointWrite p d s = deriveWritten p d (s.setPoint p ((s.point p).install d)) := by
  simp only [applyPointWrite, h, if_true]

theorem applyPointWrite_service {s : State} (h : s.mode ≠ .configuring) (p : Fin 1024) (d : PointDef) :
    applyPointWrite p d s = announceWritten p d (s.point p).heldAnnounced
      (deriveWritten p d ((removeContribution p s).setPoint p ((s.point p).install d))) := by
  simp only [applyPointWrite, h, if_false]
  rfl

/-- A point after an accepted write (R19, R20). -/
def Point.written (mode : Mode) (d : PointDef) (v : Point) : Point :=
  let w := v.install d
  let x := { w with condition := d.derive w.contact }
  if mode = .configuring then x
  else { x with announced := d.announce x v.heldAnnounced }

theorem applyPointWrite_turns (p : Fin 1024) (d : PointDef) (s : State) :
    s.turns p ((s.point p).written s.mode d) (applyPointWrite p d s) := by
  unfold Point.written
  dsimp only
  split
  · rename_i configuring
    rw [applyPointWrite_configuring configuring]
    have derived := (setPoint_turns p ((s.point p).install d) s).trans (deriveWritten_turns p d _)
    rwa [State.setPoint_point_self] at derived
  · rename_i service
    rw [applyPointWrite_service service]
    have removed : s.keepsPoints (removeContribution p s) := (removeContribution_touches p s).keepsPoints
    have installed := removed.then_turns (setPoint_turns p ((s.point p).install d) (removeContribution p s))
    have derived := installed.trans (deriveWritten_turns p d _)
    rw [installed.point] at derived
    have announced := derived.trans (announceWritten_turns p d (s.point p).heldAnnounced _)
    rwa [derived.point] at announced

theorem applyPointClear_turns (p : Fin 1024) (s : State) : s.turns p {} (applyPointClear p s) := by
  unfold applyPointClear
  split
  · exact setPoint_turns p {} s
  · exact State.keepsPoints.then_turns (removeContribution_touches p s).keepsPoints (setPoint_turns p {} _)

end Sys2Proof.Machine

/-! Every step keeps conditions and announced conditions derived (R3, R4, R8, R22). -/

namespace Sys2Proof.Machine

variable {s t : State}

/-! ### What leaves the points as they are -/

theorem setPort_keepsPoints (p : Port) (v : PortState) (s : State) : s.keepsPoints (s.setPort p v) := by
  cases p
  · exact ⟨rfl, rfl⟩
  · exact ⟨rfl, rfl⟩

theorem givePlace_keepsPoints (p : Port) (sel : Held → Bool) (s : State) : s.keepsPoints (givePlace p sel s) :=
  (setPort_keepsPoints p _ s).trans (setPort_keepsPoints p _ _)

theorem giveLast_keepsPoints (p : Port) (s : State) : s.keepsPoints (giveLast p s) :=
  (setPort_keepsPoints p _ s).trans (setPort_keepsPoints p _ _)

theorem furtherPause_keepsPoints (p : Port) (s : State) : s.keepsPoints (furtherPause p s) := by
  unfold furtherPause
  split
  · exact setPort_keepsPoints p _ s
  · exact .refl s

theorem takePlace_keepsPoints (p : Port) (x : Held) (s : State) : s.keepsPoints (takePlace p x s) :=
  (furtherPause_keepsPoints p s).trans ((setPort_keepsPoints p _ _).trans (setPort_keepsPoints p _ _))

theorem takeTime_keepsPoints (payload : List Byte) (s : State) : s.keepsPoints (takeTime payload s) := by
  unfold takeTime applyTime
  split
  · dsimp only
    split
    · exact ⟨rfl, rfl⟩
    split
    · exact ⟨rfl, rfl⟩
    · exact State.keepsPoints.trans (t := refreshSync (stepBack (natOfBytes payload) s)) ⟨rfl, rfl⟩ (offer_keepsPoints _ _)
  · exact .refl s

theorem acceptFrame_keepsPoints (p : Port) (f : Frame) (s : State) : s.keepsPoints (acceptFrame p f s) := by
  have placed (forward : Bool) := takePlace_keepsPoints p (s.place p f forward) s
  unfold acceptFrame
  split
  · exact placed _
  · exact (placed _).trans ((takeTime_keepsPoints _ _).trans (giveLast_keepsPoints p _))
  · exact (placed _).trans (takeTime_keepsPoints _ _)
  · exact placed _
  · exact (placed _).trans (giveLast_keepsPoints p _)
  · exact (placed _).trans ((giveLast_keepsPoints p _).trans ⟨rfl, rfl⟩)
  · exact (placed _).trans ((giveLast_keepsPoints p _).trans ⟨rfl, rfl⟩)

theorem frameReceived_keepsPoints (p : Port) (cs : List RxChar) (s : State) : s.keepsPoints (frameReceived p cs s) := by
  have free : s.keepsPoints (receiverFree p s) := setPort_keepsPoints p _ s
  unfold frameReceived
  split
  · split
    · dsimp only
      split
      · exact free.trans (setPort_keepsPoints p _ _)
      · split
        · refine free.trans ?_
          unfold judgeFrame
          split
          · exact setPort_keepsPoints p _ _
          split
          · exact (setPort_keepsPoints p _ _).trans (furtherPause_keepsPoints p _)
          · exact acceptFrame_keepsPoints p _ _
        · exact free
    · exact .refl s
  · exact .refl s

theorem timeArrives_keepsPoints (a : TimeArrival) (s : State) : s.keepsPoints (timeArrives a s) := by
  unfold timeArrives
  split
  · exact (setPort_keepsPoints .A _ s).trans (acceptFrame_keepsPoints .A _ _)
  · exact .refl s

theorem originate_keepsPoints (p : Port) (dest kind : Byte) (payload : List Byte) (s : State) :
    s.keepsPoints (originate p dest kind payload s) :=
  (setPort_keepsPoints p _ s).trans (setPort_keepsPoints p _ _)

theorem passThroughHandover_keepsPoints (p : Port) (s : State) : s.keepsPoints (passThroughHandover p s) := by
  unfold passThroughHandover
  split
  · split
    · exact (setPort_keepsPoints p _ s).trans ((setPort_keepsPoints p _ _).trans (setPort_keepsPoints _ _ _))
    · exact .refl s
  · exact .refl s

theorem transmitEnd_keepsPoints (p : Port) (s : State) : s.keepsPoints (transmitEnd p s) := by
  unfold transmitEnd
  split
  · dsimp only
    split
    · exact (setPort_keepsPoints p _ s).trans (givePlace_keepsPoints _ _ _)
    · exact setPort_keepsPoints p _ s
  · exact .refl s

theorem tripHandover_keepsPoints (s : State) : s.keepsPoints (tripHandover s) := by
  unfold tripHandover
  split
  · split
    · split
      · refine .trans ?_ (recordCommand_touches _ _ _ _).keepsPoints
        exact ⟨rfl, rfl⟩
      · exact .refl s
    · exact .refl s
  · exact .refl s

theorem phaseHandover_keepsPoints (s : State) : s.keepsPoints (phaseHandover s) := by
  unfold phaseHandover
  split
  · exact ⟨rfl, rfl⟩
  · exact .refl s

theorem windowHandover_keepsPoints (s : State) : s.keepsPoints (windowHandover s) := by
  unfold windowHandover
  split
  · split
    · split
      · rename_i d _ _ _ a _
        exact (originate_keepsPoints .B (lowByte a) kindWindow (imageBytes s d) s).trans ⟨rfl, rfl⟩
      · exact .refl s
    · exact .refl s
  · exact .refl s

theorem eventHandover_keepsPoints (s : State) : s.keepsPoints (eventHandover s) := by
  unfold eventHandover
  split
  · exact (originate_keepsPoints .A _ _ _ s).trans ((setPort_keepsPoints .A _ _).trans (removeEvents_touches _).keepsPoints)
  · exact .refl s

theorem replyHandover_keepsPoints (s : State) : s.keepsPoints (replyHandover s) := by
  unfold replyHandover
  split
  · split
    · rename_i r _
      exact (originate_keepsPoints .A r.dest kindReply r.payload s).trans ⟨rfl, rfl⟩
    · exact .refl s
  · exact .refl s

theorem confirmFrame_keepsPoints (s : State) : s.keepsPoints (confirmFrame s) := by
  unfold confirmFrame
  split
  · refine .trans ?_ (givePlace_keepsPoints .B _ _)
    unfold handleConfirm
    split
    · exact ⟨rfl, rfl⟩
    · split
      · exact ⟨rfl, rfl⟩
      · exact (matchConfirm_touches _ _ _ _).keepsPoints
  · exact .refl s

theorem frameAbandoned_keepsPoints (p : Port) (cs : List RxChar) (s : State) : s.keepsPoints (frameAbandoned p cs s) := by
  unfold frameAbandoned
  split
  · split
    · exact setPort_keepsPoints p _ s
    · exact setPort_keepsPoints p _ s
    · exact .refl s
  · exact .refl s

theorem applySettings_keepsPoints (v : Settings) (s : State) : s.keepsPoints (applySettings v s) := by
  have judged : s.keepsPoints (judgeFlow .B (judgeFlow .A { s with settings := v })) := ⟨rfl, rfl⟩
  unfold applySettings
  dsimp only
  split
  · exact judged
  · exact judged.trans (State.each_rel State.keepsPoints.refl State.keepsPoints.trans (fun _ u =>
      ((clearAt_touches _ u).trans (activateAt_touches _ _ _)).keepsPoints) _ _)

theorem modulesToRun_keepsPoints (s : State) : s.keepsPoints (modulesToRun s) := by
  refine State.each_rel State.keepsPoints.refl State.keepsPoints.trans (fun m u => ?_) _ _
  unfold restartUnseen
  split
  · split
    · exact ⟨rfl, rfl⟩
    · exact .refl u
  · exact .refl u

/-! ### A property of every point -/

/-- `R` holds of every point in the present mode. -/
def State.allPoints (R : Mode → Point → Prop) (s : State) : Prop := ∀ p, R s.mode (s.point p)

/-- What the operations of the Point Unit make of a point keeps `R`. -/
structure KeptByPoints (R : Mode → Point → Prop) : Prop where
  undefined : ∀ (m : Mode) {v : Point}, v.defn = none → R m v
  transitioned : ∀ {m : Mode} {v : Point} (tr : Transition), R m v → R m (v.transitioned m tr)
  qualified : ∀ {m : Mode} {v : Point} (q : Quality), R m v → R m (v.qualified m q)
  decayed : ∀ {m : Mode} {v : Point}, R m v → R m (v.decayed m)
  written : ∀ (m : Mode) (v : Point) (d : PointDef), R m (v.written m d)
  service : ∀ {m n : Mode} {v : Point}, m ≠ .configuring → n ≠ .configuring → R m v → R n v
  reannounced : ∀ {m : Mode} {v : Point}, m ≠ .configuring → R .configuring v ∨ R m v → R m (v.reannounced m)
  toConfiguring : ∀ {m : Mode} {v : Point}, R m v → R .configuring { v with announced := .normal, chatter := 0, suppressed := false }
  restarted : ∀ {m : Mode} {v : Point}, m ≠ .configuring → R m v → R m (v.restarted m)

/-- What each step of an iteration establishes of its own index, and keeps of the others', holds of every index at the end. -/
theorem State.each_establishes {ι : Type} {f : ι → State → State} {I : State → Prop} {Q : ι → State → Prop}
    (keeps : ∀ i s, I s → I (f i s)) (establishes : ∀ i s, I s → Q i (f i s)) (holds : ∀ i j s, I s → Q j s → Q j (f i s))
    (is : List ι) {s : State} (h : I s) : ∀ i ∈ is, Q i (State.each is f s) := by
  induction is generalizing s with
  | nil => exact nofun
  | cons i is ih =>
    intro j hj
    rcases List.mem_cons.mp hj with rfl | later
    · have stays : I (f j s) ∧ Q j (f j s) := ⟨keeps j s h, establishes j s h⟩
      exact (State.each_keeps (P := fun u => I u ∧ Q j u) (fun i u hu => ⟨keeps i u hu.1, holds i j u hu.1 hu.2⟩) is _ stays).2
    · exact ih (keeps i s h) j later

namespace KeptByPoints

variable {R : Mode → Point → Prop} (h : KeptByPoints R)

theorem frame (keeps : s.keepsPoints t) (hs : s.allPoints R) : t.allPoints R := fun p => by
  rw [keeps.1, keeps.point]
  exact hs p

theorem turned {p : Fin 1024} {v : Point} (turns : s.turns p v t) (hv : R s.mode v) (hs : s.allPoints R) : t.allPoints R := fun j => by
  rw [turns.1, turns.2]
  split
  · exact hv
  · exact hs j

include h

theorem applyTransition (p : Fin 1024) (tr : Transition) (hs : s.allPoints R) : (applyTransition p tr s).allPoints R :=
  turned (applyTransition_turns p tr s) (h.transitioned tr (hs p)) hs

theorem deliverQuality (p : Fin 1024) (q : Quality) (st : Stamp) (record : Bool) (hs : s.allPoints R) :
    (deliverQuality p q st record s).allPoints R :=
  turned (deliverQuality_turns p q st record s) (h.qualified q (hs p)) hs

theorem modulePointsBad (m : Fin 16) (hs : s.allPoints R) : (modulePointsBad m s).allPoints R :=
  State.each_keeps (P := fun s => s.allPoints R) (fun p _ => h.deliverQuality p .bad _ false) _ _ hs

theorem reports : KeptByReports (fun s => s.allPoints R) where
  takeReport := fun m trx r s hs => by
    unfold takeReport
    dsimp only
    split
    · exact frame ⟨rfl, rfl⟩ hs
    · rename_i p _
      have stamped : (s.setInputModule m
          { s.inputModule m with floor := (stampReport trx r.age (s.inputModule m).floor).time }).allPoints R := frame ⟨rfl, rfl⟩ hs
      have delivered := h.deliverQuality p r.quality (stampReport trx r.age (s.inputModule m).floor) true stamped
      split
      · exact delivered
      · exact State.each_keeps (P := fun s => s.allPoints R) (fun tr _ => h.applyTransition p tr) _ _ delivered
  timeArrives := fun a s hs => frame (timeArrives_keepsPoints a s) hs
  setInputModule := fun _ _ _ hs => frame ⟨rfl, rfl⟩ hs
  offerNow := fun _ _ _ _ _ s hs => frame (offer_keepsPoints _ s) hs
  clearAt := fun w s hs => frame (clearAt_touches w s).keepsPoints hs
  unknownSource := fun _ _ hs => frame ⟨rfl, rfl⟩ hs

/-! ### Modes and restart -/

theorem pointsToRun (was : ∀ p, R .configuring (s.point p)) (run : s.mode = .run) : (pointsToRun s).allPoints R := by
  have service : Mode.run ≠ .configuring := nofun
  -- throughout, each point is as it was in CONFIGURING or announced in RUN
  let I (u : State) : Prop := u.mode = .run ∧ ∀ p, R .configuring (u.point p) ∨ R .run (u.point p)
  have announces (p : Fin 1024) (u : State) (hu : I u) : R .run ((reannounce .standing p u).point p) := by
    rw [(reannounce_turns .standing p u).point, hu.1]
    exact h.reannounced service (hu.2 p)
  have others (p j : Fin 1024) (u : State) (hu : I u) (hj : R .run (u.point j)) : R .run ((reannounce .standing p u).point j) := by
    by_cases same : j = p
    · rw [same]; exact announces p u hu
    · rw [(reannounce_turns .standing p u).other same]; exact hj
  have kept (p : Fin 1024) (u : State) (hu : I u) : I (reannounce .standing p u) := by
    refine ⟨(reannounce_turns .standing p u).1.trans hu.1, fun j => ?_⟩
    by_cases same : j = p
    · rw [same]; exact .inr (announces p u hu)
    · rw [(reannounce_turns .standing p u).other same]; exact hu.2 j
  have start : I { s with decay := some s.settings.chatterInterval } := ⟨run, fun p => .inl (was p)⟩
  have defined := State.each_establishes kept announces others s.definedPoints start
  have all := State.each_keeps kept s.definedPoints _ start
  have undefinedStays (j : Fin 1024) (undefined : (s.point j).defn = none) : ∀ is : List (Fin 1024), ∀ u : State,
      (u.point j).defn = none → ((State.each is (reannounce .standing) u).point j).defn = none :=
    fun is u hu => State.each_keeps (P := fun u => (u.point j).defn = none) (fun p u hu => by
      rw [(reannounce_turns .standing p u).2]
      split
      · rename_i same
        subst same
        rw [Point.reannounced_of_undefined hu]
        exact hu
      · exact hu) is u hu
  intro p
  have mode : (Machine.pointsToRun s).mode = .run := all.1
  rw [mode]
  by_cases undefined : (s.point p).defn = none
  · exact h.undefined .run (undefinedStays p undefined _ _ undefined)
  · refine defined p (List.mem_filter.mpr ⟨Table.mem_keys_of_get_ne (d := {}) fun initial => undefined ?_, ?_⟩)
    · rw [State.point, initial]
    · exact Option.isSome_iff_ne_none.mpr undefined

theorem pointsToConfiguring {m : Mode} (was : ∀ p, R m (s.point p)) (configuring : s.mode = .configuring) :
    (pointsToConfiguring s).allPoints R := by
  let I (u : State) : Prop := u.mode = .configuring ∧ ∀ p, R m (u.point p) ∨ R .configuring (u.point p)
  have rests (p : Fin 1024) (u : State) (hu : I u) : R .configuring ((pointToConfiguring p u).point p) := by
    rw [(pointToConfiguring_turns p u).point]
    exact (hu.2 p).elim h.toConfiguring h.toConfiguring
  have others (p j : Fin 1024) (u : State) (hu : I u) (hj : R .configuring (u.point j)) :
      R .configuring ((pointToConfiguring p u).point j) := by
    by_cases same : j = p
    · rw [same]; exact rests p u hu
    · rw [(pointToConfiguring_turns p u).other same]; exact hj
  have kept (p : Fin 1024) (u : State) (hu : I u) : I (pointToConfiguring p u) := by
    refine ⟨(pointToConfiguring_turns p u).1.trans hu.1, fun j => ?_⟩
    by_cases same : j = p
    · rw [same]; exact .inr (rests p u hu)
    · rw [(pointToConfiguring_turns p u).other same]; exact hu.2 j
  have start : I { s with decay := none } := ⟨configuring, fun p => .inl (was p)⟩
  have listed := State.each_establishes kept rests others (Table.keys s.points) start
  have all := State.each_keeps kept (Table.keys s.points) _ start
  intro p
  have mode : (Machine.pointsToConfiguring s).mode = .configuring := all.1
  rw [mode]
  by_cases key : p ∈ Table.keys s.points
  · exact listed p key
  · refine h.undefined .configuring ?_
    have unlisted : s.point p = {} := not_not.mp fun other => key (Table.mem_keys_of_get_ne other)
    have stays : ((Machine.pointsToConfiguring s).point p).defn = none := by
      refine State.each_keeps (P := fun u => (u.point p).defn = none) (fun j u hu => ?_) _ _ (congrArg Point.defn unlisted)
      rw [(pointToConfiguring_turns j u).2]
      split
      · rename_i same
        subst same
        exact hu
      · exact hu
    exact stays

theorem pointsRestart (service : s.mode ≠ .configuring) (hs : s.allPoints R) : (pointsRestart s).allPoints R :=
  (State.each_keeps (P := fun u => u.mode ≠ .configuring ∧ u.allPoints R) (fun p u hu =>
    ⟨by rw [(pointRestart_turns p u).1]; exact hu.1,
     turned (pointRestart_turns p u) (h.restarted hu.1 (hu.2 p)) hu.2⟩) _ _ ⟨service, hs⟩).2

theorem enterRun (configuring : s.mode = .configuring) (hs : s.allPoints R) : (enterRun s).allPoints R := by
  have was (p : Fin 1024) : R .configuring (s.point p) := configuring ▸ hs p
  let t := Machine.queueOverflow (offerModeChange .run { s with mode := .run })
  have offered : ({ s with mode := .run } : State).keepsPoints t :=
    ((offerModeChange_touches .run _).trans (queueOverflow_touches _)).keepsPoints
  have announced := h.pointsToRun (s := t) (fun p => by rw [offered.point]; exact was p) offered.1
  refine frame (.trans ?_ (joinAscending_panel _ _).ann.keepsPoints) announced
  refine .trans ?_ (judgeLines_touches _).keepsPoints
  refine .trans ?_ (elementsToRun_touches _).keeps
  exact (annEnterRun_touches _).keepsPoints.trans (modulesToRun_keepsPoints _)

theorem enterTest (run : s.mode = .run) (hs : s.allPoints R) : (enterTest s).allPoints R := by
  have tested : ({ s with mode := .test } : State).allPoints R := fun p =>
    h.service (m := s.mode) (by rw [run]; nofun) nofun (hs p)
  refine frame (.trans ?_ (joinTripAll_touches _).keepsPoints) tested
  exact (offerModeChange_touches _ _).keepsPoints.trans (judgeLines_touches _).keepsPoints

theorem leaveTest (test : s.mode = .test) (hs : s.allPoints R) : (leaveTest s).allPoints R := by
  have running : ({ s with mode := .run } : State).allPoints R := fun p =>
    h.service (m := s.mode) (by rw [test]; nofun) nofun (hs p)
  refine frame (.trans ?_ (joinAscending_panel _ _).ann.keepsPoints) running
  refine .trans ?_ (exitTest_touches _).keepsPoints
  exact (offerModeChange_touches _ _).keepsPoints.trans (clearForces_touches _).keeps

theorem enterConfiguring (hs : s.allPoints R) : (enterConfiguring s).allPoints R := by
  have offered : s.keepsPoints (offerModeChange .configuring s) := (offerModeChange_touches .configuring s).keepsPoints
  have rested := h.pointsToConfiguring (s := { offerModeChange .configuring s with mode := .configuring }) (m := s.mode)
    (fun p => (offered.point p).symm ▸ hs p) rfl
  refine frame (.trans ?_ (joinAscending_panel _ _).ann.keepsPoints) rested
  refine .trans ?_ (judgeLines_touches _).keepsPoints
  exact (annEnterConfiguring_touches _).keepsPoints.trans (elementsToConfiguring_touches _).keeps

/-! ### Module entries -/

theorem applyModuleClear (m : Fin 16) (hs : s.allPoints R) : (applyModuleClear m s).allPoints R := by
  unfold Machine.applyModuleClear
  dsimp only
  split
  · exact hs
  · refine frame (clearSilence_touches _ _).keepsPoints (h.modulePointsBad m ?_)
    exact frame ⟨rfl, rfl⟩ hs

theorem applyModuleWrite (m : Fin 16) (d : ModuleDef) (hs : s.allPoints R) : (applyModuleWrite m d s).allPoints R := by
  unfold Machine.applyModuleWrite
  split
  · exact frame ⟨rfl, rfl⟩ hs
  · split
    · unfold rewriteModule
      dsimp only
      split
      · refine frame ((clearAt_touches _ _).trans (activateAt_touches _ _ _)).keepsPoints ?_
        exact frame ⟨rfl, rfl⟩ hs
      · exact frame ⟨rfl, rfl⟩ hs
    · exact frame (t := (Machine.applyModuleClear m s).setInputModule m _) ⟨rfl, rfl⟩ (h.applyModuleClear m hs)

theorem supervisionExpiry (m : Fin 16) (hs : s.allPoints R) : (supervisionExpiry m s).allPoints R := by
  unfold Machine.supervisionExpiry
  split
  · split
    · refine frame (activateAt_touches _ _ _).keepsPoints (frame (offer_keepsPoints _ _) (h.modulePointsBad m ?_))
      exact frame ⟨rfl, rfl⟩ hs
    · exact hs
  · exact hs

/-! ### Every step -/

theorem blockEffect (effect : BlockEffect s t) (hs : s.allPoints R) : t.allPoints R := by
  cases effect with
  | idle => exact hs
  | moduleWrite m d _ => exact h.applyModuleWrite m d hs
  | moduleClear m _ => exact h.applyModuleClear m hs
  | pointWrite p d => exact turned (applyPointWrite_turns p d s) (h.written _ _ d) hs
  | pointClear p => exact turned (applyPointClear_turns p s) (h.undefined _ rfl) hs
  | windowWrite w d _ => exact frame (applyWindowWrite_panel w d s).ann.keepsPoints hs
  | windowClear w => exact frame (applyWindowClear_panel w s).ann.keepsPoints hs
  | driver d a => exact frame (applyDriver_panel d a s).ann.keepsPoints hs
  | groupWrite g d => exact frame (applyGroupWrite_panel g d s).ann.keepsPoints hs
  | groupClear g _ => exact frame ⟨rfl, rfl⟩ hs
  | horn x v => exact frame (applyHorn_panel x v s).ann.keepsPoints hs
  | pattern i v => exact frame ⟨rfl, rfl⟩ hs
  | elementWrite e d => exact frame (applyElementWrite_touches e d s).keeps hs
  | elementClear e => exact frame (applyElementClear_touches e s).keeps hs
  | output k a n => exact frame (applyOutput_touches k a n s).keepsPoints hs
  | channelWrite c d => exact frame (applyChannelWrite_touches c d s).keepsPoints hs
  | channelClear c => exact frame (applyChannelClear_touches c s).keepsPoints hs
  | restart service =>
    refine frame (annRestart_touches _).keepsPoints (h.pointsRestart ?_ (frame (offer_keepsPoints _ s) hs))
    rw [offerNow, (offer_keepsPoints _ s).1]
    exact service
  | ack g origin => exact frame (ackGroup_touches g origin s).keepsPoints hs
  | reset g => exact frame (resetGroup_touches g s).keepsPoints hs
  | silence x => exact frame (silenceHorn_touches x s).keepsPoints hs
  | lampOn => exact frame (lampOn_touches s).keepsPoints hs
  | lampOff => exact frame (lampOff_touches s).keepsPoints hs
  | lockout c _ => exact frame ((setChannel_touches c _ s).trans ((channelRecord_touches _ c _).ann.channels.trans
      (outputChanged_touches c false _))).keepsPoints hs
  | force on e => exact frame (forceElement_touches _ on e s).keeps hs
  | clearCounters => exact frame ⟨rfl, rfl⟩ hs

theorem commandEffect (effect : CommandEffect s t) (hs : s.allPoints R) : t.allPoints R := by
  cases effect with
  | block effect => exact h.blockEffect effect hs
  | settings v _ => exact frame (applySettings_keepsPoints v s) hs
  | enterRun configuring _ => exact h.enterRun configuring hs
  | leaveTest test => exact h.leaveTest test hs
  | enterTest run => exact h.enterTest run hs
  | enterConfiguring _ => exact h.enterConfiguring hs
  | freeze => exact frame ⟨rfl, rfl⟩ hs

theorem rowEffect (effect : RowEffect s t) (hs : s.allPoints R) : t.allPoints R := by
  cases effect with
  | idle => exact hs
  | coldReset ads rsa rsb => exact fun _ => h.undefined _ rfl
  | resetnHeldLow => exact frame ⟨rfl, rfl⟩ hs
  | localTick => exact frame ⟨rfl, rfl⟩ hs
  | frameReceived p cs => exact frame (frameReceived_keepsPoints p cs s) hs
  | frameAbandoned p cs => exact frame (frameAbandoned_keepsPoints p cs s) hs
  | pauseReceived p => exact frame (setPort_keepsPoints p _ s) hs
  | resumeReceived p =>
    unfold Machine.resumeReceived
    split
    · exact frame (setPort_keepsPoints p _ s) hs
    · exact hs
  | selfResumeExpiry p =>
    unfold Machine.selfResumeExpiry
    split
    · exact frame (setPort_keepsPoints p _ s) hs
    · exact hs
  | controlByteSent p =>
    unfold Machine.controlByteSent
    split
    · exact frame (setPort_keepsPoints p _ s) hs
    · exact hs
  | transmitEnd p => exact frame (transmitEnd_keepsPoints p s) hs
  | sofReceived p => exact frame (setPort_keepsPoints p _ s) hs
  | tripHandover => exact frame (tripHandover_keepsPoints s) hs
  | phaseHandover => exact frame (phaseHandover_keepsPoints s) hs
  | windowHandover => exact frame (windowHandover_keepsPoints s) hs
  | passThroughHandover p => exact frame (passThroughHandover_keepsPoints p s) hs
  | eventHandover => exact frame (eventHandover_keepsPoints s) hs
  | replyHandover => exact frame (replyHandover_keepsPoints s) hs
  | scanFrame =>
    unfold Machine.scanFrame
    split
    · rename_i x _
      have taken := h.reports.takeScan s.arriving x hs
      have given := frame (givePlace_keepsPoints .A (Held.owned kindScan) _) taken
      exact frame ⟨rfl, rfl⟩ given
    · exact hs
  | timeFrame dest src seq payload =>
    unfold Machine.timeFrame
    split
    · exact frame (timeArrives_keepsPoints _ s) hs
    · exact hs
  | syncExpiry =>
    unfold Machine.syncExpiry
    split
    · exact frame ⟨rfl, rfl⟩ hs
    · exact hs
  | supervisionExpiry m => exact h.supervisionExpiry m hs
  | chatterDecayExpiry =>
    unfold Machine.chatterDecayExpiry
    split
    · have restarted : ({ s with decay := some s.settings.chatterInterval } : State).allPoints R := frame ⟨rfl, rfl⟩ hs
      exact State.each_keeps (P := fun s => s.allPoints R) (fun p u hu =>
        turned (decayPoint_turns p u) (h.decayed (hu p)) hu) _ _ restarted
    · exact hs
  | settleExpiry g => exact frame (settleExpiry_touches g s).keepsPoints hs
  | windowRefreshExpiry => exact frame (windowRefreshExpiry_touches s).keepsPoints hs
  | phaseIntervalExpiry => exact frame (phaseIntervalExpiry_touches s).keepsPoints hs
  | lampLimitExpiry => exact frame (lampLimitExpiry_touches s).keepsPoints hs
  | elementDelayExpiry e => exact frame (elementDelayExpiry_touches e s).keeps hs
  | deadlineExpiry k => exact frame (deadlineExpiry_touches k s).keepsPoints hs
  | tripRefreshExpiry => exact frame (tripRefreshExpiry_touches s).keepsPoints hs
  | batchExpiry => exact frame (batchExpiry_touches s).keepsPoints hs
  | confirmFrame => exact frame (confirmFrame_keepsPoints s) hs
  | button act => exact frame (givePlace_keepsPoints .B _ _) (h.commandEffect act hs)
  | ignoredButton =>
    refine frame (givePlace_keepsPoints .B _ _) ?_
    exact frame ⟨rfl, rfl⟩ hs
  | answered act r =>
    have acted := h.commandEffect act hs
    exact frame ⟨rfl, rfl⟩ acted
  | cmdFrame act r =>
    have acted := h.commandEffect act hs
    refine frame (givePlace_keepsPoints .A _ _) ?_
    exact frame ⟨rfl, rfl⟩ acted
  | discardedCmd => exact frame (givePlace_keepsPoints .A _ s) hs

theorem step (hs : s.allPoints R) (hstep : step s = .next t) : t.allPoints R :=
  step_keeps (P := fun s => s.allPoints R) (fun _ hs => frame ⟨rfl, rfl⟩ hs) h.rowEffect hs hstep

end KeptByPoints

/-! ### Conditions and announced conditions -/

/-- The condition of a defined point follows its contact. -/
def Point.derived (v : Point) : Prop := ∀ d, v.defn = some d → v.condition = d.derive v.contact

/-- The announced condition of a defined point is the derived one, NORMAL in CONFIGURING. -/
def Point.announcedIn (m : Mode) (v : Point) : Prop :=
  ∀ d, v.defn = some d →
    (m = .configuring → v.announced = .normal) ∧ (m ≠ .configuring → v.announced = d.announce v v.announced)

/-! ### Fields that an operation leaves as they are -/

variable {m : Mode} {v : Point}

/-- Derived again, a point keeps all but its announced condition. -/
theorem Point.reannounced_fields (m : Mode) (v : Point) : v.reannounced m = { v with announced := (v.reannounced m).announced } := by
  cases v with
  | mk defn => cases defn with
    | none => rfl
    | some d =>
      rw [Point.reannounced_of_defined rfl]
      split
      · rfl
      · rfl

theorem Point.chattered_fields (m : Mode) (d : PointDef) (v : Point) :
    v.chattered m d = { v with chatter := (v.chattered m d).chatter, suppressed := (v.chattered m d).suppressed } := by
  unfold Point.chattered
  split
  · rfl
  · rfl

@[simp] theorem Point.reannounced_defn (m : Mode) (v : Point) : (v.reannounced m).defn = v.defn := by
  rw [Point.reannounced_fields]
@[simp] theorem Point.reannounced_contact (m : Mode) (v : Point) : (v.reannounced m).contact = v.contact := by
  rw [Point.reannounced_fields]
@[simp] theorem Point.reannounced_condition (m : Mode) (v : Point) : (v.reannounced m).condition = v.condition := by
  rw [Point.reannounced_fields]
@[simp] theorem Point.reannounced_quality (m : Mode) (v : Point) : (v.reannounced m).quality = v.quality := by
  rw [Point.reannounced_fields]
@[simp] theorem Point.reannounced_suppressed (m : Mode) (v : Point) : (v.reannounced m).suppressed = v.suppressed := by
  rw [Point.reannounced_fields]
@[simp] theorem Point.reannounced_chatter (m : Mode) (v : Point) : (v.reannounced m).chatter = v.chatter := by
  rw [Point.reannounced_fields]
@[simp] theorem Point.reannounced_lastEvent (m : Mode) (v : Point) : (v.reannounced m).lastEvent = v.lastEvent := by
  rw [Point.reannounced_fields]

@[simp] theorem Point.chattered_defn (m : Mode) (d : PointDef) (v : Point) : (v.chattered m d).defn = v.defn := by
  rw [Point.chattered_fields]
@[simp] theorem Point.chattered_contact (m : Mode) (d : PointDef) (v : Point) : (v.chattered m d).contact = v.contact := by
  rw [Point.chattered_fields]
@[simp] theorem Point.chattered_condition (m : Mode) (d : PointDef) (v : Point) : (v.chattered m d).condition = v.condition := by
  rw [Point.chattered_fields]
@[simp] theorem Point.chattered_quality (m : Mode) (d : PointDef) (v : Point) : (v.chattered m d).quality = v.quality := by
  rw [Point.chattered_fields]
@[simp] theorem Point.chattered_announced (m : Mode) (d : PointDef) (v : Point) : (v.chattered m d).announced = v.announced := by
  rw [Point.chattered_fields]
@[simp] theorem Point.chattered_lastEvent (m : Mode) (d : PointDef) (v : Point) : (v.chattered m d).lastEvent = v.lastEvent := by
  rw [Point.chattered_fields]

section
variable (m : Mode) (d : PointDef) (c : Condition) (counted : Bool) (v : Point)

@[simp] theorem Point.changed_defn : (v.changed m d c counted).defn = v.defn := by
  cases counted <;> simp [Point.changed]
@[simp] theorem Point.changed_contact : (v.changed m d c counted).contact = v.contact := by
  cases counted <;> simp [Point.changed]
@[simp] theorem Point.changed_condition : (v.changed m d c counted).condition = c := by
  cases counted <;> simp [Point.changed]
@[simp] theorem Point.changed_quality : (v.changed m d c counted).quality = v.quality := by
  cases counted <;> simp [Point.changed]
@[simp] theorem Point.changed_lastEvent : (v.changed m d c counted).lastEvent = v.lastEvent := by
  cases counted <;> simp [Point.changed]

end

theorem Point.install_defn (d : PointDef) (v : Point) : (v.install d).defn = some d := by
  unfold Point.install
  split
  · rfl
  · rfl

theorem Point.install_announced (d : PointDef) (v : Point) : (v.install d).announced = .normal := by
  unfold Point.install
  split
  · rfl
  · rfl

/-! ### Conditions -/

theorem Point.derived_of_condition {d : PointDef} (defined : v.defn = some d) (condition : v.condition = d.derive v.contact) :
    v.derived := fun x hx => by
  rw [defined] at hx
  rw [← Option.some.inj hx]
  exact condition

theorem Point.derived.reannounced (h : v.derived) (m : Mode) : (v.reannounced m).derived := by
  rw [Point.reannounced_fields]
  exact h

theorem Point.changed_derived {d : PointDef} {c : Condition} {counted : Bool} (defined : v.defn = some d)
    (condition : c = d.derive v.contact) : (v.changed m d c counted).derived :=
  Point.derived_of_condition (d := d) (by simpa using defined) (by simpa using condition)

theorem PointDef.derive_momentary {d : PointDef} (h : d.kind = .momentary) (contact : Bool) : d.derive contact = .normal := by
  rw [PointDef.derive, h]

theorem Point.derived.transitioned (h : v.derived) (m : Mode) (tr : Transition) : (v.transitioned m tr).derived := by
  cases defined : v.defn with
  | none => rw [Point.transitioned_of_undefined defined]; exact h
  | some d =>
    rw [Point.transitioned_of_defined defined]
    split
    · exact h
    · cases kind : d.kind with
      | maintained =>
        dsimp only
        split
        · rename_i same
          exact Point.derived_of_condition defined same.symm
        · exact Point.changed_derived defined rfl
      | momentary =>
        dsimp only
        split
        · exact Point.changed_derived (by simpa using defined) (PointDef.derive_momentary kind _).symm
        · refine Point.derived_of_condition defined ?_
          have rests := h d defined
          rw [PointDef.derive_momentary kind] at rests ⊢
          exact rests

theorem derived_points : KeptByPoints (fun _ v => v.derived) where
  undefined := fun _ _ undefined d hd => by rw [undefined] at hd; cases hd
  transitioned := fun tr hv => hv.transitioned _ tr
  qualified := fun {m v} q hv => by
    cases defined : v.defn with
    | none => rw [Point.qualified_of_undefined defined]; exact hv
    | some d =>
      rw [Point.qualified_of_defined defined]
      split
      · exact hv
      · exact Point.derived.reannounced (v := { v with quality := q }) hv m
  decayed := fun {m v} hv => by
    unfold Point.decayed
    split
    · exact hv
    split
    · exact Point.derived.reannounced (v := { v with chatter := 0, suppressed := false }) hv m
    · exact hv
  written := fun m v d => by
    unfold Point.written
    dsimp only
    split
    · exact Point.derived_of_condition (Point.install_defn d v) rfl
    · exact Point.derived_of_condition (Point.install_defn d v) rfl
  service := fun _ _ hv => hv
  reannounced := fun _ hv => (hv.elim id id).reannounced _
  toConfiguring := fun hv => hv
  restarted := fun {m v} _ hv => Point.derived.reannounced (v := { v with chatter := 0, suppressed := false }) hv m

/-! ### Announced conditions -/

/-- What R8 derives does not change when it is derived again. -/
theorem PointDef.announce_again (d : PointDef) (v : Point) (held : Condition) :
    d.announce { v with announced := d.announce v held } (d.announce v held) = d.announce v held := by
  unfold PointDef.announce
  split
  · rfl
  split
  · rfl
  split
  · rfl
  · rfl

theorem Point.reannounced_announcedIn (service : m ≠ .configuring) (v : Point) : (v.reannounced m).announcedIn m := by
  cases defined : v.defn with
  | none =>
    intro d hd
    rw [Point.reannounced_of_undefined defined, defined] at hd
    cases hd
  | some x =>
    rw [Point.reannounced_of_defined defined, if_neg service]
    intro d hd
    rw [← Option.some.inj (defined.symm.trans hd)]
    exact ⟨fun configuring => absurd configuring service, fun _ => (x.announce_again v v.announced).symm⟩

theorem Point.reannounced_configuring (v : Point) : v.reannounced .configuring = v := by
  unfold Point.reannounced
  split
  · rfl
  · rfl

/-- In CONFIGURING an announced NORMAL is enough. -/
theorem Point.announcedIn_configuring (normal : v.announced = .normal) : v.announcedIn .configuring :=
  fun _ _ => ⟨fun _ => normal, fun service => absurd rfl service⟩

/-- Deriving again settles the announced condition, provided it was NORMAL in CONFIGURING. -/
theorem Point.reannounced_settles (normal : m = .configuring → v.defn ≠ none → v.announced = .normal) : (v.reannounced m).announcedIn m := by
  by_cases configuring : m = .configuring
  · subst configuring
    rw [Point.reannounced_configuring]
    exact fun d hd => ⟨fun _ => normal rfl (by rw [hd]; nofun), fun service => absurd rfl service⟩
  · exact Point.reannounced_announcedIn configuring v

theorem Point.announcedIn.normal (h : v.announcedIn m) (configuring : m = .configuring) (defined : v.defn ≠ none) :
    v.announced = .normal := by
  obtain ⟨d, hd⟩ := Option.ne_none_iff_exists'.mp defined
  exact (h d hd).1 configuring

theorem Point.changed_announcedIn {d : PointDef} {c : Condition} {counted : Bool}
    (normal : m = .configuring → v.defn ≠ none → v.announced = .normal) : (v.changed m d c counted).announcedIn m := by
  unfold Point.changed
  cases counted with
  | false =>
    exact Point.reannounced_settles (v := { v with condition := c }) normal
  | true =>
    refine Point.reannounced_settles fun configuring defined => ?_
    simp only [if_true, Point.chattered_announced, Point.chattered_defn] at defined ⊢
    exact normal configuring defined

/-- The derivation of R8 does not look at contact and last event time. -/
theorem Point.announcedIn.of_contact (h : v.announcedIn m) (contact : Bool) (n : Nat) :
    ({ v with contact := contact, lastEvent := n } : Point).announcedIn m := h

theorem Point.announcedIn.transitioned (h : v.announcedIn m) (tr : Transition) : (v.transitioned m tr).announcedIn m := by
  have normal := h.normal
  cases defined : v.defn with
  | none => rw [Point.transitioned_of_undefined defined]; exact h
  | some d =>
    rw [Point.transitioned_of_defined defined]
    split
    · exact h
    · cases d.kind with
      | maintained =>
        dsimp only
        split
        · exact h.of_contact _ _
        · exact Point.changed_announcedIn (v := { v with contact := tr.contact, lastEvent := tr.stamp.time }) normal
      | momentary =>
        dsimp only
        split
        · refine Point.changed_announcedIn (Point.announcedIn.normal ?_)
          exact Point.changed_announcedIn (v := { v with contact := tr.contact, lastEvent := tr.stamp.time }) normal
        · exact h.of_contact _ _

theorem announced_points : KeptByPoints Point.announcedIn where
  undefined := fun _ _ undefined d hd => by rw [undefined] at hd; cases hd
  transitioned := fun tr hv => hv.transitioned tr
  qualified := fun {m v} q hv => by
    cases defined : v.defn with
    | none => rw [Point.qualified_of_undefined defined]; exact hv
    | some d =>
      rw [Point.qualified_of_defined defined]
      split
      · exact hv
      · exact Point.reannounced_settles (v := { v with quality := q }) hv.normal
  decayed := fun {m v} hv => by
    unfold Point.decayed
    split
    · exact hv
    split
    · exact Point.reannounced_settles (v := { v with chatter := 0, suppressed := false }) hv.normal
    · exact hv
  written := fun m v d => by
    unfold Point.written
    dsimp only
    split
    · rename_i configuring
      rw [configuring]
      exact Point.announcedIn_configuring (Point.install_announced d v)
    · rename_i service
      intro x hx
      rw [← Option.some.inj ((Point.install_defn d v).symm.trans hx)]
      exact ⟨fun configuring => absurd configuring service, fun _ => (d.announce_again _ _).symm⟩
  service := fun hm hn hv d hd => ⟨fun configuring => absurd configuring hn, fun _ => (hv d hd).2 hm⟩
  reannounced := fun service _ => Point.reannounced_announcedIn service _
  toConfiguring := fun _ => Point.announcedIn_configuring rfl
  restarted := fun {_ v} service _ => Point.reannounced_announcedIn service { v with chatter := 0, suppressed := false }

/-- Settles O23: what each operation makes of its point keeps both derivations. -/
theorem everyStepKeepsThePointsDerived : Obligations.EveryStepKeepsThePointsDerived :=
  ⟨fun _ _ => derived_points.step, fun _ _ => announced_points.step⟩

end Sys2Proof.Machine

/-! Horns, groups and the groups that windows name (R59, R82, R83, R95), and what the operations do to the sequence of the windows. -/

namespace Sys2Proof.Machine

variable {s t u : State}

/-! ### Horns -/

theorem hornsSound_iff : s.hornsSound ↔ ∀ h, (s.horn h).agrees := Iff.rfl

theorem hornsSound_rows : KeptByPanelRows State.hornsSound where
  frame := fun hs _ _ horns _ _ _ h => by rw [State.horn, horns]; exact hs h
  setMode := fun _ _ _ hs => hs
  setWindow := fun _ _ _ _ hs => hs
  setWindows := fun _ _ _ hs => hs
  setGroup := fun _ _ _ _ _ hs => hs
  setHorn := fun h v _ agrees hs j => by
    rw [State.setHorn_horn]
    split
    · exact agrees (hs h)
    · exact hs j
  joinDriver := fun d _ hs h => by rw [joinDriver_horn]; exact hs h
  coldReset := fun _ _ _ _ => ⟨fun _ => rfl, fun _ => rfl⟩
  tick := fun hs => hs
  takeDriverHead := fun hs _ => hs
  driver := fun d a s hs h => by
    unfold applyDriver
    split
    · rw [joinDriver_horn]; exact hs h
    · exact hs h
  join := fun _ ht _ => ht

/-! ### Groups -/

theorem Timer.tick_eq_none (t : Timer) : t.tick = none ↔ t = none := by
  cases t with
  | none => exact ⟨fun _ => rfl, fun _ => rfl⟩
  | some n => exact ⟨nofun, nofun⟩

theorem Group.sound.tick {v : Group} (h : v.sound) : ({ v with settle := v.settle.tick } : Group).sound := by
  unfold Group.sound at *
  simpa only [ne_eq, Timer.tick_eq_none] using h

theorem groupsSound_rows : KeptByPanelRows State.groupsSound where
  frame := fun hs _ groups _ _ _ _ => by
    unfold State.groupsSound State.group at *
    rw [groups]
    exact hs
  setMode := fun _ _ _ hs => hs
  setWindow := fun _ _ _ _ hs => hs
  setWindows := fun _ _ _ hs => hs
  setGroup := fun g v _ _ sound hs => ⟨Table.wf_set _ _ _ _ hs.1, fun j => by
    rw [State.setGroup_group]
    split
    · exact sound (hs.2 g)
    · exact hs.2 j⟩
  setHorn := fun _ _ _ _ hs => hs
  joinDriver := fun d s hs => ⟨by rw [joinDriver_groups]; exact hs.1, fun g => by rw [joinDriver_group]; exact hs.2 g⟩
  coldReset := fun _ _ _ => ⟨rfl, fun _ => Group.sound_armed rfl rfl rfl rfl⟩
  tick := fun {s} hs => ⟨Table.wf_mapCells {} (fun v : Group => { v with settle := v.settle.tick }) _ hs.1, fun g => by
    have ticked := Table.get_mapCells ({} : Group) (fun v => { v with settle := v.settle.tick }) s.ann.groups hs.1 rfl g
    unfold State.group
    rw [show ({ s with ann := s.ann.tick } : State).ann.groups =
      Table.mapCells {} (fun v : Group => { v with settle := v.settle.tick }) s.ann.groups from rfl, ticked]
    exact (hs.2 g).tick⟩
  takeDriverHead := fun hs _ => hs
  driver := fun d a s hs => by
    unfold applyDriver
    split
    · exact ⟨by rw [joinDriver_groups]; exact hs.1, fun g => by rw [joinDriver_group]; exact hs.2 g⟩
    · exact hs
  join := fun _ ht _ => ht

/-! ### The groups that windows name -/

theorem mem_definedWindows (s : State) (w : Fin 192) : w ∈ s.definedWindows ↔ (s.window w).defn.isSome = true := by
  unfold State.definedWindows
  rw [List.mem_filter, and_iff_right_iff_imp]
  intro defined
  exact Table.mem_keys_of_get_ne (d := {}) fun initial => by
    rw [State.window, initial] at defined
    cases defined

theorem mem_windowsOf (s : State) (g : Fin 32) (w : Fin 192) :
    w ∈ windowsOf s g ↔ ∃ d, (s.window w).defn = some d ∧ d.group = g := by
  unfold windowsOf
  rw [List.mem_filter, mem_definedWindows]
  cases (s.window w).defn <;> simp

theorem groupInUse_eq_false (s : State) (g : Fin 32) :
    groupInUse s g = false ↔ ∀ w d, (s.window w).defn = some d → d.group ≠ g := by
  unfold groupInUse
  rw [Bool.not_eq_false', List.isEmpty_iff, List.eq_nil_iff_forall_not_mem]
  simp only [mem_windowsOf, not_exists, not_and, ne_eq]

/-- The consistency check finds no defined window with an undefined group (R180 item 9). -/
theorem group_of_consistent (h : consistencyFailure s = none) {w : Fin 192} {d : WindowDef} (defined : (s.window w).defn = some d) :
    (s.group d.group).defn ≠ none := by
  intro undefined
  unfold consistencyFailure at h
  rw [List.findSome?_eq_none_iff] at h
  have item := h (firstFailure .window s.definedWindows (windowGroupBroken s)) (by simp [consistencyFailures])
  rw [firstFailure, Option.map_eq_none_iff, List.find?_eq_none] at item
  refine item w ((mem_definedWindows s w).mpr (by rw [defined]; rfl)) ?_
  rw [windowGroupBroken, defined]
  exact decide_eq_true undefined

theorem group_tick_defn (g : Fin 32) (defined : (s.group g).defn ≠ none) :
    (({ s with ann := s.ann.tick } : State).group g).defn ≠ none := by
  have listed : s.group g ≠ {} := fun initial => defined (by rw [initial])
  have initial (v : Group) (h : { v with settle := v.settle.tick } = ({} : Group)) : v = {} := by
    have stopped := congrArg Group.settle h
    rw [Timer.tick_eq_none] at stopped
    rw [← h]
    cases v
    cases stopped
    rfl
  have ticked := Table.get_mapCells_of_ne ({} : Group) (fun v => { v with settle := v.settle.tick }) initial g s.ann.groups listed
  have defn := congrArg Group.defn ticked
  intro undefined
  exact defined (defn.symm.trans undefined)

theorem State.groupsKnown.of_same (h : s.groupsKnown) (mode : t.mode = s.mode) (window : ∀ w, (t.window w).defn = (s.window w).defn)
    (group : ∀ g, (s.group g).defn ≠ none → (t.group g).defn ≠ none) : t.groupsKnown := fun service w d hd =>
  group _ (h (mode ▸ service) w d ((window w).symm.trans hd))

theorem groupsKnown_rows : KeptByPanelRows State.groupsKnown where
  frame := fun hs windows groups _ _ _ mode => hs.of_same mode (fun w => by rw [State.window, windows]; rfl)
    (fun g hg => by rw [State.group, groups]; exact hg)
  setMode := fun m s consistent hs service w d hd => by
    by_cases configuring : s.mode = .configuring
    · exact group_of_consistent (consistent configuring service) hd
    · exact hs configuring w d hd
  setWindow := fun w v s known hs service j d hd => by
    rw [State.setWindow_window] at hd
    split at hd
    · rcases known with same | known
      · exact hs service w d (same.symm.trans hd)
      · exact known service d hd
    · exact hs service j d hd
  setWindows := fun f s same hs service w d hd => by
    refine hs service w d ((same w).symm.trans ?_)
    rw [← hd, State.window]
    exact congrArg Window.defn (Table.get_ofFn {} f w).symm
  setGroup := fun g v s known _ hs service w d hd => by
    rw [State.setGroup_group]
    split
    · rename_i at_g
      rcases known with same | defined | unused
      · rw [same, ← at_g]; exact hs service w d hd
      · exact defined
      · exact absurd at_g ((groupInUse_eq_false s g).mp (unused service) w d hd)
    · exact hs service w d hd
  setHorn := fun _ _ _ _ hs => hs
  joinDriver := fun d s hs => hs.of_same (joinDriver_mode d s) (fun w => by rw [joinDriver_window]) (fun g hg => by rwa [joinDriver_group])
  coldReset := fun _ _ _ service => absurd rfl service
  tick := fun hs => hs.of_same rfl (fun _ => rfl) group_tick_defn
  takeDriverHead := fun hs _ => hs
  driver := fun d a s hs => by
    unfold applyDriver
    split
    · exact State.groupsKnown.of_same (s := s) hs (joinDriver_mode d _) (fun w => by rw [joinDriver_window]; rfl)
        (fun g hg => by rw [joinDriver_group]; exact hg)
    · exact hs
  join := fun _ ht _ => ht

end Sys2Proof.Machine

/-! What the operations of the Annunciation Unit leave of the windows' sequence: which change shown patterns alone, and which the
first-out states and marks besides (R61 to R69, R85 to R90). -/

namespace Sys2Proof.Machine

variable {s t u : State}

/-! ### Shown patterns alone -/

/-- Of windows, groups, horns and the mode only shown patterns differ. -/
structure State.onlyShown (s t : State) : Prop where
  mode : t.mode = s.mode
  window : ∀ w, t.window w = { s.window w with shown := (t.window w).shown }
  groups : t.ann.groups = s.ann.groups
  horns : t.ann.horns = s.ann.horns

theorem State.onlyShown.refl (s : State) : s.onlyShown s := ⟨rfl, fun _ => rfl, rfl, rfl⟩

theorem State.onlyShown.trans (h : s.onlyShown t) (k : t.onlyShown u) : s.onlyShown u :=
  ⟨k.mode.trans h.mode, fun w => by rw [k.window w, h.window w], k.groups.trans h.groups, k.horns.trans h.horns⟩

theorem joinDriver_shown (d : Fin 6) (s : State) : s.onlyShown (joinDriver d s) :=
  ⟨joinDriver_mode d s, fun w => by rw [joinDriver_window], joinDriver_groups d s, joinDriver_horns d s⟩

theorem redisplay_onlyShown (w : Fin 192) (s : State) : s.onlyShown (redisplay w s) :=
  ⟨redisplay_mode w s, fun j => by
    rw [redisplay_window]
    split
    · rename_i at_w; rw [at_w]
    · rfl, redisplay_groups w s, redisplay_horns w s⟩

theorem redisplayBoth_onlyShown (v w : Fin 192) (s : State) : s.onlyShown (redisplayBoth v w s) := by
  unfold redisplayBoth
  split
  · exact (redisplay_onlyShown v s).trans (redisplay_onlyShown w _)
  · exact (redisplay_onlyShown w s).trans (redisplay_onlyShown v _)

theorem redisplayAt_onlyShown (w : Option (Fin 192)) (s : State) : s.onlyShown (redisplayAt w s) := by
  cases w with
  | none => exact .refl s
  | some w => exact redisplay_onlyShown w s

theorem each_joinDriver_onlyShown (ds : List (Fin 6)) (s : State) : s.onlyShown (State.each ds joinDriver s) :=
  State.each_rel State.onlyShown.refl State.onlyShown.trans joinDriver_shown ds s

@[simp] theorem redisplayAll_groups (s : State) : (redisplayAll s).ann.groups = s.ann.groups :=
  (each_joinDriver_onlyShown _ _).groups
@[simp] theorem redisplayAll_horns (s : State) : (redisplayAll s).ann.horns = s.ann.horns :=
  (each_joinDriver_onlyShown _ _).horns
@[simp] theorem redisplayAll_mode (s : State) : (redisplayAll s).mode = s.mode := (redisplayAll_panel s).mode

theorem redisplayAll_onlyShown (s : State) : s.onlyShown (redisplayAll s) :=
  ⟨redisplayAll_mode s, fun w => by rw [redisplayAll_window], redisplayAll_groups s, redisplayAll_horns s⟩

theorem offer_onlyShown (o : Offer) (s : State) : s.onlyShown (offer o s) := by
  have only := offer_touches o s
  unfold State.onlyEvents at only
  rw [only]
  exact ⟨rfl, fun _ => rfl, rfl, rfl⟩

theorem phaseOnWait_onlyShown (s : State) : s.onlyShown (phaseOnWait s) := ⟨rfl, fun _ => rfl, rfl, rfl⟩

theorem lampOn_onlyShown (s : State) : s.onlyShown (lampOn s) := by
  unfold lampOn
  split
  · exact .refl s
  · have lit : s.onlyShown { s with ann := { s.ann with lampTest := true, lampTimer := some 60000 } } := ⟨rfl, fun _ => rfl, rfl, rfl⟩
    exact (lit.trans (redisplayAll_onlyShown _)).trans (phaseOnWait_onlyShown _)

theorem lampOff_onlyShown (s : State) : s.onlyShown (lampOff s) := by
  unfold lampOff
  split
  · have ended : s.onlyShown { s with ann := { s.ann with lampTest := false, lampTimer := none } } := ⟨rfl, fun _ => rfl, rfl, rfl⟩
    exact (ended.trans (redisplayAll_onlyShown _)).trans (phaseOnWait_onlyShown _)
  · exact .refl s

/-! ### First-out states, marks and shown patterns -/

/-- Of windows, groups, horns and the mode only marks, shown patterns and first-out states differ. -/
structure State.sameSequence (s t : State) : Prop where
  mode : t.mode = s.mode
  defn : ∀ w, (t.window w).defn = (s.window w).defn
  state : ∀ w, (t.window w).state = (s.window w).state
  count : ∀ w, (t.window w).count = (s.window w).count
  group : ∀ g, (t.group g).defn = (s.group g).defn
  horns : t.ann.horns = s.ann.horns

theorem State.sameSequence.refl (s : State) : s.sameSequence s := ⟨rfl, fun _ => rfl, fun _ => rfl, fun _ => rfl, fun _ => rfl, rfl⟩

theorem State.sameSequence.trans (h : s.sameSequence t) (k : t.sameSequence u) : s.sameSequence u :=
  ⟨k.mode.trans h.mode, fun w => (k.defn w).trans (h.defn w), fun w => (k.state w).trans (h.state w),
   fun w => (k.count w).trans (h.count w), fun g => (k.group g).trans (h.group g), k.horns.trans h.horns⟩

theorem State.onlyShown.sequence (h : s.onlyShown t) : s.sameSequence t :=
  ⟨h.mode, fun w => by rw [h.window w], fun w => by rw [h.window w], fun w => by rw [h.window w],
   fun g => by rw [State.group, h.groups]; rfl, h.horns⟩

theorem State.sameSequence.horn (h : s.sameSequence t) (x : Fin 4) : t.horn x = s.horn x := by
  rw [State.horn, h.horns]; rfl

theorem setMark_sequence (w : Fin 192) (m : Bool) (s : State) : s.sameSequence (setMark w m s) := by
  have here (j : Fin 192) : (setMark w m s).window j = { s.window j with mark := ((setMark w m s).window j).mark } := by
    unfold setMark
    rw [State.setWindow_window]
    split
    · rename_i at_w; rw [at_w]
    · rfl
  exact ⟨rfl, fun j => by rw [here], fun j => by rw [here], fun j => by rw [here], fun _ => rfl, rfl⟩

theorem setGroup_sequence (g : Fin 32) (v : Group) (s : State) (same : v.defn = (s.group g).defn) : s.sameSequence (s.setGroup g v) := by
  refine ⟨rfl, fun _ => rfl, fun _ => rfl, fun _ => rfl, fun k => ?_, rfl⟩
  rw [State.setGroup_group]
  split
  · rename_i at_g; rw [at_g, same]
  · rfl

theorem unmark_sequence (w : Option (Fin 192)) (s : State) : s.sameSequence (unmark w s) := by
  cases w with
  | none => exact .refl s
  | some w => exact setMark_sequence w false s

theorem moveMark_sequence (old : Option (Fin 192)) (w : Fin 192) (s : State) : s.sameSequence (moveMark old w s) :=
  (unmark_sequence old s).trans (setMark_sequence w true _)

theorem rearm_sequence (g : Fin 32) (s : State) : s.sameSequence (rearm g s) :=
  (unmark_sequence _ s).trans (setGroup_sequence g _ _ rfl)

theorem rearmAll_sequence (s : State) : s.sameSequence (rearmAll s) :=
  State.each_rel State.sameSequence.refl State.sameSequence.trans rearm_sequence _ s

theorem takeOffer_sequence (g : Fin 32) (w : Fin 192) (p : Fin 1024) (n : Nat) (s : State) : s.sameSequence (takeOffer g w p n s) := by
  have marked := moveMark_sequence (s.group g).foWindow w s
  have taken := takeOffer_taken g w p n s
  generalize takeOffer g w p n s = t at taken ⊢
  cases taken with
  | idle => exact .refl s
  | captured gd armed defined now =>
    exact (marked.trans (setGroup_sequence g _ _ (by rw [moveMark_group]))).trans (offer_onlyShown _ _).sequence
  | provisional gd armed defined later => exact marked.trans (setGroup_sequence g _ _ (by rw [moveMark_group]))
  | earlier u provisional first wins => exact marked.trans (setGroup_sequence g _ _ (by rw [moveMark_group]))

theorem offerActivation_sequence (w : Fin 192) (p : Fin 1024) (n : Nat) (s : State) : s.sameSequence (offerActivation w p n s) := by
  unfold offerActivation
  split
  · split
    · split
      · exact takeOffer_sequence _ w p n s
      · exact .refl s
    · exact .refl s
  · exact .refl s

theorem reachedDark_sequence (w : Fin 192) (s : State) : s.sameSequence (reachedDark w s) := by
  unfold reachedDark
  split
  · split
    · exact rearm_sequence _ s
    · exact .refl s
  · exact .refl s

theorem settleExpiry_sequence (g : Fin 32) (s : State) : s.sameSequence (settleExpiry g s) := by
  unfold settleExpiry
  split
  · exact (setGroup_sequence g _ s (by rfl)).trans (offer_onlyShown _ _).sequence
  · exact .refl s

/-! ### Activations and clears -/

/-- The window's sequence runs: it is defined, outside CONFIGURING. -/
theorem sequenceRuns_iff (s : State) (w : Fin 192) : sequenceRuns s w = true ↔ s.mode ≠ .configuring ∧ (s.window w).defn ≠ none := by
  unfold sequenceRuns
  rw [Bool.and_eq_true, decide_eq_true_iff, Option.isSome_iff_ne_none]

theorem countActivation_window (w j : Fin 192) (s : State) :
    (countActivation w s).window j = if j = w then { s.window w with count := (s.window w).count + 1 } else s.window j :=
  State.setWindow_window s w j _

theorem countClear_window (w j : Fin 192) (s : State) :
    (countClear w s).window j = if j = w then { s.window w with count := (s.window w).count - 1 } else s.window j :=
  State.setWindow_window s w j _

theorem countActivation_runs (w : Fin 192) (s : State) : sequenceRuns (countActivation w s) w = sequenceRuns s w := by
  unfold sequenceRuns
  rw [countActivation_window, if_pos rfl]
  rfl

theorem countClear_runs (w : Fin 192) (s : State) : sequenceRuns (countClear w s) w = sequenceRuns s w := by
  unfold sequenceRuns
  rw [countClear_window, if_pos rfl]
  rfl

/-- An activation in CONFIGURING, or of an undefined window, is counted alone (R61, R62). -/
theorem activate_of_rest {w : Fin 192} (rest : sequenceRuns s w = false) (capture : Option (Fin 1024 × Nat)) :
    activate w capture s = redisplay w (countActivation w s) := by
  unfold activate
  dsimp only
  rw [countActivation_runs, rest]
  rfl

/-- The entry of an activated window into FAST, before the offer to its group. -/
def activated (w : Fin 192) (s : State) : State := enterFast w (countActivation w s)

/-- The offer of a capturing activation (R68, R85). -/
def offeredTo (w : Fin 192) : Option (Fin 1024 × Nat) → State → State
  | some (p, n), s => offerActivation w p n s
  | none, s => s

theorem offeredTo_sequence (w : Fin 192) (capture : Option (Fin 1024 × Nat)) (s : State) : s.sameSequence (offeredTo w capture s) := by
  cases capture with
  | none => exact .refl s
  | some c => exact offerActivation_sequence w c.1 c.2 s

/-- The first-out window of a defined window's group, or the window itself. -/
def firstOutOr (w : Fin 192) (s : State) : Fin 192 :=
  match (s.window w).defn with
  | some d => (s.group d.group).foWindow.getD w
  | none => w

/-- An activation of a window whose sequence runs (R62, R64, R68). -/
theorem activate_of_runs {w : Fin 192} (runs : sequenceRuns s w = true) (capture : Option (Fin 1024 × Nat)) :
    activate w capture s = redisplayBoth (firstOutOr w s) w (offeredTo w capture (activated w s)) := by
  have first : (match ((countActivation w s).window w).defn with
      | some d => ((countActivation w s).group d.group).foWindow
      | none => none).getD w = firstOutOr w s := by
    rw [countActivation_window, if_pos rfl]
    unfold firstOutOr
    dsimp only
    cases (s.window w).defn with
    | none => rfl
    | some d => rfl
  unfold activate
  dsimp only
  rw [countActivation_runs, runs, if_pos rfl]
  rw [← first]
  cases capture with
  | none => rfl
  | some c => rfl

theorem activate_sequence {w : Fin 192} (runs : sequenceRuns s w = true) (capture : Option (Fin 1024 × Nat)) :
    (activated w s).sameSequence (activate w capture s) := by
  rw [activate_of_runs runs]
  exact (offeredTo_sequence w capture _).trans (redisplayBoth_onlyShown _ w _).sequence

theorem activate_rest_onlyShown {w : Fin 192} (rest : sequenceRuns s w = false) (capture : Option (Fin 1024 × Nat)) :
    (countActivation w s).onlyShown (activate w capture s) := by
  rw [activate_of_rest rest]
  exact redisplay_onlyShown w _

/-! ### Entries into FAST and exits from it -/

theorem hornEnter_mode (h : Option (Fin 4)) (s : State) : (hornEnter h s).mode = s.mode := (hornEnter_panel h s).mode
theorem hornExit_mode (h : Option (Fin 4)) (s : State) : (hornExit h s).mode = s.mode := (hornExit_panel h s).mode

theorem enterFast_window (w j : Fin 192) (s : State) :
    (enterFast w s).window j = if j = w then { s.window w with state := .fast } else s.window j := by
  unfold enterFast
  split
  · rename_i fast
    split
    · rename_i at_w; rw [at_w, ← fast]
    · rfl
  · rw [hornEnter_window, State.setWindow_window]

theorem enterFast_group (w : Fin 192) (s : State) (g : Fin 32) : (enterFast w s).group g = s.group g := by
  unfold enterFast
  split
  · rfl
  · rw [hornEnter_group]; rfl

theorem enterFast_mode (w : Fin 192) (s : State) : (enterFast w s).mode = s.mode := (enterFast_panel w s).mode

/-- A window's entry leaves FAST for `next`, before its group may rearm. -/
def leftFast (w : Fin 192) (next : WindowState) (s : State) : State :=
  hornExit (hornOfWindow s w) (s.setWindow w { s.window w with state := next })

theorem leaveFast_sequence (w : Fin 192) (next : WindowState) (s : State) : (leftFast w next s).sameSequence (leaveFast w next s) := by
  unfold leaveFast
  dsimp only
  split
  · exact reachedDark_sequence w _
  · exact .refl _

theorem leftFast_window (w j : Fin 192) (next : WindowState) (s : State) :
    (leftFast w next s).window j = if j = w then { s.window w with state := next } else s.window j := by
  unfold leftFast
  rw [hornExit_window, State.setWindow_window]

theorem leftFast_group (w : Fin 192) (next : WindowState) (s : State) (g : Fin 32) : (leftFast w next s).group g = s.group g := by
  unfold leftFast
  rw [hornExit_group]
  rfl

theorem goDark_sequence (w : Fin 192) (s : State) : (s.setWindow w { s.window w with state := .dark }).sameSequence (goDark w s) :=
  reachedDark_sequence w _

end Sys2Proof.Machine

/-! Every step keeps window states in agreement with active counts (R62 to R67, R77, R79, R80). -/

namespace Sys2Proof.Machine

variable {s t u : State}

/-! ### Clears -/

/-- A clear that takes the last source of a STEADY window moves it by its sequence type (R65). -/
theorem clearSource_moves {w : Fin 192} {d : WindowDef} (service : s.mode ≠ .configuring) (defined : (s.window w).defn = some d)
    (steady : (s.window w).state = .steady) (last : (s.window w).count ≤ 1) : clearSource w s = redisplay w
      (match d.sequence with
        | .manualReset => (countClear w s).setWindow w { (countClear w s).window w with state := .slow }
        | .autoReset => goDark w (countClear w s)) := by
  have runs : sequenceRuns s w = true := (sequenceRuns_iff s w).mpr ⟨service, by rw [defined]; nofun⟩
  have here : (countClear w s).window w = { s.window w with count := (s.window w).count - 1 } := by
    rw [countClear_window, if_pos rfl]
  have defn : ((countClear w s).window w).defn = some d := by rw [here]; exact defined
  have state : ((countClear w s).window w).state = .steady := by rw [here]; exact steady
  have zero : ((countClear w s).window w).count = 0 := by rw [here]; dsimp only; omega
  unfold clearSource
  dsimp only
  rw [countClear_runs, runs, state, zero]
  simp only [decide_true, Bool.and_self, if_true]
  rw [defn]
  dsimp only
  cases sequence : d.sequence with
  | manualReset => simp only
  | autoReset => simp only

/-- Any other clear is counted alone (R61, R62, R65). -/
theorem clearSource_rests {w : Fin 192} (rests : s.mode = .configuring ∨ (s.window w).defn = none ∨ (s.window w).state ≠ .steady ∨
    1 < (s.window w).count) : clearSource w s = redisplay w (countClear w s) := by
  have here : (countClear w s).window w = { s.window w with count := (s.window w).count - 1 } := by
    rw [countClear_window, if_pos rfl]
  have stays : ¬ (sequenceRuns s w && decide (((countClear w s).window w).count = 0) &&
      decide (((countClear w s).window w).state = .steady)) = true := by
    rw [here, Bool.and_eq_true, Bool.and_eq_true, sequenceRuns_iff, decide_eq_true_iff, decide_eq_true_iff]
    rintro ⟨⟨⟨service, defined⟩, zero⟩, steady⟩
    rcases rests with h | h | h | h
    · exact service h
    · exact defined h
    · exact h steady
    · dsimp only at zero; omega
  unfold clearSource
  dsimp only
  rw [countClear_runs, if_neg stays]

/-! ### Windows that agree with their counts -/

/-- A defined window's state agrees with its active count (R63). -/
def Window.agrees (v : Window) : Prop := (v.state = .steady → 0 < v.count) ∧ (v.state = .dark ∨ v.state = .slow → v.count = 0)

theorem Window.agrees_fast {v : Window} (fast : v.state = .fast) : v.agrees := by
  unfold Window.agrees
  rw [fast]
  exact ⟨nofun, fun h => h.elim nofun nofun⟩

theorem Window.agrees_zero {v : Window} (zero : v.count = 0) (left : v.state ≠ .steady) : v.agrees :=
  ⟨fun steady => absurd steady left, fun _ => zero⟩

theorem windowsSound_iff : s.windowsSound ↔ (s.mode = .configuring → ∀ w, (s.window w).state = .dark ∧ (s.window w).mark = false) ∧
    (s.mode ≠ .configuring → ∀ w, (s.window w).defn ≠ none → (s.window w).agrees) := Iff.rfl

theorem State.windowsSound.of_shown (h : s.windowsSound) (k : s.onlyShown t) : t.windowsSound := by
  refine ⟨fun configuring w => ?_, fun service w defined => ?_⟩
  · rw [k.window w]; exact h.1 (k.mode ▸ configuring) w
  · rw [k.window w] at defined ⊢; exact h.2 (k.mode ▸ service) w defined

/-- In service marks do not matter, nor groups and horns. -/
theorem State.windowsSound.of_cores (h : s.windowsSound) (service : s.mode ≠ .configuring) (mode : t.mode = s.mode)
    (defn : ∀ w, (t.window w).defn = (s.window w).defn) (state : ∀ w, (t.window w).state = (s.window w).state)
    (count : ∀ w, (t.window w).count = (s.window w).count) : t.windowsSound := by
  refine ⟨fun configuring => absurd (mode ▸ configuring) service, fun _ w defined => ?_⟩
  rw [state, count]
  exact h.2 service w (defn w ▸ defined)

theorem State.windowsSound.of_sequence (h : s.windowsSound) (service : s.mode ≠ .configuring) (k : s.sameSequence t) : t.windowsSound :=
  h.of_cores service k.mode k.defn k.state k.count

theorem State.windowsSound.of_windows (h : s.windowsSound) (mode : t.mode = s.mode) (windows : ∀ w, t.window w = s.window w) :
    t.windowsSound := by
  unfold State.windowsSound at *
  simpa only [mode, windows] using h

/-- One window changes. -/
theorem State.windowsSound.of_one (h : s.windowsSound) {w : Fin 192} {v : Window} (mode : t.mode = s.mode)
    (windows : ∀ j, t.window j = if j = w then v else s.window j)
    (rest : s.mode = .configuring → v.state = .dark ∧ v.mark = false) (agrees : s.mode ≠ .configuring → v.defn ≠ none → v.agrees) :
    t.windowsSound := by
  refine ⟨fun configuring j => ?_, fun service j defined => ?_⟩
  · rw [windows]
    split
    · exact rest (mode ▸ configuring)
    · exact h.1 (mode ▸ configuring) j
  · rw [windows] at defined ⊢
    by_cases at_w : j = w
    · rw [if_pos at_w] at defined ⊢
      exact agrees (mode ▸ service) defined
    · rw [if_neg at_w] at defined ⊢
      exact h.2 (mode ▸ service) j defined

theorem State.windowsSound.setWindow (h : s.windowsSound) (w : Fin 192) (v : Window)
    (rest : s.mode = .configuring → v.state = .dark ∧ v.mark = false) (agrees : s.mode ≠ .configuring → v.defn ≠ none → v.agrees) :
    (s.setWindow w v).windowsSound :=
  h.of_one rfl (State.setWindow_window s w · v) rest agrees

/-! ### The window sequence -/

theorem activated_window (w j : Fin 192) (s : State) : (activated w s).window j =
    if j = w then { s.window w with state := .fast, count := (s.window w).count + 1 } else s.window j := by
  unfold activated
  rw [enterFast_window, countActivation_window, if_pos rfl, countActivation_window]
  split
  · rfl
  · rfl

theorem activated_mode (w : Fin 192) (s : State) : (activated w s).mode = s.mode := enterFast_mode w _

theorem State.windowsSound.activate (h : s.windowsSound) (w : Fin 192) (capture : Option (Fin 1024 × Nat)) :
    (activate w capture s).windowsSound := by
  cases runs : sequenceRuns s w with
  | false =>
    refine State.windowsSound.of_shown ?_ (activate_rest_onlyShown runs capture)
    refine h.of_one rfl (fun j => countActivation_window w j s) (fun configuring => h.1 configuring w) fun service defined => ?_
    rw [(sequenceRuns_iff s w).mpr ⟨service, defined⟩] at runs
    cases runs
  | true =>
    have service := ((sequenceRuns_iff s w).mp runs).1
    have sound : (activated w s).windowsSound :=
      h.of_one (activated_mode w s) (fun j => activated_window w j s) (fun configuring => absurd configuring service)
        fun _ _ => Window.agrees_fast rfl
    exact sound.of_sequence (by rw [activated_mode]; exact service) (activate_sequence runs capture)

/-- A window that is not FAST and has no source left goes DARK. -/
theorem State.windowsSound.goDark (h : s.windowsSound) (service : s.mode ≠ .configuring) (w : Fin 192) (zero : (s.window w).count = 0) :
    (goDark w s).windowsSound :=
  State.windowsSound.of_sequence (h.setWindow w { s.window w with state := .dark } (fun configuring => absurd configuring service)
    fun _ _ => Window.agrees_zero zero nofun) service (goDark_sequence w s)

theorem countClear_setWindow (w : Fin 192) (v : Window) (s : State) : (countClear w s).setWindow w v = s.setWindow w v :=
  State.setWindow_setWindow s w _ v

theorem State.windowsSound.clearSource (h : s.windowsSound) (w : Fin 192) : (clearSource w s).windowsSound := by
  have here : (countClear w s).window w = { s.window w with count := (s.window w).count - 1 } := by
    rw [countClear_window, if_pos rfl]
  have counted (rests : s.mode = .configuring ∨ (s.window w).defn = none ∨ (s.window w).state ≠ .steady ∨ 1 < (s.window w).count) :
      (Machine.clearSource w s).windowsSound := by
    rw [clearSource_rests rests]
    refine State.windowsSound.of_shown ?_ (redisplay_onlyShown w _)
    refine h.of_one rfl (fun j => countClear_window w j s) (fun configuring => h.1 configuring w) fun service defined => ?_
    obtain ⟨steady, zero⟩ := h.2 service w defined
    refine ⟨fun state => ?_, fun state => ?_⟩
    · rcases rests with rests | rests | rests | more
      · exact absurd rests service
      · exact absurd rests defined
      · exact absurd state rests
      · dsimp only; omega
    · have := zero state
      dsimp only
      omega
  by_cases configuring : s.mode = .configuring
  · exact counted (.inl configuring)
  cases defined : (s.window w).defn with
  | none => exact counted (.inr (.inl defined))
  | some d =>
    by_cases steady : (s.window w).state = .steady
    · by_cases more : 1 < (s.window w).count
      · exact counted (.inr (.inr (.inr more)))
      · rw [clearSource_moves configuring defined steady (by omega)]
        refine State.windowsSound.of_shown ?_ (redisplay_onlyShown w _)
        have gone : ((countClear w s).window w).count = 0 := by rw [here]; dsimp only; omega
        cases d.sequence with
        | manualReset =>
          dsimp only
          rw [countClear_setWindow]
          exact h.setWindow w _ (fun rest => absurd rest configuring) fun _ _ => Window.agrees_zero gone nofun
        | autoReset =>
          dsimp only
          refine State.windowsSound.of_sequence (s := (countClear w s).setWindow w { (countClear w s).window w with state := .dark })
            ?_ configuring (goDark_sequence w (countClear w s))
          rw [countClear_setWindow]
          exact h.setWindow w _ (fun rest => absurd rest configuring) fun _ _ => Window.agrees_zero gone nofun
    · exact counted (.inr (.inr (.inl steady)))

theorem State.windowsSound.ackWindow (h : s.windowsSound) (service : s.mode ≠ .configuring) (w : Fin 192) :
    (ackWindow w s).windowsSound := by
  unfold Machine.ackWindow
  split
  · split
    · rename_i d _
      refine State.windowsSound.of_shown ?_ (redisplay_onlyShown w _)
      have left : (leftFast w (if 0 < (s.window w).count then .steady else match d.sequence with
          | .manualReset => .slow
          | .autoReset => .dark) s).windowsSound := by
        refine h.of_one (hornExit_mode _ _) (fun j => leftFast_window w j _ s) (fun rest => absurd rest service) fun _ _ => ?_
        split
        · rename_i more
          exact ⟨fun _ => more, fun rest => rest.elim nofun nofun⟩
        · refine Window.agrees_zero (by dsimp only; omega) ?_
          cases d.sequence with
          | manualReset => exact nofun
          | autoReset => exact nofun
      exact left.of_sequence (by rw [leftFast, hornExit_mode]; exact service) (leaveFast_sequence w _ s)
    · exact h
  · exact h

theorem State.windowsSound.resetWindow (h : s.windowsSound) (service : s.mode ≠ .configuring) (w : Fin 192)
    (defined : (s.window w).defn ≠ none) : (resetWindow w s).windowsSound := by
  unfold Machine.resetWindow
  split
  · rename_i slow
    exact (h.goDark service w ((h.2 service w defined).2 (.inr slow))).of_shown (redisplay_onlyShown w _)
  · exact h

end Sys2Proof.Machine

/-! What the whole-unit changes of the Annunciation Unit make of its windows, groups and horns (R77, R79, R80, R98, R99). -/

namespace Sys2Proof.Machine

variable {s t : State}

/-- Updates of one entry each, that may be made twice, reach the entries listed. -/
theorem State.each_updates {ι α : Type} [DecidableEq ι] {f : ι → State → State} {get : State → ι → α} {φ : α → α}
    (updates : ∀ i j s, get (f i s) j = if j = i then φ (get s i) else get s j) (twice : ∀ v, φ (φ v) = φ v) (is : List ι) (s : State)
    (j : ι) : get (State.each is f s) j = if j ∈ is then φ (get s j) else get s j := by
  induction is generalizing s with
  | nil => rfl
  | cons i is ih =>
    rw [State.each_cons, ih, updates]
    by_cases same : j = i
    · subst same
      simp [twice]
    · simp [same]

/-! ### Horns -/

/-- A horn at rest (R98). -/
def Horn.quieted (v : Horn) : Horn := { v with state := .quiet, fastCount := 0 }

theorem quietHorns_horn (s : State) (h : Fin 4) : (quietHorns s).horn h = (s.horn h).quieted := by
  have all := State.each_updates (get := State.horn) (φ := Horn.quieted) (fun i j s => putHorn_horn i j _ s) (fun _ => rfl)
    (List.finRange 4) s h
  rw [if_pos (List.mem_finRange h)] at all
  exact all

theorem each_putHorn_window (f : State → Fin 4 → Horn) (hs : List (Fin 4)) (s : State) (w : Fin 192) :
    (State.each hs (fun h s => putHorn h (f s h) s) s).window w = s.window w :=
  State.each_keeps (P := fun u => u.window w = s.window w) (fun _ _ same => (putHorn_window _ _ _ w).trans same) hs s rfl

theorem each_putHorn_group (f : State → Fin 4 → Horn) (hs : List (Fin 4)) (s : State) (g : Fin 32) :
    (State.each hs (fun h s => putHorn h (f s h) s) s).group g = s.group g :=
  State.each_keeps (P := fun u => u.group g = s.group g) (fun _ _ same => (putHorn_group _ _ _ g).trans same) hs s rfl

theorem quietHorns_window (s : State) (w : Fin 192) : (quietHorns s).window w = s.window w :=
  each_putHorn_window (fun s h => { s.horn h with state := .quiet, fastCount := 0 }) _ s w

theorem quietHorns_group (s : State) (g : Fin 32) : (quietHorns s).group g = s.group g :=
  each_putHorn_group (fun s h => { s.horn h with state := .quiet, fastCount := 0 }) _ s g

/-! ### Groups -/

/-- A group returned to ARMED keeps its definition and its captured event time (R90). -/
def Group.rearmed (v : Group) : Group := { v with state := .armed, foWindow := none, foPoint := none, settle := none }

theorem rearmAll_group (s : State) (g : Fin 32) : (rearmAll s).group g = (s.group g).rearmed := by
  have listed := State.each_updates (get := State.group) (φ := Group.rearmed) (fun i j s => rearm_group i j s) (fun _ => rfl)
    (Table.keys s.ann.groups) s g
  refine listed.trans ?_
  split
  · rfl
  · rename_i unlisted
    have initial : s.group g = {} := not_not.mp fun other => unlisted (Table.mem_keys_of_get_ne other)
    rw [initial]
    rfl

/-- A group that rearms can take a mark away and does nothing else to a window. -/
theorem rearm_unmarks (g : Fin 32) (s : State) (w : Fin 192) :
    (rearm g s).window w = { s.window w with mark := (s.window w).mark && ((rearm g s).window w).mark } := by
  rw [rearm_window]
  split
  · simp
  · simp

theorem rearmAll_unmarks (s : State) (w : Fin 192) :
    (rearmAll s).window w = { s.window w with mark := (s.window w).mark && ((rearmAll s).window w).mark } := by
  refine State.each_rel (R := fun s t => t.window w = { s.window w with mark := (s.window w).mark && (t.window w).mark })
    (fun s => by simp) (fun {s t u} h k => ?_) (fun g s => rearm_unmarks g s w) _ s
  rw [k, h]
  simp [Bool.and_assoc]

theorem rearmAll_window_of_unmarked {w : Fin 192} (unmarked : (s.window w).mark = false) : (rearmAll s).window w = s.window w := by
  rw [rearmAll_unmarks, unmarked, Bool.false_and, ← unmarked]

/-! ### Lamp test -/

@[simp] theorem lampEnds_window (s : State) (w : Fin 192) : (lampEnds s).window w = s.window w := by unfold lampEnds; split <;> rfl
@[simp] theorem lampEnds_group (s : State) (g : Fin 32) : (lampEnds s).group g = s.group g := by unfold lampEnds; split <;> rfl
@[simp] theorem lampEnds_horn (s : State) (h : Fin 4) : (lampEnds s).horn h = s.horn h := by unfold lampEnds; split <;> rfl
theorem lampEnds_mode (s : State) : (lampEnds s).mode = s.mode := (lampEnds_panel s).mode
theorem lampEnds_lampTest (s : State) : (lampEnds s).ann.lampTest = false := by
  unfold lampEnds
  split
  · rfl
  · rename_i off; exact eq_false_of_ne_true off

/-! ### Windows that rest, and windows that return -/

/-- What both whole-unit returns make of the unit: windows set, groups ARMED, horns QUIET, lamp test ended (R77, R80, R98, R99). -/
def panelAtRest (f : Window → WindowState) (s : State) : State := lampEnds (quietHorns (rearmAll (setWindowStates f s)))

theorem annEnterConfiguring_eq (s : State) : annEnterConfiguring s = redisplayAll (panelAtRest (fun _ => .dark) s) := rfl
theorem annRestart_eq (s : State) : annRestart s =
    phaseOnWait (redisplayAll (panelAtRest (fun v => if v.defn.isSome ∧ 0 < v.count then .steady else .dark) s)) := rfl

theorem setWindowStates_window (f : Window → WindowState) (s : State) (w : Fin 192) :
    (setWindowStates f s).window w = { s.window w with state := f (s.window w), mark := false } :=
  Table.get_ofFn ({} : Window) (fun w => ({ s.window w with state := f (s.window w), mark := false } : Window)) w

theorem panelAtRest_window (f : Window → WindowState) (s : State) (w : Fin 192) :
    (panelAtRest f s).window w = { s.window w with state := f (s.window w), mark := false } := by
  have set := setWindowStates_window f s w
  rw [panelAtRest, lampEnds_window, quietHorns_window, rearmAll_window_of_unmarked (by rw [set]), set]

theorem panelAtRest_group (f : Window → WindowState) (s : State) (g : Fin 32) : (panelAtRest f s).group g = (s.group g).rearmed := by
  rw [panelAtRest, lampEnds_group, quietHorns_group, rearmAll_group]
  rfl

theorem panelAtRest_horn (f : Window → WindowState) (s : State) (h : Fin 4) : (panelAtRest f s).horn h = (s.horn h).quieted := by
  rw [panelAtRest, lampEnds_horn, quietHorns_horn, State.horn, (rearmAll_sequence _).horns]
  rfl

theorem panelAtRest_mode (f : Window → WindowState) (s : State) : (panelAtRest f s).mode = s.mode :=
  (lampEnds_mode _).trans ((quietHorns_panel _).mode.trans (rearmAll_panel (setWindowStates f s)).mode)

theorem redisplayAll_lampTest (s : State) : (redisplayAll s).ann.lampTest = s.ann.lampTest :=
  State.each_keeps (P := fun u => u.ann.lampTest = s.ann.lampTest) (fun d u same => (joinDriver_lampTest d u).trans same) _ _ rfl

theorem redisplayAll_derived (s : State) (w : Fin 192) : derivedPattern (redisplayAll s) w = derivedPattern s w :=
  derivedPattern_congr (redisplayAll_mode s) (redisplayAll_lampTest s) (by rw [redisplayAll_window]) (by rw [redisplayAll_window])
    (by rw [redisplayAll_window])

/-! ### Entry into RUN -/

/-- A window with active sources goes FAST at the entry into RUN (R79). -/
def Window.alarmed (v : Window) : Window := if 0 < v.count then { v with state := .fast } else v

theorem Window.alarmed_alarmed (v : Window) : v.alarmed.alarmed = v.alarmed := by
  unfold Window.alarmed
  split
  · rfl
  · rfl

/-- The entries into FAST of the entry into RUN. -/
def entriesIntoFast (s : State) : State :=
  State.each s.definedWindows (fun w s => if 0 < (s.window w).count then enterFast w s else s) s

theorem annEnterRun_eq (s : State) : annEnterRun s = redisplayAll (entriesIntoFast s) := rfl

theorem entryIntoFast_window (w j : Fin 192) (s : State) : State.window (if 0 < (s.window w).count then enterFast w s else s) j =
    if j = w then (s.window w).alarmed else s.window j := by
  unfold Window.alarmed
  split
  · exact enterFast_window w j s
  · split
    · rename_i at_w; rw [at_w]
    · rfl

theorem entriesIntoFast_window (s : State) (w : Fin 192) :
    (entriesIntoFast s).window w = if (s.window w).defn.isSome = true then (s.window w).alarmed else s.window w := by
  have all := State.each_updates (get := State.window) (φ := Window.alarmed) entryIntoFast_window Window.alarmed_alarmed
    s.definedWindows s w
  simp only [mem_definedWindows] at all
  exact all

theorem entriesIntoFast_mode (s : State) : (entriesIntoFast s).mode = s.mode := by
  refine State.each_keeps (P := fun u => u.mode = s.mode) (fun w u same => ?_) _ s rfl
  split
  · exact (enterFast_mode w u).trans same
  · exact same

end Sys2Proof.Machine

/-! Properties of the Annunciation Unit's windows, groups, horns and lamp test, of which the table writes may need further premises:
what keeps them in every step. -/

namespace Sys2Proof.Machine

theorem State.each_keeps_on {ι : Type} {P : State → Prop} {f : ι → State → State} {is : List ι} {s : State}
    (hf : ∀ i s, i ∈ is → P s → P (f i s)) (h : P s) : P (State.each is f s) := by
  induction is generalizing s with
  | nil => exact h
  | cons i is ih => exact ih (fun j u hj => hf j u (List.mem_cons_of_mem i hj)) (hf i s List.mem_cons_self h)

theorem setWindow_sameDefn {s : State} {w : Fin 192} {v : Window} (same : v.defn = (s.window w).defn) (j : Fin 192) :
    ((s.setWindow w v).window j).defn = (s.window j).defn := by
  rw [State.setWindow_window]
  split
  · rename_i at_w; rw [at_w, same]
  · rfl

theorem resetWindow_defn (w j : Fin 192) (s : State) : ((resetWindow w s).window j).defn = (s.window j).defn := by
  unfold resetWindow
  split
  · rw [(redisplay_onlyShown w _).sequence.defn, (goDark_sequence w s).defn]
    exact setWindow_sameDefn (v := { s.window w with state := .dark }) rfl j
  · rfl

/-- `P` sees windows, groups, horns, lamp test and mode alone, and deliveries to windows keep it. -/
structure KeptByAlarms (P : State → Prop) : Prop where
  seen : ∀ {s t : State}, P s → t.ann.windows = s.ann.windows → t.ann.groups = s.ann.groups → t.ann.horns = s.ann.horns →
    t.ann.lampTest = s.ann.lampTest → t.mode = s.mode → P t
  activate : ∀ (w : Fin 192) (capture : Option (Fin 1024 × Nat)) {s : State}, P s → P (activate w capture s)
  clearSource : ∀ (w : Fin 192) {s : State}, P s → P (clearSource w s)

/-- The operations of the Annunciation Unit other than its timers and its table writes keep `P` too. -/
structure KeptByUnit (P : State → Prop) : Prop extends KeptByAlarms P where
  setHorn : ∀ (h : Fin 4) (v : Horn) {s : State}, v.fastCount = (s.horn h).fastCount → P s → P (s.setHorn h v)
  ackWindow : ∀ (w : Fin 192) {s : State}, s.mode ≠ .configuring → P s → P (ackWindow w s)
  resetWindow : ∀ (w : Fin 192) {s : State}, s.mode ≠ .configuring → (s.window w).defn ≠ none → P s → P (resetWindow w s)
  settleExpiry : ∀ (g : Fin 32) {s : State}, P s → P (settleExpiry g s)
  lampOn : ∀ {s : State}, P s → P (lampOn s)
  lampOff : ∀ {s : State}, P s → P (lampOff s)
  coldReset : ∀ (ads : BitVec 8) (rsa rsb : BitVec 2), P (State.coldReset ads rsa rsb)
  setMode : ∀ (m : Mode) {s : State}, s.mode ≠ .configuring → m ≠ .configuring → P s → P { s with mode := m }
  runEntered : ∀ {s : State}, s.mode = .configuring → consistencyFailure s = none → P s → P (runEntered s)
  configuringEntered : ∀ {s : State}, s.mode ≠ .configuring → P s → P (configuringEntered s)
  restart : ∀ {s : State}, s.mode ≠ .configuring → P s → P (restartAnnunciation s)

namespace KeptByAlarms

variable {P : State → Prop} (h : KeptByAlarms P) {s t : State}

include h

theorem ofAnn (hs : P s) (ann : t.ann = s.ann) (mode : t.mode = s.mode) : P t :=
  h.seen hs (by rw [ann]) (by rw [ann]) (by rw [ann]) (by rw [ann]) mode

theorem ofTrip (hs : P s) (ann : t.ann = s.ann) (_ : t.events = s.events) (mode : t.mode = s.mode) : P t := h.ofAnn hs ann mode

theorem ofEvents (only : s.onlyEvents t) (hs : P s) : P t := by
  unfold State.onlyEvents at only
  exact h.ofAnn hs (by rw [only]) (by rw [only])

theorem deliveries : KeptByDeliveries P where
  frame := fun hs ann _ _ mode => h.ofAnn hs ann mode
  offer := fun o _ hs => h.ofEvents (offer_touches o _) hs
  activate := h.activate
  clearSource := h.clearSource
  setChannel := fun _ hs => h.ofAnn hs rfl rfl
  setOutputModule := fun _ hs => h.ofAnn hs rfl rfl
  joinTrip := fun k s hs => by
    have only := joinTrip_touches k s
    exact h.ofAnn hs (joinTrip_ann k s) (by unfold State.onlyChannels at only; rw [only])
  judgeLine := fun k s hs => by
    unfold Machine.judgeLine
    split
    · exact h.ofAnn hs rfl rfl
    · exact h.ofAnn hs rfl rfl

end KeptByAlarms

namespace KeptByUnit

variable {P Q : State → Prop} (h : KeptByUnit P) {s t : State}

include h

theorem joinDriver (d : Fin 6) (hs : P s) : P (joinDriver d s) := by
  unfold Machine.joinDriver
  split
  · exact h.seen hs rfl rfl rfl rfl rfl
  · exact hs

theorem ackGroup (g : Fin 32) (origin : Nat) (hs : P s) : P (ackGroup g origin s) := by
  unfold Machine.ackGroup
  split
  · exact hs
  · rename_i service
    refine h.deliveries.offer _ (State.each_keeps (P := fun u => u.mode ≠ .configuring ∧ P u) (fun w u hu => ⟨?_, ?_⟩) (windowsOf s g) s
      ⟨service, hs⟩).2
    · rw [(ackWindow_panel w u).mode]; exact hu.1
    · exact h.ackWindow w hu.1 hu.2

theorem resetGroup (g : Fin 32) (hs : P s) : P (resetGroup g s) := by
  unfold Machine.resetGroup
  split
  · exact hs
  · rename_i service
    have kept : P (State.each (windowsOf s g) Machine.resetWindow s) := by
      refine (State.each_keeps_on (P := fun u => u.mode ≠ .configuring ∧ (∀ w, (u.window w).defn = (s.window w).defn) ∧ P u)
        (fun w u listed hu => ?_) ⟨service, fun _ => rfl, hs⟩).2.2
      obtain ⟨mode, defn, hu⟩ := hu
      obtain ⟨d, defined, -⟩ := (mem_windowsOf s g w).mp listed
      exact ⟨by rw [(resetWindow_panel w u).mode]; exact mode, fun j => (resetWindow_defn w j u).trans (defn j),
        h.resetWindow w mode (by rw [defn, defined]; nofun) hu⟩
    exact h.deliveries.offer _ kept

theorem silenceHorn (x : Fin 4) (hs : P s) : P (silenceHorn x s) := by
  have silenced : P (s.setHorn x { s.horn x with state := .silenced }) := h.setHorn x _ rfl hs
  unfold Machine.silenceHorn Machine.putHorn
  split
  · split
    · exact h.deliveries.offer _ silenced
    · exact h.deliveries.offer _ (h.seen silenced rfl rfl rfl rfl rfl)
  · exact hs

theorem windowRefreshExpiry (hs : P s) : P (windowRefreshExpiry s) := by
  have restarted : P { s with ann := { s.ann with refresh := some 250 } } := h.seen hs rfl rfl rfl rfl rfl
  unfold Machine.windowRefreshExpiry
  split
  · exact State.each_keeps (fun d _ => h.joinDriver d) _ _ restarted
  · exact hs

theorem applyDriver (d : Fin 6) (a : Option Nat) (hs : P s) : P (applyDriver d a s) := by
  unfold Machine.applyDriver
  split
  · rename_i a
    have addressed : P (s.setDriver d (some a)) := h.seen hs rfl rfl rfl rfl rfl
    exact h.joinDriver d addressed
  · exact h.seen hs rfl rfl rfl rfl rfl

theorem joinAscending (before : List (Fin 6)) (hs : P s) : P (joinAscending before s) := h.seen hs rfl rfl rfl rfl rfl

theorem enterTest (run : s.mode = .run) (hs : P s) : P (enterTest s) := by
  have tested : P { s with mode := .test } := h.setMode .test (by rw [run]; nofun) nofun hs
  exact h.deliveries.joinTripAll (h.deliveries.judgeLines (h.deliveries.offerNow _ _ _ _ _ tested))

theorem leaveTest (test : s.mode = .test) (hs : P s) : P (leaveTest s) := by
  have running : P { s with mode := .run } := h.setMode .run (by rw [test]; nofun) nofun hs
  have left : P (testLeft s) := h.deliveries.exitTest (h.deliveries.clearForces (h.deliveries.offerNow _ _ _ _ _ running))
  exact h.joinAscending s.ann.waiting left

theorem enterRun (configuring : s.mode = .configuring) (consistent : consistencyFailure s = none) (hs : P s) : P (enterRun s) :=
  h.joinAscending s.ann.waiting (h.runEntered configuring consistent hs)

theorem enterConfiguring (service : s.mode ≠ .configuring) (hs : P s) : P (enterConfiguring s) :=
  h.joinAscending s.ann.waiting (h.configuringEntered service hs)

/-- With the timers and the table writes, which may use what another property says of the state, every row keeps `P`. -/
theorem rows_given (rows : KeptByRows Q)
    (tick : ∀ {s : State}, Q s → P s → P { s with ann := s.ann.tick })
    (windowWrite : ∀ (w : Fin 192) (d : WindowDef) {s : State}, (s.mode ≠ .configuring → (s.group d.group).defn ≠ none) → Q s → P s →
      P (applyWindowWrite w d s))
    (windowClear : ∀ (w : Fin 192) {s : State}, Q s → P s → P (applyWindowClear w s))
    (groupWrite : ∀ (g : Fin 32) (d : GroupDef) {s : State}, Q s → P s → P (applyGroupWrite g d s))
    (groupClear : ∀ (g : Fin 32) {s : State}, (s.mode ≠ .configuring → groupInUse s g = false) → Q s → P s → P (s.setGroup g {})) :
    KeptByRows (fun s => Q s ∧ P s) where
  frame := fun hs ann trip events mode => ⟨rows.frame hs.1 ann trip events mode, h.ofAnn hs.2 ann mode⟩
  offer := fun o _ hs => ⟨rows.offer o hs.1, h.deliveries.offer o hs.2⟩
  activate := fun w capture _ hs => ⟨rows.activate w capture hs.1, h.activate w capture hs.2⟩
  clearSource := fun w _ hs => ⟨rows.clearSource w hs.1, h.clearSource w hs.2⟩
  setChannel := fun same hs => ⟨rows.setChannel same hs.1, h.deliveries.setChannel same hs.2⟩
  setOutputModule := fun same hs => ⟨rows.setOutputModule same hs.1, h.deliveries.setOutputModule same hs.2⟩
  joinTrip := fun k _ hs => ⟨rows.joinTrip k hs.1, h.deliveries.joinTrip k hs.2⟩
  judgeLine := fun k _ hs => ⟨rows.judgeLine k hs.1, h.deliveries.judgeLine k hs.2⟩
  coldReset := fun ads rsa rsb => ⟨rows.coldReset ads rsa rsb, h.coldReset ads rsa rsb⟩
  resetnHeldLow := fun hs => ⟨rows.resetnHeldLow hs.1, h.ofAnn hs.2 rfl rfl⟩
  localTick := fun hs => ⟨rows.localTick hs.1, h.ofAnn (tick hs.1 hs.2) rfl rfl⟩
  takeTripHead := fun hs head => ⟨rows.takeTripHead hs.1 head, h.ofAnn hs.2 rfl rfl⟩
  takeDriverHead := fun hs head => ⟨rows.takeDriverHead hs.1 head, h.seen hs.2 rfl rfl rfl rfl rfl⟩
  setPhaseWaiting := fun b _ hs => ⟨rows.setPhaseWaiting b hs.1, h.seen hs.2 rfl rfl rfl rfl rfl⟩
  removeEvents := fun hs => ⟨rows.removeEvents hs.1, h.ofEvents (removeEvents_touches _) hs.2⟩
  batchExpiry := fun hs => ⟨rows.batchExpiry hs.1, h.ofEvents (batchExpiry_touches _) hs.2⟩
  settleExpiry := fun g _ hs => ⟨rows.settleExpiry g hs.1, h.settleExpiry g hs.2⟩
  windowRefreshExpiry := fun hs => ⟨rows.windowRefreshExpiry hs.1, h.windowRefreshExpiry hs.2⟩
  restartPhase := fun hs => ⟨rows.restartPhase hs.1, h.seen hs.2 rfl rfl rfl rfl rfl⟩
  tripRefresh := fun hs => ⟨rows.tripRefresh hs.1, h.ofAnn hs.2 rfl rfl⟩
  windowWrite := fun w d _ known hs => ⟨rows.windowWrite w d known hs.1, windowWrite w d known hs.1 hs.2⟩
  windowClear := fun w _ hs => ⟨rows.windowClear w hs.1, windowClear w hs.1 hs.2⟩
  driver := fun d a _ hs => ⟨rows.driver d a hs.1, h.applyDriver d a hs.2⟩
  groupWrite := fun g d _ hs => ⟨rows.groupWrite g d hs.1, groupWrite g d hs.1 hs.2⟩
  groupClear := fun g _ unused hs => ⟨rows.groupClear g unused hs.1, groupClear g unused hs.1 hs.2⟩
  hornSound := fun x v _ hs => ⟨rows.hornSound x v hs.1, h.setHorn x _ rfl hs.2⟩
  setPattern := fun i v _ hs => ⟨rows.setPattern i v hs.1, h.seen hs.2 rfl rfl rfl rfl rfl⟩
  output := fun k address timeout _ hs =>
    ⟨rows.output k address timeout hs.1, h.deliveries.applyOutput_offTrip h.ofTrip k address timeout hs.2⟩
  channelWrite := fun c d _ hs => ⟨rows.channelWrite c d hs.1, h.deliveries.applyChannelWrite_offTrip h.ofTrip c d hs.2⟩
  channelClear := fun c _ hs => ⟨rows.channelClear c hs.1, h.deliveries.applyChannelClear_offTrip h.ofTrip c hs.2⟩
  enterRun := fun configuring consistent hs => ⟨rows.enterRun configuring consistent hs.1, h.enterRun configuring consistent hs.2⟩
  enterTest := fun run hs => ⟨rows.enterTest run hs.1, h.enterTest run hs.2⟩
  leaveTest := fun test hs => ⟨rows.leaveTest test hs.1, h.leaveTest test hs.2⟩
  enterConfiguring := fun service hs => ⟨rows.enterConfiguring service hs.1, h.enterConfiguring service hs.2⟩
  restart := fun service hs => ⟨rows.restart service hs.1, h.restart service hs.2⟩
  ack := fun g origin _ hs => ⟨rows.ack g origin hs.1, h.ackGroup g origin hs.2⟩
  reset := fun g _ hs => ⟨rows.reset g hs.1, h.resetGroup g hs.2⟩
  silence := fun x _ hs => ⟨rows.silence x hs.1, h.silenceHorn x hs.2⟩
  lampOn := fun hs => ⟨rows.lampOn hs.1, h.lampOn hs.2⟩
  lampOff := fun hs => ⟨rows.lampOff hs.1, h.lampOff hs.2⟩

end KeptByUnit

end Sys2Proof.Machine

/-! Every step keeps window states in agreement with active counts (R62 to R67, R77, R79, R80). -/

namespace Sys2Proof.Machine

variable {s t u : State}

/-- Every property follows from nothing, to be used where no premise is needed. -/
theorem true_rows : KeptByPanelRows (fun _ => True) where
  frame := fun _ _ _ _ _ _ _ => trivial
  setMode := fun _ _ _ _ => trivial
  setWindow := fun _ _ _ _ _ => trivial
  setWindows := fun _ _ _ _ => trivial
  setGroup := fun _ _ _ _ _ _ => trivial
  setHorn := fun _ _ _ _ _ => trivial
  joinDriver := fun _ _ _ => trivial
  coldReset := fun _ _ _ => trivial
  tick := fun _ => trivial
  takeDriverHead := fun _ _ => trivial
  driver := fun _ _ _ _ => trivial
  join := fun _ _ _ => trivial

/-! ### A window's write, cut into its parts (R60) -/

/-- The group that a window leaves, or in which it is eligible no more, rearms where it was its first-out window. -/
def rearmedFor (w : Fin 192) (old d : WindowDef) (s : State) : State :=
  if (s.window w).mark ∧ (old.group ≠ d.group ∨ d.eligible = false) then rearm old.group s else s

/-- A SLOW window goes DARK with AUTO_RESET. -/
def darkened (w : Fin 192) (d : WindowDef) (s : State) : State :=
  if (s.window w).state = .slow ∧ d.sequence = .autoReset then goDark w s else s

/-- A FAST window that changes its group hands its entry over from horn to horn. -/
def hornMoved (w : Fin 192) (old d : WindowDef) (s : State) : State :=
  if (s.window w).state = .fast ∧ old.group ≠ d.group then hornEnter (hornOfGroup s d.group) (hornExit (hornOfGroup s old.group) s) else s

/-- The window with its new definition. -/
def redefined (w : Fin 192) (old d : WindowDef) (s : State) : State :=
  (rearmedFor w old d s).setWindow w { (rearmedFor w old d s).window w with defn := some d }

theorem rewriteWindow_eq (w : Fin 192) (old d : WindowDef) (s : State) : rewriteWindow w old d s =
    redisplayBoth ((s.group old.group).foWindow.getD w) w (hornMoved w old d (darkened w d (redefined w old d s))) := rfl

theorem rearmedFor_sequence (w : Fin 192) (old d : WindowDef) (s : State) : s.sameSequence (rearmedFor w old d s) := by
  unfold rearmedFor
  split
  · exact rearm_sequence _ s
  · exact .refl s

theorem redefined_window (w j : Fin 192) (old d : WindowDef) (s : State) : (redefined w old d s).window j =
    if j = w then { (rearmedFor w old d s).window w with defn := some d } else (rearmedFor w old d s).window j :=
  State.setWindow_window _ w j _

theorem hornMoved_window (w j : Fin 192) (old d : WindowDef) (s : State) : (hornMoved w old d s).window j = s.window j := by
  unfold hornMoved
  split
  · rw [hornEnter_window, hornExit_window]
  · rfl

theorem hornMoved_mode (w : Fin 192) (old d : WindowDef) (s : State) : (hornMoved w old d s).mode = s.mode := by
  unfold hornMoved
  split
  · rw [hornEnter_mode, hornExit_mode]
  · rfl

/-- The parts of a window's clear in service. -/
def unmarkedFor (w : Fin 192) (old : WindowDef) (s : State) : State := if (s.window w).mark then rearm old.group s else s

def hornLeft (old : WindowDef) (x : WindowState) (s : State) : State :=
  if x = .fast then hornExit (hornOfGroup s old.group) s else s

/-- A cleared window (R60). -/
def Window.undefine (v : Window) : Window := { v with defn := none, state := .dark, mark := false }

theorem applyWindowClear_service {w : Fin 192} {old : WindowDef} (service : s.mode ≠ .configuring) (defined : (s.window w).defn = some old) :
    applyWindowClear w s = redisplayBoth ((s.group old.group).foWindow.getD w) w
      ((hornLeft old (s.window w).state (unmarkedFor w old s)).setWindow w
        ((hornLeft old (s.window w).state (unmarkedFor w old s)).window w).undefine) := by
  unfold applyWindowClear
  dsimp only
  split
  · rename_i undefined; rw [defined] at undefined; cases undefined
  · rename_i d hd
    rw [defined] at hd
    cases hd
    rw [if_neg service]
    rfl

theorem unmarkedFor_sequence (w : Fin 192) (old : WindowDef) (s : State) : s.sameSequence (unmarkedFor w old s) := by
  unfold unmarkedFor
  split
  · exact rearm_sequence _ s
  · exact .refl s

theorem hornLeft_window (j : Fin 192) (old : WindowDef) (x : WindowState) (s : State) : (hornLeft old x s).window j = s.window j := by
  unfold hornLeft
  split
  · rw [hornExit_window]
  · rfl

theorem hornLeft_mode (old : WindowDef) (x : WindowState) (s : State) : (hornLeft old x s).mode = s.mode := by
  unfold hornLeft
  split
  · rw [hornExit_mode]
  · rfl

/-! ### A group's write -/

/-- The rearming of a written group that is first-out no more (R84). -/
def disarmed (g : Fin 32) (d : GroupDef) (marked : Option (Fin 192)) (s : State) : State :=
  if d.firstOut = false ∧ (s.group g).state ≠ .armed then redisplayAt marked (rearm g s) else s

/-- The group with its new definition, rearmed where it is first-out no more. -/
def regrouped (g : Fin 32) (d : GroupDef) (s : State) : State :=
  disarmed g d (s.group g).foWindow (s.setGroup g { s.group g with defn := some d })

theorem rewriteGroup_eq (g : Fin 32) (old d : GroupDef) (s : State) : rewriteGroup g old d s =
    if old.horn = d.horn then regrouped g d s
    else State.each (windowsOf (regrouped g d s) g) (moveHorn old.horn d.horn) (regrouped g d s) := rfl

theorem disarmed_sequence (g : Fin 32) (d : GroupDef) (marked : Option (Fin 192)) (s : State) : s.sameSequence (disarmed g d marked s) := by
  unfold disarmed
  split
  · exact (rearm_sequence g s).trans (redisplayAt_onlyShown marked _).sequence
  · exact .refl s

theorem moveHorn_window (old new : Option (Fin 4)) (w j : Fin 192) (s : State) : (moveHorn old new w s).window j = s.window j := by
  unfold moveHorn
  split
  · rw [hornEnter_window, hornExit_window]
  · rfl

theorem each_moveHorn_window (old new : Option (Fin 4)) (ws : List (Fin 192)) (s : State) (j : Fin 192) :
    (State.each ws (moveHorn old new) s).window j = s.window j :=
  State.each_keeps (P := fun u => u.window j = s.window j) (fun w u same => (moveHorn_window old new w j u).trans same) ws s rfl

theorem rewriteGroup_mode (g : Fin 32) (old d : GroupDef) (s : State) : (rewriteGroup g old d s).mode = s.mode :=
  (rewriteGroup_panel g old d s).mode

/-- A written group keeps the definition, state and count of every window. -/
theorem rewriteGroup_cores (g : Fin 32) (old d : GroupDef) (s : State) (w : Fin 192) :
    ((rewriteGroup g old d s).window w).defn = (s.window w).defn ∧ ((rewriteGroup g old d s).window w).state = (s.window w).state ∧
      ((rewriteGroup g old d s).window w).count = (s.window w).count := by
  have kept := disarmed_sequence g d (s.group g).foWindow (s.setGroup g { s.group g with defn := some d })
  have windows : (rewriteGroup g old d s).window w = (regrouped g d s).window w := by
    rw [rewriteGroup_eq]
    split
    · rfl
    · exact each_moveHorn_window _ _ _ _ w
  rw [windows]
  exact ⟨kept.defn w, kept.state w, kept.count w⟩

/-! ### The property -/

theorem State.windowsSound.seen (h : s.windowsSound) (windows : t.ann.windows = s.ann.windows) (mode : t.mode = s.mode) :
    t.windowsSound := h.of_windows mode fun w => by rw [State.window, windows]; rfl

/-- Right after the entry into RUN no window is STEADY or SLOW (R79). -/
def State.enteringRun (s : State) : Prop := s.mode = .run ∧ ∀ w, (s.window w).state = .dark ∨ (s.window w).state = .fast

theorem State.enteringRun.of_cores (h : s.enteringRun) (mode : t.mode = s.mode) (state : ∀ w, (t.window w).state = (s.window w).state) :
    t.enteringRun := ⟨mode.trans h.1, fun w => by rw [state]; exact h.2 w⟩

theorem countActivation_state (w j : Fin 192) (s : State) : ((countActivation w s).window j).state = (s.window j).state := by
  rw [countActivation_window]
  split
  · rename_i at_w; rw [at_w]
  · rfl

theorem countClear_state (w j : Fin 192) (s : State) : ((countClear w s).window j).state = (s.window j).state := by
  rw [countClear_window]
  split
  · rename_i at_w; rw [at_w]
  · rfl

theorem enteringRun_alarms : KeptByAlarms State.enteringRun where
  seen := fun hs windows _ _ _ mode => hs.of_cores mode fun w => by rw [State.window, windows]; rfl
  activate := fun w capture s hs => by
    cases runs : sequenceRuns s w with
    | false =>
      have only := (activate_rest_onlyShown runs capture).sequence
      exact hs.of_cores only.mode fun j => (only.state j).trans (countActivation_state w j s)
    | true =>
      have only := activate_sequence runs capture
      refine ⟨only.mode.trans ((activated_mode w s).trans hs.1), fun j => ?_⟩
      rw [only.state, activated_window]
      split
      · exact .inr rfl
      · exact hs.2 j
  clearSource := fun w s hs => by
    have away : (s.window w).state ≠ .steady := by
      rcases hs.2 w with dark | fast
      · rw [dark]; nofun
      · rw [fast]; nofun
    rw [clearSource_rests (.inr (.inr (.inl away)))]
    exact hs.of_cores (redisplay_mode w _) fun j => ((redisplay_onlyShown w _).sequence.state j).trans (countClear_state w j s)

theorem State.enteringRun.annEnterRun (h : s.enteringRun) : (annEnterRun s).windowsSound := by
  rw [annEnterRun_eq]
  refine State.windowsSound.of_shown (s := entriesIntoFast s) ?_ (redisplayAll_onlyShown _)
  refine ⟨fun configuring => ?_, fun _ w defined => ?_⟩
  · rw [entriesIntoFast_mode, h.1] at configuring; cases configuring
  · rw [entriesIntoFast_window] at defined ⊢
    split
    · unfold Window.alarmed
      split
      · exact Window.agrees_fast rfl
      · refine Window.agrees_zero (by omega) ?_
        rcases h.2 w with dark | fast
        · rw [dark]; nofun
        · rw [fast]; nofun
    · rename_i undefined
      rw [if_neg undefined] at defined
      exact absurd (Option.isSome_iff_ne_none.mpr defined) undefined

theorem annEnterConfiguring_windowsSound (configuring : s.mode = .configuring) : (annEnterConfiguring s).windowsSound := by
  rw [annEnterConfiguring_eq]
  refine State.windowsSound.of_shown (s := panelAtRest (fun _ => .dark) s) ?_ (redisplayAll_onlyShown _)
  exact ⟨fun _ w => by rw [panelAtRest_window]; exact ⟨rfl, rfl⟩, fun service => absurd ((panelAtRest_mode _ s).trans configuring) service⟩

theorem annRestart_windowsSound (service : s.mode ≠ .configuring) : (annRestart s).windowsSound := by
  rw [annRestart_eq]
  refine State.windowsSound.of_shown (s := panelAtRest (fun v => if v.defn.isSome ∧ 0 < v.count then .steady else .dark) s) ?_
    ((redisplayAll_onlyShown _).trans (phaseOnWait_onlyShown _))
  refine ⟨fun configuring => absurd ((panelAtRest_mode _ s).symm.trans configuring) service, fun _ w defined => ?_⟩
  rw [panelAtRest_window] at defined ⊢
  dsimp only at defined ⊢
  split
  · rename_i active; exact ⟨fun _ => active.2, nofun⟩
  · rename_i idle
    have here := Option.isSome_iff_ne_none.mpr defined
    rw [not_and] at idle
    exact ⟨nofun, fun _ => Nat.eq_zero_of_not_pos (idle here)⟩

theorem windowsSound_alarms : KeptByAlarms State.windowsSound where
  seen := fun hs windows _ _ _ mode => hs.seen windows mode
  activate := fun w capture _ hs => hs.activate w capture
  clearSource := fun w _ hs => hs.clearSource w

theorem pointsToConfiguring_mode (s : State) : (pointsToConfiguring s).mode = s.mode := by
  have only := pointsToConfiguring_touches s
  unfold State.onlyPoints at only
  rw [only]

theorem pointsRestart_mode (s : State) : (pointsRestart s).mode = s.mode := by
  have only := pointsRestart_touches s
  unfold State.onlyPoints at only
  rw [only]

theorem offerNow_mode (k : RecordKind) (c : RecClass) (a v x : Nat) (s : State) : (offerNow k c a v x s).mode = s.mode := by
  have only := offerNow_touches k c a v x s
  unfold State.onlyEvents at only
  rw [only]

/-- What holds of the panel after its own part of an entry into CONFIGURING holds after the whole entry. -/
theorem KeptByDeliveries.configuringEntered {P : State → Prop} (h : KeptByDeliveries P)
    (rests : ∀ u : State, u.mode = .configuring → P (annEnterConfiguring u)) (s : State) : P (configuringEntered s) :=
  h.judgeLines (h.elementsToConfiguring (rests _ (pointsToConfiguring_mode _)))

/-- What holds of the panel after its own part of a restart holds after the whole restart. -/
theorem restartAnnunciation_of {P : State → Prop} (returns : ∀ u : State, u.mode ≠ .configuring → P (annRestart u))
    (service : s.mode ≠ .configuring) : P (restartAnnunciation s) :=
  returns _ (by rw [pointsRestart_mode, offerNow_mode]; exact service)

/-- What holds of the panel after its own part of the entry into RUN holds after the whole entry. -/
theorem KeptByDeliveries.runEntered {P : State → Prop} (h : KeptByDeliveries P)
    (enters : P (annEnterRun (Machine.pointsToRun (queueOverflow (offerModeChange .run { s with mode := .run }))))) : P (Machine.runEntered s) :=
  h.judgeLines (h.elementsToRun (h.modulesToRun enters))

theorem windowsSound_unit : KeptByUnit State.windowsSound where
  toKeptByAlarms := windowsSound_alarms
  setHorn := fun _ _ _ _ hs => hs
  ackWindow := fun w _ service hs => hs.ackWindow service w
  resetWindow := fun w _ service defined hs => hs.resetWindow service w defined
  settleExpiry := fun g s hs => by
    refine hs.of_windows (settleExpiry_sequence g s).mode fun w => ?_
    unfold Machine.settleExpiry
    split
    · rw [offerFirstOut, (offer_onlyShown _ _).window]
      have only := offer_touches
      unfold State.onlyEvents at only
      rw [only]
      rfl
    · rfl
  lampOn := fun hs => hs.of_shown (lampOn_onlyShown _)
  lampOff := fun hs => hs.of_shown (lampOff_onlyShown _)
  coldReset := fun _ _ _ => ⟨fun _ _ => ⟨rfl, rfl⟩, fun service => absurd rfl service⟩
  setMode := fun m s service running hs => ⟨fun configuring => absurd configuring running, fun _ => hs.2 service⟩
  runEntered := fun {s} configuring _ hs => by
    have entering : ({ s with mode := .run } : State).enteringRun := ⟨rfl, fun w => .inl (hs.1 configuring w).1⟩
    have h := enteringRun_alarms
    exact windowsSound_alarms.deliveries.runEntered (h.deliveries.pointsToRun (h.ofEvents (queueOverflow_touches _)
      (h.ofEvents (offerModeChange_touches _ _) entering))).annEnterRun
  configuringEntered := fun _ _ => windowsSound_alarms.deliveries.configuringEntered (fun _ => annEnterConfiguring_windowsSound) _
  restart := fun service _ => restartAnnunciation_of (fun _ => annRestart_windowsSound) service

theorem State.windowsSound.rewriteWindow (h : s.windowsSound) (service : s.mode ≠ .configuring) {w : Fin 192} {old : WindowDef} (d : WindowDef)
    (defined : (s.window w).defn = some old) : (rewriteWindow w old d s).windowsSound := by
  have rearmed := rearmedFor_sequence w old d s
  have running : (rearmedFor w old d s).mode ≠ .configuring := by rw [rearmed.mode]; exact service
  have sound := h.of_sequence service rearmed
  have agrees : ((rearmedFor w old d s).window w).agrees := sound.2 running w (by rw [rearmed.defn, defined]; nofun)
  have written : (redefined w old d s).windowsSound :=
    sound.setWindow w _ (fun configuring => absurd configuring running) fun _ _ => agrees
  have dark : (darkened w d (redefined w old d s)).windowsSound := by
    unfold darkened
    split
    · rename_i slow
      exact written.goDark running w (written.2 running w (by rw [redefined_window, if_pos rfl]; nofun) |>.2 (.inr slow.1))
    · exact written
  rw [rewriteWindow_eq]
  exact State.windowsSound.of_shown (dark.of_windows (hornMoved_mode w old d _) fun j => hornMoved_window w j old d _)
    (redisplayBoth_onlyShown _ w _)

theorem State.windowsSound.applyWindowWrite (h : s.windowsSound) (w : Fin 192) (d : WindowDef) : (applyWindowWrite w d s).windowsSound := by
  unfold Machine.applyWindowWrite
  dsimp only
  split
  · rename_i configuring
    exact h.setWindow w _ (fun _ => h.1 configuring w) fun service => absurd configuring service
  · rename_i service
    split
    · exact State.windowsSound.of_shown (h.setWindow w { defn := some d, shown := (s.window w).shown }
        (fun configuring => absurd configuring service) fun _ _ => Window.agrees_zero rfl nofun) (redisplay_onlyShown w _)
    · exact h.rewriteWindow service d ‹_›

theorem State.windowsSound.applyWindowClear (h : s.windowsSound) (w : Fin 192) : (applyWindowClear w s).windowsSound := by
  by_cases configuring : s.mode = .configuring
  · unfold Machine.applyWindowClear
    dsimp only
    split
    · exact h
    · rw [if_pos configuring]
      exact h.setWindow w _ (fun _ => h.1 configuring w) fun service => absurd configuring service
  · cases defined : (s.window w).defn with
    | none =>
      have same : Machine.applyWindowClear w s = s := by
        unfold Machine.applyWindowClear
        dsimp only
        rw [defined]
      rw [same]
      exact h
    | some old =>
      rw [applyWindowClear_service configuring defined]
      have kept := unmarkedFor_sequence w old s
      have left : (hornLeft old (s.window w).state (unmarkedFor w old s)).windowsSound :=
        (h.of_sequence configuring kept).of_windows (hornLeft_mode old _ _) fun j => hornLeft_window j old _ _
      refine State.windowsSound.of_shown (left.setWindow w _ (fun _ => ⟨rfl, rfl⟩) fun _ undefined => absurd rfl undefined)
        (redisplayBoth_onlyShown _ w _)

theorem State.windowsSound.applyGroupWrite (h : s.windowsSound) (g : Fin 32) (d : GroupDef) : (applyGroupWrite g d s).windowsSound := by
  unfold Machine.applyGroupWrite
  split
  · exact h
  · rename_i old _
    split
    · exact h
    · rename_i service
      have cores := rewriteGroup_cores g old d s
      exact h.of_cores service (rewriteGroup_mode g old d s) (fun w => (cores w).1) (fun w => (cores w).2.1) (fun w => (cores w).2.2)

theorem windowsSound_rows {Q : State → Prop} (rows : KeptByRows Q) : KeptByRows (fun s => Q s ∧ s.windowsSound) :=
  windowsSound_unit.rows_given rows (fun _ hs => hs) (fun w d _ _ _ hs => hs.applyWindowWrite w d)
    (fun w _ _ hs => hs.applyWindowClear w) (fun g d _ _ hs => hs.applyGroupWrite g d) (fun _ _ _ _ hs => hs)

theorem step_keeps_windowsSound (h : s.windowsSound) (hstep : step s = .next t) : t.windowsSound :=
  ((windowsSound_rows true_rows.rows).step ⟨trivial, h⟩ hstep).2

end Sys2Proof.Machine

/-! Every step keeps every window's displayed pattern the derived one (R69, R72). -/

namespace Sys2Proof.Machine

variable {s t u : State}

/-! ### Operations that reach two windows -/

/-- Mode, lamp test and every window but `v` and `w` stay as they are. -/
structure State.alters (v w : Fin 192) (s t : State) : Prop where
  mode : t.mode = s.mode
  lampTest : t.ann.lampTest = s.ann.lampTest
  window : ∀ j, j ≠ v → j ≠ w → t.window j = s.window j

theorem State.alters.refl (v w : Fin 192) (s : State) : s.alters v w s := ⟨rfl, rfl, fun _ _ _ => rfl⟩

theorem State.alters.trans {v w : Fin 192} (h : s.alters v w t) (k : t.alters v w u) : s.alters v w u :=
  ⟨k.mode.trans h.mode, k.lampTest.trans h.lampTest, fun j hv hw => (k.window j hv hw).trans (h.window j hv hw)⟩

theorem State.alters.wider {v w : Fin 192} (h : s.alters w w t) : s.alters v w t := ⟨h.mode, h.lampTest, fun j _ hw => h.window j hw hw⟩

/-- No window, nor the mode nor the lamp test, changes. -/
theorem State.alters.of_same (v w : Fin 192) (mode : t.mode = s.mode) (lampTest : t.ann.lampTest = s.ann.lampTest)
    (window : ∀ j, t.window j = s.window j) : s.alters v w t := ⟨mode, lampTest, fun j _ _ => window j⟩

theorem setWindow_alters (v w : Fin 192) (x : Window) (s : State) : s.alters v w (s.setWindow w x) :=
  ⟨rfl, rfl, fun j _ hw => by rw [State.setWindow_window, if_neg hw]⟩

theorem setMark_alters (v w : Fin 192) (m : Bool) (s : State) : s.alters v w (setMark w m s) := setWindow_alters v w _ s

theorem setGroup_alters (v w : Fin 192) (g : Fin 32) (x : Group) (s : State) : s.alters v w (s.setGroup g x) :=
  .of_same v w rfl rfl fun _ => rfl

theorem offer_alters (v w : Fin 192) (o : Offer) (s : State) : s.alters v w (offer o s) := by
  have only := offer_touches o s
  unfold State.onlyEvents at only
  rw [only]
  exact .of_same v w rfl rfl fun _ => rfl

theorem putHorn_alters (v w : Fin 192) (h : Fin 4) (x : Horn) (s : State) : s.alters v w (putHorn h x s) := by
  refine .of_same v w (putHorn_mode h x s) ?_ fun j => putHorn_window h x s j
  unfold putHorn
  split
  · rfl
  · rfl

theorem hornEnter_alters (v w : Fin 192) (h : Option (Fin 4)) (s : State) : s.alters v w (hornEnter h s) := by
  cases h with
  | none => exact .refl v w s
  | some h => exact putHorn_alters v w h _ s

theorem hornExit_alters (v w : Fin 192) (h : Option (Fin 4)) (s : State) : s.alters v w (hornExit h s) := by
  cases h with
  | none => exact .refl v w s
  | some h => exact putHorn_alters v w h _ s

theorem unmark_alters {v w : Fin 192} {o : Option (Fin 192)} (named : o.getD w = v) (s : State) : s.alters v w (unmark o s) := by
  cases o with
  | none => exact .refl v w s
  | some x =>
    have at_v : x = v := named
    subst at_v
    exact ⟨rfl, rfl, fun j hv _ => State.setWindow_window_ne _ _ hv⟩

theorem rearm_alters {v w : Fin 192} {g : Fin 32} (named : (s.group g).foWindow.getD w = v) : s.alters v w (rearm g s) :=
  (unmark_alters named s).trans (setGroup_alters v w g _ _)

theorem moveMark_alters {v w : Fin 192} {o : Option (Fin 192)} (named : o.getD w = v) (s : State) : s.alters v w (moveMark o w s) :=
  (unmark_alters named s).trans (setMark_alters v w true _)

theorem takeOffer_alters {v w : Fin 192} {g : Fin 32} (named : (s.group g).foWindow.getD w = v) (p : Fin 1024) (n : Nat) :
    s.alters v w (takeOffer g w p n s) := by
  have marked := moveMark_alters named s
  have taken := takeOffer_taken g w p n s
  generalize takeOffer g w p n s = t at taken ⊢
  cases taken with
  | idle => exact .refl v w s
  | captured gd armed defined now => exact (marked.trans (setGroup_alters v w g _ _)).trans (offer_alters v w _ _)
  | provisional gd armed defined later => exact marked.trans (setGroup_alters v w g _ _)
  | earlier x provisional first wins => exact marked.trans (setGroup_alters v w g _ _)

theorem firstOutOr_of_defined {w : Fin 192} {d : WindowDef} (defined : (s.window w).defn = some d) :
    firstOutOr w s = (s.group d.group).foWindow.getD w := by
  unfold firstOutOr
  rw [defined]

theorem offerActivation_alters (w : Fin 192) (p : Fin 1024) (n : Nat) (s : State) :
    s.alters (firstOutOr w s) w (offerActivation w p n s) := by
  unfold offerActivation
  split
  · rename_i d defined
    split
    · split
      · exact takeOffer_alters (firstOutOr_of_defined defined).symm p n
      · exact .refl _ w s
    · exact .refl _ w s
  · exact .refl _ w s

theorem reachedDark_alters (w : Fin 192) (s : State) : s.alters w w (reachedDark w s) := by
  unfold reachedDark
  split
  · split
    · rename_i recorded; exact rearm_alters (by rw [recorded]; rfl)
    · exact .refl w w s
  · exact .refl w w s

theorem goDark_alters (w : Fin 192) (s : State) : s.alters w w (goDark w s) :=
  (setWindow_alters w w _ s).trans (reachedDark_alters w _)

theorem enterFast_alters (w : Fin 192) (s : State) : s.alters w w (enterFast w s) := by
  unfold enterFast
  split
  · exact .refl w w s
  · exact (setWindow_alters w w _ s).trans (hornEnter_alters w w _ _)

theorem leaveFast_alters (w : Fin 192) (next : WindowState) (s : State) : s.alters w w (leaveFast w next s) := by
  have left := (setWindow_alters w w { s.window w with state := next } s).trans (hornExit_alters w w (hornOfWindow s w) _)
  unfold leaveFast
  dsimp only
  split
  · exact left.trans (reachedDark_alters w _)
  · exact left

theorem activated_alters (w : Fin 192) (s : State) : s.alters w w (activated w s) :=
  (setWindow_alters w w _ s).trans (enterFast_alters w _)

theorem firstOutOr_activated (w : Fin 192) (s : State) : firstOutOr w (activated w s) = firstOutOr w s := by
  have defn : ((activated w s).window w).defn = (s.window w).defn := by rw [activated_window, if_pos rfl]
  have group (g : Fin 32) : (activated w s).group g = s.group g := by rw [activated, enterFast_group]; rfl
  unfold firstOutOr
  rw [defn]
  cases (s.window w).defn with
  | none => rfl
  | some d => dsimp only; rw [group]

theorem offeredTo_alters (w : Fin 192) (capture : Option (Fin 1024 × Nat)) (s : State) : s.alters (firstOutOr w s) w (offeredTo w capture s) := by
  cases capture with
  | none => exact .refl _ w s
  | some c => exact offerActivation_alters w c.1 c.2 s

theorem activation_alters (w : Fin 192) (capture : Option (Fin 1024 × Nat)) (s : State) :
    s.alters (firstOutOr w s) w (offeredTo w capture (activated w s)) := by
  have offered := offeredTo_alters w capture (activated w s)
  rw [firstOutOr_activated] at offered
  exact (activated_alters w s).wider.trans offered

/-! ### Displayed patterns -/

theorem State.alters.derived {v w : Fin 192} (h : s.alters v w t) (j : Fin 192) (hv : j ≠ v) (hw : j ≠ w) :
    derivedPattern t j = derivedPattern s j := by
  have same := h.window j hv hw
  exact derivedPattern_congr h.mode h.lampTest (by rw [same]) (by rw [same]) (by rw [same])

theorem patternsDerived_redisplayAll (s : State) : (redisplayAll s).patternsDerived := fun w => by
  rw [redisplayAll_derived, redisplayAll_window]

/-- A derivation of one window's pattern makes up for a change of that window. -/
theorem State.patternsDerived.redisplay (h : s.patternsDerived) {w : Fin 192} (k : s.alters w w t) : (redisplay w t).patternsDerived := by
  intro j
  rw [derivedPattern_redisplay, redisplay_window]
  by_cases at_w : j = w
  · rw [if_pos at_w, at_w]
  · rw [if_neg at_w, k.window j at_w at_w, k.derived j at_w at_w]
    exact h j

theorem redisplayBoth_window (v w j : Fin 192) (s : State) : (redisplayBoth v w s).window j =
    if j = v ∨ j = w then { s.window j with shown := derivedPattern s j } else s.window j := by
  unfold redisplayBoth
  split
  · rw [redisplay_window, derivedPattern_redisplay]
    by_cases at_w : j = w
    · subst at_w
      rw [if_pos rfl, if_pos (.inr rfl), redisplay_window]
      split
      · rename_i same; rw [same]
      · rfl
    · rw [if_neg at_w, redisplay_window]
      by_cases at_v : j = v
      · rw [if_pos at_v, if_pos (.inl at_v), at_v]
      · rw [if_neg at_v, if_neg (fun h => h.elim at_v at_w)]
  · rw [redisplay_window, derivedPattern_redisplay]
    by_cases at_v : j = v
    · subst at_v
      rw [if_pos rfl, if_pos (.inl rfl), redisplay_window]
      split
      · rename_i same; rw [same]
      · rfl
    · rw [if_neg at_v, redisplay_window]
      by_cases at_w : j = w
      · rw [if_pos at_w, if_pos (.inr at_w), at_w]
      · rw [if_neg at_w, if_neg (fun h => h.elim at_v at_w)]

theorem redisplayBoth_lampTest (v w : Fin 192) (s : State) : (redisplayBoth v w s).ann.lampTest = s.ann.lampTest := by
  unfold redisplayBoth
  split
  · rw [redisplay_lampTest, redisplay_lampTest]
  · rw [redisplay_lampTest, redisplay_lampTest]

theorem State.onlyShown.derived (h : s.onlyShown t) (lampTest : t.ann.lampTest = s.ann.lampTest) (w : Fin 192) :
    derivedPattern t w = derivedPattern s w :=
  derivedPattern_congr h.mode lampTest (by rw [h.window w]) (by rw [h.window w]) (by rw [h.window w])

/-- The derivation of two windows' patterns makes up for a change of those windows. -/
theorem State.patternsDerived.redisplayBoth (h : s.patternsDerived) {v w : Fin 192} (k : s.alters v w t) :
    (redisplayBoth v w t).patternsDerived := by
  intro j
  rw [(redisplayBoth_onlyShown v w t).derived (redisplayBoth_lampTest v w t), redisplayBoth_window]
  by_cases shown : j = v ∨ j = w
  · rw [if_pos shown]
  · obtain ⟨hv, hw⟩ := not_or.mp shown
    rw [if_neg shown, k.window j hv hw, k.derived j hv hw]
    exact h j

theorem State.patternsDerived.of_same (h : s.patternsDerived) (mode : t.mode = s.mode) (lampTest : t.ann.lampTest = s.ann.lampTest)
    (window : ∀ j, t.window j = s.window j) : t.patternsDerived := fun j => by
  have same := window j
  rw [same, derivedPattern_congr mode lampTest (by rw [same]) (by rw [same]) (by rw [same])]
  exact h j

/-- An operation that derives no pattern and reaches no window. -/
theorem State.patternsDerived.of_alters (h : s.patternsDerived) (k : ∀ v : Fin 192, s.alters v v t) : t.patternsDerived := by
  have other (j : Fin 192) : ∃ v : Fin 192, j ≠ v := by
    by_cases zero : j = 0
    · exact ⟨1, by rw [zero]; decide⟩
    · exact ⟨0, zero⟩
  refine h.of_same (k 0).mode (k 0).lampTest fun j => ?_
  obtain ⟨v, away⟩ := other j
  exact (k v).window j away away

theorem State.patternsDerived.activate (h : s.patternsDerived) (w : Fin 192) (capture : Option (Fin 1024 × Nat)) :
    (activate w capture s).patternsDerived := by
  cases runs : sequenceRuns s w with
  | false =>
    rw [activate_of_rest runs]
    exact h.redisplay (setWindow_alters w w _ s)
  | true =>
    rw [activate_of_runs runs]
    exact h.redisplayBoth (activation_alters w capture s)

theorem State.patternsDerived.clearSource (h : s.patternsDerived) (w : Fin 192) : (clearSource w s).patternsDerived := by
  have counted : s.alters w w (countClear w s) := setWindow_alters w w _ s
  unfold Machine.clearSource
  dsimp only
  split
  · split
    · split
      · exact h.redisplay (counted.trans (setWindow_alters w w _ _))
      · exact h.redisplay (counted.trans (goDark_alters w _))
    · exact h.redisplay counted
  · exact h.redisplay counted

theorem patternsDerived_alarms : KeptByAlarms State.patternsDerived where
  seen := fun hs windows _ _ lampTest mode => hs.of_same mode lampTest fun j => by rw [State.window, windows]; rfl
  activate := fun w capture _ hs => hs.activate w capture
  clearSource := fun w _ hs => hs.clearSource w

theorem annEnterRun_patternsDerived (s : State) : (annEnterRun s).patternsDerived := by
  rw [annEnterRun_eq]
  exact patternsDerived_redisplayAll _

theorem annEnterConfiguring_patternsDerived (s : State) : (annEnterConfiguring s).patternsDerived := by
  rw [annEnterConfiguring_eq]
  exact patternsDerived_redisplayAll _

theorem phaseOnWait_patternsDerived (h : s.patternsDerived) : (phaseOnWait s).patternsDerived := h.of_same rfl rfl fun _ => rfl

theorem annRestart_patternsDerived (s : State) : (annRestart s).patternsDerived := by
  rw [annRestart_eq]
  exact phaseOnWait_patternsDerived (patternsDerived_redisplayAll _)

theorem runEntered_patternsDerived (s : State) : (runEntered s).patternsDerived :=
  patternsDerived_alarms.deliveries.runEntered (annEnterRun_patternsDerived _)

theorem configuringEntered_patternsDerived (s : State) : (configuringEntered s).patternsDerived :=
  patternsDerived_alarms.deliveries.configuringEntered (fun u _ => annEnterConfiguring_patternsDerived u) s

theorem restartAnnunciation_patternsDerived (s : State) : (restartAnnunciation s).patternsDerived := annRestart_patternsDerived _

theorem patternsDerived_unit : KeptByUnit State.patternsDerived where
  toKeptByAlarms := patternsDerived_alarms
  setHorn := fun _ _ _ _ hs => hs
  ackWindow := fun w s _ hs => by
    unfold ackWindow
    split
    · split
      · exact hs.redisplay (leaveFast_alters w _ s)
      · exact hs
    · exact hs
  resetWindow := fun w s _ _ hs => by
    unfold resetWindow
    split
    · exact hs.redisplay (goDark_alters w s)
    · exact hs
  settleExpiry := fun g s hs => by
    unfold Machine.settleExpiry
    split
    · exact hs.of_alters fun v => (setGroup_alters v v g _ s).trans (offer_alters v v _ _)
    · exact hs
  lampOn := fun {s} hs => by
    unfold lampOn
    split
    · exact hs
    · exact phaseOnWait_patternsDerived (patternsDerived_redisplayAll _)
  lampOff := fun {s} hs => by
    unfold lampOff
    split
    · exact phaseOnWait_patternsDerived (patternsDerived_redisplayAll _)
    · exact hs
  coldReset := fun _ _ _ _ => rfl
  setMode := fun m s service running hs w => by
    refine (hs w).trans ?_
    unfold derivedPattern
    rw [if_neg service, if_neg running]
    rfl
  runEntered := fun _ _ _ => runEntered_patternsDerived _
  configuringEntered := fun _ _ => configuringEntered_patternsDerived _
  restart := fun _ _ => restartAnnunciation_patternsDerived _

/-! ### Table writes -/

/-- In CONFIGURING a pattern depends on the lamp test alone. -/
theorem derivedPattern_configuring (configuring : s.mode = .configuring) (w : Fin 192) :
    derivedPattern s w = if s.ann.lampTest = true then .on else .off := by
  unfold derivedPattern
  rw [if_pos configuring]

theorem State.patternsDerived.redefine (h : s.patternsDerived) (configuring : s.mode = .configuring) (w : Fin 192) {v : Window}
    (same : v.shown = (s.window w).shown) : (s.setWindow w v).patternsDerived := fun j => by
  rw [derivedPattern_configuring (s := s.setWindow w v) configuring, State.setWindow_window]
  have shown := (h j).trans (derivedPattern_configuring configuring j)
  split
  · rename_i at_w; rw [same, ← at_w]; exact shown
  · exact shown

theorem rearmedFor_alters (w : Fin 192) (old d : WindowDef) (s : State) :
    s.alters ((s.group old.group).foWindow.getD w) w (rearmedFor w old d s) := by
  unfold rearmedFor
  split
  · exact rearm_alters rfl
  · exact .refl _ w s

theorem darkened_alters (w : Fin 192) (d : WindowDef) (s : State) : s.alters w w (darkened w d s) := by
  unfold darkened
  split
  · exact goDark_alters w s
  · exact .refl w w s

theorem hornMoved_alters (v w : Fin 192) (old d : WindowDef) (s : State) : s.alters v w (hornMoved w old d s) := by
  unfold hornMoved
  split
  · exact (hornExit_alters v w _ s).trans (hornEnter_alters v w _ _)
  · exact .refl v w s

theorem rewritten_alters (w : Fin 192) (old d : WindowDef) (s : State) :
    s.alters ((s.group old.group).foWindow.getD w) w (hornMoved w old d (darkened w d (redefined w old d s))) :=
  (((rearmedFor_alters w old d s).trans (setWindow_alters _ w _ _)).trans (darkened_alters w d _).wider).trans (hornMoved_alters _ w old d _)

theorem unmarkedFor_alters (w : Fin 192) (old : WindowDef) (s : State) :
    s.alters ((s.group old.group).foWindow.getD w) w (unmarkedFor w old s) := by
  unfold unmarkedFor
  split
  · exact rearm_alters rfl
  · exact .refl _ w s

theorem hornLeft_alters (v w : Fin 192) (old : WindowDef) (x : WindowState) (s : State) : s.alters v w (hornLeft old x s) := by
  unfold hornLeft
  split
  · exact hornExit_alters v w _ s
  · exact .refl v w s

theorem State.patternsDerived.applyWindowWrite (h : s.patternsDerived) (w : Fin 192) (d : WindowDef) :
    (applyWindowWrite w d s).patternsDerived := by
  unfold Machine.applyWindowWrite
  dsimp only
  split
  · rename_i configuring; exact h.redefine configuring w rfl
  · split
    · exact h.redisplay (setWindow_alters w w _ s)
    · rename_i old _
      rw [rewriteWindow_eq]
      exact h.redisplayBoth (rewritten_alters w old d s)

theorem applyWindowClear_undefined {w : Fin 192} (undefined : (s.window w).defn = none) : applyWindowClear w s = s := by
  unfold applyWindowClear
  dsimp only
  rw [undefined]

theorem applyWindowClear_configuring {w : Fin 192} (configuring : s.mode = .configuring) (defined : (s.window w).defn ≠ none) :
    applyWindowClear w s = s.setWindow w { s.window w with defn := none } := by
  unfold applyWindowClear
  dsimp only
  split
  · contradiction
  · rw [if_pos configuring]

theorem State.patternsDerived.applyWindowClear (h : s.patternsDerived) (w : Fin 192) : (applyWindowClear w s).patternsDerived := by
  cases defined : (s.window w).defn with
  | none => rw [applyWindowClear_undefined defined]; exact h
  | some old =>
    by_cases configuring : s.mode = .configuring
    · rw [applyWindowClear_configuring configuring (by rw [defined]; nofun)]
      exact h.redefine configuring w rfl
    · rw [applyWindowClear_service configuring defined]
      exact h.redisplayBoth (((unmarkedFor_alters w old s).trans (hornLeft_alters _ w old _ _)).trans (setWindow_alters _ w _ _))

theorem moveHorn_alters (v w : Fin 192) (old new : Option (Fin 4)) (j : Fin 192) (s : State) : s.alters v w (moveHorn old new j s) := by
  unfold moveHorn
  split
  · exact (hornExit_alters v w old s).trans (hornEnter_alters v w new _)
  · exact .refl v w s

theorem State.patternsDerived.applyGroupWrite (h : s.patternsDerived) (g : Fin 32) (d : GroupDef) : (applyGroupWrite g d s).patternsDerived := by
  have written (v : Group) : (s.setGroup g v).patternsDerived := h.of_alters fun w => setGroup_alters w w g v s
  have regrouped : (regrouped g d s).patternsDerived := by
    unfold Machine.regrouped disarmed
    split
    · have named : ((s.setGroup g { s.group g with defn := some d }).group g).foWindow = (s.group g).foWindow := by
        rw [State.setGroup_group_self]
      cases recorded : (s.group g).foWindow with
      | none =>
        rw [recorded] at named
        exact (written _).of_alters fun w => rearm_alters (by rw [named]; rfl)
      | some w =>
        rw [recorded] at named
        exact (written _).redisplay (rearm_alters (by rw [named]; rfl))
    · exact written _
  unfold Machine.applyGroupWrite
  split
  · exact written _
  · rename_i old _
    split
    · exact written _
    · rw [rewriteGroup_eq]
      split
      · exact regrouped
      · exact State.each_keeps (fun w u hu => hu.of_alters fun v => moveHorn_alters v v _ _ w u) _ _ regrouped

theorem patternsDerived_rows : KeptByRows (fun s => True ∧ s.patternsDerived) :=
  patternsDerived_unit.rows_given true_rows.rows (fun _ hs => hs) (fun w d _ _ _ hs => hs.applyWindowWrite w d)
    (fun w _ _ hs => hs.applyWindowClear w) (fun g d _ _ hs => hs.applyGroupWrite g d) (fun _ _ _ _ hs => hs)

theorem step_keeps_patternsDerived (h : s.patternsDerived) (hstep : step s = .next t) : t.patternsDerived :=
  (patternsDerived_rows.step ⟨trivial, h⟩ hstep).2

end Sys2Proof.Machine

/-! Every step keeps the FAST counts of the horns (R95). -/

namespace Sys2Proof.Machine

variable {s t u : State}

/-! ### Canonical tables of windows and groups -/

/-- The tables of windows and groups are canonical. -/
def State.panelTables (s : State) : Prop := Table.wf {} s.ann.windows = true ∧ Table.wf {} s.ann.groups = true

theorem State.panelTables.of_same (h : s.panelTables) (windows : t.ann.windows = s.ann.windows) (groups : t.ann.groups = s.ann.groups) :
    t.panelTables := by
  unfold State.panelTables at *
  rw [windows, groups]
  exact h

theorem joinDriver_windows (d : Fin 6) (s : State) : (joinDriver d s).ann.windows = s.ann.windows := by
  unfold joinDriver
  split
  · rfl
  · rfl

theorem panelTables_rows : KeptByPanelRows State.panelTables where
  frame := fun hs windows groups _ _ _ _ => hs.of_same windows groups
  setMode := fun _ _ _ hs => hs
  setWindow := fun _ _ _ _ hs => ⟨Table.wf_set _ _ _ _ hs.1, hs.2⟩
  setWindows := fun _ _ _ hs => ⟨Table.wf_ofFn _ _, hs.2⟩
  setGroup := fun _ _ _ _ _ hs => ⟨hs.1, Table.wf_set _ _ _ _ hs.2⟩
  setHorn := fun _ _ _ _ hs => hs
  joinDriver := fun d s hs => hs.of_same (joinDriver_windows d s) (joinDriver_groups d s)
  coldReset := fun _ _ _ => ⟨rfl, rfl⟩
  tick := fun hs => ⟨hs.1, Table.wf_mapCells {} (fun v : Group => { v with settle := v.settle.tick }) _ hs.2⟩
  takeDriverHead := fun hs _ => hs
  driver := fun d a s hs => by
    unfold applyDriver
    split
    · exact State.panelTables.of_same (s := s) hs (joinDriver_windows d _) (joinDriver_groups d _)
    · exact hs
  join := fun _ ht _ => ht

/-! ### Counting -/

/-- Two counts over a list without repetition that differ at one entry alone. -/
theorem countP_of_one {α : Type} {p q : α → Bool} {w : α} {l : List α} (once : l.Nodup) (listed : w ∈ l) (others : ∀ j, j ≠ w → q j = p j) :
    l.countP q + (p w).toNat = l.countP p + (q w).toNat := by
  induction l with
  | nil => cases listed
  | cons a l ih =>
    obtain ⟨absent, once⟩ := List.nodup_cons.mp once
    rw [List.countP_cons, List.countP_cons]
    rcases List.mem_cons.mp listed with rfl | later
    · have rest : l.countP q = l.countP p := List.countP_congr fun j hj => by rw [others j (fun same => absent (same ▸ hj))]
      rw [rest]
      cases p w <;> cases q w <;> simp
    · have away : a ≠ w := fun same => absent (same ▸ later)
      have := ih once later
      rw [others a away]
      omega

/-- A window in FAST whose group names the horn (R95). -/
def fastFor (s : State) (h : Fin 4) (w : Fin 192) : Bool := decide ((s.window w).state = .fast ∧ hornOfWindow s w = some h)

theorem fastFor_iff (s : State) (h : Fin 4) (w : Fin 192) : fastFor s h w = true ↔ (s.window w).state = .fast ∧ hornOfWindow s w = some h := by
  unfold fastFor
  rw [decide_eq_true_iff]

theorem fastFor_congr {h : Fin 4} {w : Fin 192} (state : (t.window w).state = (s.window w).state)
    (horn : hornOfWindow t w = hornOfWindow s w) : fastFor t h w = fastFor s h w := by
  unfold fastFor
  rw [state, horn]

theorem fastFor_of_left {h : Fin 4} {w : Fin 192} (left : (s.window w).state ≠ .fast) : fastFor s h w = false := by
  unfold fastFor
  exact decide_eq_false fun both => left both.1

theorem fastFor_of_undefined {h : Fin 4} {w : Fin 192} (undefined : (s.window w).defn = none) : fastFor s h w = false := by
  unfold fastFor hornOfWindow
  rw [undefined]
  exact decide_eq_false nofun

theorem fastCounted_iff : s.fastCounted ↔ ∀ h, (s.horn h).fastCount = (List.finRange 192).countP (fastFor s h) := by
  unfold State.fastCounted
  refine forall_congr' fun h => ?_
  rw [List.countP_eq_length_filter]
  refine iff_of_eq (congrArg (fun l => (s.horn h).fastCount = List.length l) (List.filter_congr fun w _ => ?_))
  unfold fastFor hornOfWindow hornOfGroup
  rcases Option.eq_none_or_eq_some (s.window w).defn with undefined | ⟨d, defined⟩
  · simp [undefined]
  · rcases Option.eq_none_or_eq_some (s.group d.group).defn with unknown | ⟨x, known⟩
    · simp [defined, unknown]
    · simp [defined, known]

theorem State.fastCounted.of_same (h : s.fastCounted) (count : ∀ x, (t.horn x).fastCount = (s.horn x).fastCount)
    (same : ∀ x w, fastFor t x w = fastFor s x w) : t.fastCounted := by
  rw [fastCounted_iff] at *
  intro x
  rw [count, h x, show fastFor t x = fastFor s x from funext (same x)]

/-- One window changes, and each horn's count with it. -/
theorem State.fastCounted.of_one (h : s.fastCounted) {w : Fin 192} (others : ∀ x j, j ≠ w → fastFor t x j = fastFor s x j)
    (count : ∀ x, (t.horn x).fastCount + (fastFor s x w).toNat = (s.horn x).fastCount + (fastFor t x w).toNat) : t.fastCounted := by
  rw [fastCounted_iff] at *
  intro x
  have moved := countP_of_one (p := fastFor s x) (q := fastFor t x) (List.nodup_finRange 192) (List.mem_finRange w) (others x)
  have := count x
  have := h x
  omega

/-- A window for a horn makes its count at least 1. -/
theorem State.fastCounted.pos (h : s.fastCounted) {x : Fin 4} {w : Fin 192} (here : fastFor s x w = true) : 0 < (s.horn x).fastCount := by
  rw [fastCounted_iff.mp h x]
  exact List.countP_pos_iff.mpr ⟨w, List.mem_finRange w, here⟩

theorem hornOfGroup_congr {g : Fin 32} (defn : (t.group g).defn = (s.group g).defn) : hornOfGroup t g = hornOfGroup s g := by
  unfold hornOfGroup
  rw [defn]

theorem hornOfWindow_congr {w : Fin 192} (defn : (t.window w).defn = (s.window w).defn)
    (group : ∀ d, (s.window w).defn = some d → (t.group d.group).defn = (s.group d.group).defn) : hornOfWindow t w = hornOfWindow s w := by
  unfold hornOfWindow
  rw [defn]
  cases defined : (s.window w).defn with
  | none => rfl
  | some d => exact hornOfGroup_congr (group d defined)

theorem hornOfWindow_of_defined {w : Fin 192} {d : WindowDef} (defined : (s.window w).defn = some d) :
    hornOfWindow s w = hornOfGroup s d.group := by
  unfold hornOfWindow
  rw [defined]

theorem State.sameSequence.hornOf (k : s.sameSequence t) (w : Fin 192) : hornOfWindow t w = hornOfWindow s w :=
  hornOfWindow_congr (k.defn w) fun d _ => k.group d.group

theorem State.fastCounted.of_sequence (h : s.fastCounted) (k : s.sameSequence t) : t.fastCounted :=
  h.of_same (fun x => by rw [k.horn]) fun _ w => fastFor_congr (k.state w) (k.hornOf w)

theorem State.fastCounted.of_shown (h : s.fastCounted) (k : s.onlyShown t) : t.fastCounted := h.of_sequence k.sequence

/-! ### Single windows -/

theorem setWindow_hornOf_of_ne {w j : Fin 192} (away : j ≠ w) (v : Window) : hornOfWindow (s.setWindow w v) j = hornOfWindow s j :=
  hornOfWindow_congr (by rw [State.setWindow_window_ne _ _ away]) fun _ _ => rfl

theorem setWindow_fastFor_of_ne {w j : Fin 192} (away : j ≠ w) (v : Window) (x : Fin 4) : fastFor (s.setWindow w v) x j = fastFor s x j :=
  fastFor_congr (by rw [State.setWindow_window_ne _ _ away]) (setWindow_hornOf_of_ne away v)

/-- A window that is in FAST for no horn before and after. -/
theorem State.fastCounted.setWindow (h : s.fastCounted) {w : Fin 192} {v : Window} (old : ∀ x, fastFor s x w = false)
    (new : ∀ x, fastFor (s.setWindow w v) x w = false) : (s.setWindow w v).fastCounted :=
  h.of_one (fun x j away => setWindow_fastFor_of_ne away v x) fun x => by rw [old, new]; rfl

theorem setWindow_fastFor_of_left {w : Fin 192} {v : Window} (left : v.state ≠ .fast) (x : Fin 4) : fastFor (s.setWindow w v) x w = false :=
  fastFor_of_left (by rw [State.setWindow_window_self]; exact left)

theorem State.fastCounted.setWindow_left (h : s.fastCounted) {w : Fin 192} {v : Window} (old : (s.window w).state ≠ .fast)
    (new : v.state ≠ .fast) : (s.setWindow w v).fastCounted :=
  h.setWindow (fun _ => fastFor_of_left old) (setWindow_fastFor_of_left new)

theorem State.fastCounted.setWindow_kept (h : s.fastCounted) {w : Fin 192} {v : Window} (defn : v.defn = (s.window w).defn)
    (state : v.state = (s.window w).state) : (s.setWindow w v).fastCounted := by
  refine h.of_same (fun _ => rfl) fun x j => ?_
  by_cases at_w : j = w
  · subst at_w
    exact fastFor_congr (by rw [State.setWindow_window_self, state])
      (hornOfWindow_congr (by rw [State.setWindow_window_self, defn]) fun _ _ => rfl)
  · exact setWindow_fastFor_of_ne at_w v x

/-! ### Horns that count -/

theorem hornEnter_fastCount (o : Option (Fin 4)) (x : Fin 4) (s : State) :
    ((hornEnter o s).horn x).fastCount = (s.horn x).fastCount + (decide (o = some x)).toNat := by
  cases o with
  | none => rfl
  | some h =>
    rw [hornEnter_horn]
    by_cases same : x = h
    · subst same; simp
    · rw [if_neg same]
      have other : some h ≠ some x := fun h => same (Option.some.inj h).symm
      simp [other]

theorem hornExit_fastCount (o : Option (Fin 4)) (x : Fin 4) (s : State) :
    ((hornExit o s).horn x).fastCount = (s.horn x).fastCount - (decide (o = some x)).toNat := by
  cases o with
  | none => rfl
  | some h =>
    rw [hornExit_horn]
    by_cases same : x = h
    · subst same; simp
    · rw [if_neg same]
      have other : some h ≠ some x := fun h => same (Option.some.inj h).symm
      simp [other]

theorem hornEnter_fastFor (o : Option (Fin 4)) (x : Fin 4) (w : Fin 192) (s : State) : fastFor (hornEnter o s) x w = fastFor s x w :=
  fastFor_congr (by rw [hornEnter_window]) (hornOfWindow_congr (by rw [hornEnter_window]) fun _ _ => by rw [hornEnter_group])

theorem hornExit_fastFor (o : Option (Fin 4)) (x : Fin 4) (w : Fin 192) (s : State) : fastFor (hornExit o s) x w = fastFor s x w :=
  fastFor_congr (by rw [hornExit_window]) (hornOfWindow_congr (by rw [hornExit_window]) fun _ _ => by rw [hornExit_group])

theorem setState_fastFor (w : Fin 192) (next : WindowState) (x : Fin 4) (s : State) :
    fastFor (s.setWindow w { s.window w with state := next }) x w = (decide (next = .fast) && decide (hornOfWindow s w = some x)) := by
  unfold fastFor
  rw [State.setWindow_window_self, Bool.decide_and]
  rw [hornOfWindow_congr (s := s) (t := s.setWindow w { s.window w with state := next }) (by rw [State.setWindow_window_self]) fun _ _ => rfl]

theorem State.fastCounted.enterFast (h : s.fastCounted) (w : Fin 192) : (enterFast w s).fastCounted := by
  unfold Machine.enterFast
  split
  · exact h
  · rename_i slow
    refine h.of_one (w := w) (fun x j away => ?_) fun x => ?_
    · rw [hornEnter_fastFor, setWindow_fastFor_of_ne away]
    · rw [hornEnter_fastFor, hornEnter_fastCount, setState_fastFor, fastFor_of_left slow]
      rfl

theorem State.fastCounted.leftFast (h : s.fastCounted) {w : Fin 192} {next : WindowState} (quick : (s.window w).state = .fast)
    (left : next ≠ .fast) : (leftFast w next s).fastCounted := by
  unfold Machine.leftFast
  refine h.of_one (w := w) (fun x j away => ?_) fun x => ?_
  · rw [hornExit_fastFor, setWindow_fastFor_of_ne away]
  · rw [hornExit_fastFor, hornExit_fastCount, setWindow_fastFor_of_left left]
    have here : fastFor s x w = decide (hornOfWindow s w = some x) := by
      unfold fastFor
      simp [quick]
    rw [here]
    by_cases names : hornOfWindow s w = some x
    · have pos := h.pos (here.trans (decide_eq_true names))
      rw [decide_eq_true names]
      have count : ((s.setWindow w { s.window w with state := next }).horn x).fastCount = (s.horn x).fastCount := rfl
      rw [count]
      simp only [Bool.toNat_true, Bool.toNat_false]
      omega
    · rw [decide_eq_false names]
      rfl

/-- A window that is not FAST goes DARK. -/
theorem State.fastCounted.goDark (h : s.fastCounted) {w : Fin 192} (slow : (s.window w).state ≠ .fast) : (goDark w s).fastCounted :=
  State.fastCounted.of_sequence (h.setWindow_left (v := { s.window w with state := .dark }) slow nofun) (goDark_sequence w s)

/-! ### The unit's operations -/

theorem State.fastCounted.countActivation (h : s.fastCounted) (w : Fin 192) : (countActivation w s).fastCounted := h.setWindow_kept rfl rfl
theorem State.fastCounted.countClear (h : s.fastCounted) (w : Fin 192) : (countClear w s).fastCounted := h.setWindow_kept rfl rfl

theorem State.fastCounted.activate (h : s.fastCounted) (w : Fin 192) (capture : Option (Fin 1024 × Nat)) : (activate w capture s).fastCounted := by
  cases runs : sequenceRuns s w with
  | false => exact (h.countActivation w).of_shown (activate_rest_onlyShown runs capture)
  | true => exact ((h.countActivation w).enterFast w).of_sequence (activate_sequence runs capture)

theorem State.fastCounted.clearSource (h : s.fastCounted) (w : Fin 192) : (clearSource w s).fastCounted := by
  have counted := h.countClear w
  unfold Machine.clearSource
  dsimp only
  split
  · rename_i moves
    have steady : ((Machine.countClear w s).window w).state = .steady := of_decide_eq_true (Bool.and_eq_true_iff.mp moves).2
    have slow : ((Machine.countClear w s).window w).state ≠ .fast := by rw [steady]; nofun
    split
    · split
      · exact (counted.setWindow_left (v := { (Machine.countClear w s).window w with state := .slow }) slow nofun).of_shown
          (redisplay_onlyShown w _)
      · exact (counted.goDark slow).of_shown (redisplay_onlyShown w _)
    · exact counted.of_shown (redisplay_onlyShown w _)
  · exact counted.of_shown (redisplay_onlyShown w _)

theorem fastCounted_alarms : KeptByAlarms State.fastCounted where
  seen := fun hs windows groups horns _ _ => hs.of_same (fun x => by rw [State.horn, horns]; rfl) fun _ w =>
    fastFor_congr (by rw [State.window, windows]; rfl)
      (hornOfWindow_congr (by rw [State.window, windows]; rfl) fun _ _ => by rw [State.group, groups]; rfl)
  activate := fun w capture _ hs => hs.activate w capture
  clearSource := fun w _ hs => hs.clearSource w

/-- A panel at rest has no window in FAST and no horn that counts one. -/
theorem panelAtRest_fastCounted {f : Window → WindowState} (rests : ∀ v, f v ≠ .fast) (s : State) : (panelAtRest f s).fastCounted := by
  rw [fastCounted_iff]
  intro x
  rw [panelAtRest_horn, List.countP_eq_zero.mpr]
  · rfl
  · intro w _
    rw [fastFor_of_left (by rw [panelAtRest_window]; exact rests _)]
    nofun

theorem annRestart_fastCounted (s : State) : (annRestart s).fastCounted := by
  rw [annRestart_eq]
  refine State.fastCounted.of_shown (panelAtRest_fastCounted (fun v => ?_) s) ((redisplayAll_onlyShown _).trans (phaseOnWait_onlyShown _))
  split
  · nofun
  · nofun

theorem annEnterConfiguring_fastCounted (s : State) : (annEnterConfiguring s).fastCounted := by
  rw [annEnterConfiguring_eq]
  exact (panelAtRest_fastCounted (fun _ => (nofun : WindowState.dark ≠ .fast)) s).of_shown (redisplayAll_onlyShown _)

theorem State.fastCounted.annEnterRun (h : s.fastCounted) : (annEnterRun s).fastCounted := by
  rw [annEnterRun_eq]
  refine State.fastCounted.of_shown (s := entriesIntoFast s) (State.each_keeps (fun w u hu => ?_) _ _ h) (redisplayAll_onlyShown _)
  split
  · exact hu.enterFast w
  · exact hu

theorem fastCounted_modes : KeptByModes State.fastCounted where
  toKeptByDeliveries := fastCounted_alarms.deliveries
  setMode := fun _ _ _ hs => State.fastCounted.of_same hs (fun _ => rfl) fun _ _ => rfl
  queueOverflow := fun hs => fastCounted_alarms.ofEvents (queueOverflow_touches _) hs
  countActivation := fun w _ hs => hs.countActivation w
  countClear := fun w _ hs => hs.countClear w
  annEnterRun := fun hs => hs.annEnterRun
  annEnterConfiguring := fun _ => annEnterConfiguring_fastCounted _
  annRestart := fun _ => annRestart_fastCounted _

end Sys2Proof.Machine

/-! FAST counts under the unit's remaining operations and its table writes (R60, R66, R67, R84, R95). -/

namespace Sys2Proof.Machine

variable {s t u : State}

theorem fastCounted_unit : KeptByUnit State.fastCounted where
  toKeptByAlarms := fastCounted_alarms
  setHorn := fun x v s same hs => hs.of_same (fun j => by
    rw [State.setHorn_horn]
    split
    · rename_i at_x; rw [at_x, same]
    · rfl) fun _ _ => rfl
  ackWindow := fun w s _ hs => by
    unfold ackWindow
    split
    · rename_i quick
      split
      · rename_i d _
        refine State.fastCounted.of_shown (State.fastCounted.of_sequence (hs.leftFast quick ?_) (leaveFast_sequence w _ s))
          (redisplay_onlyShown w _)
        split
        · nofun
        · cases d.sequence with
          | manualReset => nofun
          | autoReset => nofun
      · exact hs
    · exact hs
  resetWindow := fun w s _ _ hs => by
    unfold resetWindow
    split
    · rename_i slow
      exact State.fastCounted.of_shown (hs.goDark (by rw [slow]; nofun)) (redisplay_onlyShown w _)
    · exact hs
  settleExpiry := fun g s hs => hs.of_sequence (settleExpiry_sequence g s)
  lampOn := fun hs => hs.of_shown (lampOn_onlyShown _)
  lampOff := fun hs => hs.of_shown (lampOff_onlyShown _)
  coldReset := fun ads rsa rsb => fastCounted_iff.mpr fun x => by
    rw [List.countP_eq_zero.mpr fun w _ => by rw [fastFor_of_undefined rfl]; nofun]
    rfl
  setMode := fun _ _ _ _ hs => State.fastCounted.of_same hs (fun _ => rfl) fun _ _ => rfl
  runEntered := fun _ consistent hs => fastCounted_modes.runEntered consistent hs
  configuringEntered := fun _ hs => fastCounted_modes.configuringEntered hs
  restart := fun _ hs => fastCounted_modes.restartAnnunciation hs

/-! ### Windows written and cleared -/

theorem unmarkedFor_hornOf (w : Fin 192) (old : WindowDef) (g : Fin 32) (s : State) :
    hornOfGroup (unmarkedFor w old s) g = hornOfGroup s g := hornOfGroup_congr ((unmarkedFor_sequence w old s).group g)

/-- A FAST window's entry moves from horn to horn, or a window that is not FAST goes DARK: the counts follow its new definition. -/
theorem State.fastCounted.rewriteWindow (h : s.fastCounted) {w : Fin 192} {old : WindowDef} (d : WindowDef)
    (defined : (s.window w).defn = some old) : (rewriteWindow w old d s).fastCounted := by
  have kept := rearmedFor_sequence w old d s
  have before := h.of_sequence kept
  have defn : ((rearmedFor w old d s).window w).defn = some old := (kept.defn w).trans defined
  rw [rewriteWindow_eq]
  refine State.fastCounted.of_shown ?_ (redisplayBoth_onlyShown _ w _)
  generalize hu : rearmedFor w old d s = u at before defn
  have written : redefined w old d s = u.setWindow w { u.window w with defn := some d } := by rw [redefined, hu]
  rw [written]
  have here : (u.setWindow w { u.window w with defn := some d }).window w = { u.window w with defn := some d } :=
    State.setWindow_window_self _ _ _
  have group (g : Fin 32) : hornOfGroup (u.setWindow w { u.window w with defn := some d }) g = hornOfGroup u g := rfl
  by_cases quick : (u.window w).state = .fast
  · have stays : darkened w d (u.setWindow w { u.window w with defn := some d }) = u.setWindow w { u.window w with defn := some d } := by
      unfold darkened
      rw [here]
      exact if_neg fun slow => by rw [show (u.window w).state = .slow from slow.1] at quick; cases quick
    have names (x : Fin 4) : fastFor u x w = decide (hornOfGroup u old.group = some x) := by
      unfold fastFor
      simp [quick, hornOfWindow_of_defined defn]
    have named (x : Fin 4) : fastFor (u.setWindow w { u.window w with defn := some d }) x w = decide (hornOfGroup u d.group = some x) := by
      unfold fastFor
      rw [hornOfWindow_of_defined (d := d) (by rw [here]), here, group]
      simp [quick]
    rw [stays]
    unfold hornMoved
    rw [here]
    split
    · refine before.of_one (w := w) (fun x j away => ?_) fun x => ?_
      · rw [hornEnter_fastFor, hornExit_fastFor, setWindow_fastFor_of_ne away]
      · rw [hornEnter_fastFor, hornExit_fastFor, hornEnter_fastCount, hornExit_fastCount, named, names, group, group]
        have count : ((u.setWindow w { u.window w with defn := some d }).horn x).fastCount = (u.horn x).fastCount := rfl
        rw [count]
        by_cases from_x : hornOfGroup u old.group = some x
        · have pos := before.pos ((names x).trans (decide_eq_true from_x))
          rw [decide_eq_true from_x]
          simp only [Bool.toNat_true]
          omega
        · rw [decide_eq_false from_x]
          simp only [Bool.toNat_false]
          omega
    · rename_i stays
      have same : d.group = old.group := by_contra fun differs => stays ⟨quick, fun same => differs same.symm⟩
      refine before.of_one (w := w) (fun x j away => setWindow_fastFor_of_ne away _ x) fun x => ?_
      rw [named, names, same]
      rfl
  · have slow : (u.setWindow w { u.window w with defn := some d }).fastCounted := before.setWindow_left quick quick
    have dark : (darkened w d (u.setWindow w { u.window w with defn := some d })).fastCounted ∧
        ((darkened w d (u.setWindow w { u.window w with defn := some d })).window w).state ≠ .fast := by
      unfold darkened
      split
      · refine ⟨slow.goDark (by rw [here]; exact quick), ?_⟩
        rw [(goDark_sequence w _).state, State.setWindow_window_self]
        nofun
      · exact ⟨slow, by rw [here]; exact quick⟩
    unfold hornMoved
    rw [if_neg fun moves => dark.2 moves.1]
    exact dark.1

theorem State.fastCounted.applyWindowWrite (h : s.fastCounted) (sound : s.windowsSound) (w : Fin 192) (d : WindowDef) :
    (applyWindowWrite w d s).fastCounted := by
  unfold Machine.applyWindowWrite
  dsimp only
  split
  · rename_i configuring
    have dark : (s.window w).state ≠ .fast := by rw [(sound.1 configuring w).1]; nofun
    exact h.setWindow_left dark dark
  · split
    · rename_i undefined
      exact State.fastCounted.of_shown (h.setWindow (fun _ => fastFor_of_undefined undefined)
        (setWindow_fastFor_of_left (nofun : WindowState.dark ≠ .fast)))
        (redisplay_onlyShown w _)
    · exact h.rewriteWindow d ‹_›

theorem State.fastCounted.applyWindowClear (h : s.fastCounted) (sound : s.windowsSound) (w : Fin 192) : (applyWindowClear w s).fastCounted := by
  cases defined : (s.window w).defn with
  | none => rw [applyWindowClear_undefined defined]; exact h
  | some old =>
    by_cases configuring : s.mode = .configuring
    · rw [applyWindowClear_configuring configuring (by rw [defined]; nofun)]
      have dark : (s.window w).state ≠ .fast := by rw [(sound.1 configuring w).1]; nofun
      exact h.setWindow_left dark dark
    · rw [applyWindowClear_service configuring defined]
      have kept := unmarkedFor_sequence w old s
      have before := h.of_sequence kept
      refine State.fastCounted.of_shown ?_ (redisplayBoth_onlyShown _ w _)
      have names (x : Fin 4) : fastFor (unmarkedFor w old s) x w =
          (decide ((s.window w).state = .fast) && decide (hornOfGroup s old.group = some x)) := by
        unfold fastFor
        rw [Bool.decide_and, kept.state, kept.hornOf, hornOfWindow_of_defined defined]
      refine before.of_one (w := w) (fun x j away => ?_) fun x => ?_
      · rw [setWindow_fastFor_of_ne away]
        unfold hornLeft
        split
        · rw [hornExit_fastFor]
        · rfl
      · rw [setWindow_fastFor_of_left (nofun : WindowState.dark ≠ .fast), State.setWindow_horn]
        unfold hornLeft
        split
        · rename_i quick
          rw [hornExit_fastCount, unmarkedFor_hornOf]
          by_cases from_x : hornOfGroup s old.group = some x
          · have here : fastFor (unmarkedFor w old s) x w = true := by rw [names, quick]; simp [from_x]
            have pos := before.pos here
            rw [here, decide_eq_true from_x]
            simp only [Bool.toNat_true, Bool.toNat_false]
            omega
          · rw [names, decide_eq_false from_x]
            simp
        · rename_i slow
          rw [names, decide_eq_false slow]
          rfl

/-! ### Groups written and cleared -/

/-- A group that no FAST window names may be set to anything. -/
theorem State.fastCounted.setGroup (h : s.fastCounted) {g : Fin 32} (v : Group)
    (unnamed : ∀ w d, (s.window w).defn = some d → d.group = g → (s.window w).state ≠ .fast) : (s.setGroup g v).fastCounted := by
  refine h.of_same (fun _ => rfl) fun x w => ?_
  cases defined : (s.window w).defn with
  | none => rw [fastFor_of_undefined defined]; exact fastFor_of_undefined defined
  | some d =>
    by_cases at_g : d.group = g
    · have left := unnamed w d defined at_g
      rw [fastFor_of_left left]
      exact fastFor_of_left left
    · refine fastFor_congr rfl (hornOfWindow_congr rfl fun d' hd' => ?_)
      rw [defined] at hd'
      cases hd'
      rw [State.setGroup_group, if_neg at_g]

/-- The window is one of the group's. -/
def inGroup (s : State) (g : Fin 32) (w : Fin 192) : Bool :=
  match (s.window w).defn with
  | some d => decide (d.group = g)
  | none => false

theorem inGroup_iff (s : State) (g : Fin 32) (w : Fin 192) : inGroup s g w = true ↔ ∃ d, (s.window w).defn = some d ∧ d.group = g := by
  unfold inGroup
  split
  · rename_i d defined; simp [defined]
  · rename_i undefined; simp [undefined]

/-- In a canonical table the windows of a group are each listed once. -/
theorem windowsOf_perm (canonical : Table.wf {} s.ann.windows = true) (g : Fin 32) :
    (windowsOf s g).Perm ((List.finRange 192).filter (inGroup s g)) := by
  have once : (windowsOf s g).Nodup := ((Table.keys_nodup canonical).filter _).filter _
  refine (List.perm_ext_iff_of_nodup once ((List.nodup_finRange 192).filter _)).mpr fun w => ?_
  rw [mem_windowsOf, List.mem_filter, inGroup_iff, and_iff_right (List.mem_finRange w)]

theorem windowsOf_countP (canonical : Table.wf {} s.ann.windows = true) (g : Fin 32) (p : Fin 192 → Bool) :
    (windowsOf s g).countP p = (List.finRange 192).countP (fun w => p w && inGroup s g w) := by
  rw [(windowsOf_perm canonical g).countP_eq, List.countP_filter]

/-- The FAST windows among those listed. -/
def quickAmong (s : State) (ws : List (Fin 192)) : Nat := ws.countP fun w => decide ((s.window w).state = .fast)

theorem quickAmong_congr {ws : List (Fin 192)} (state : ∀ w, (t.window w).state = (s.window w).state) : quickAmong t ws = quickAmong s ws := by
  unfold quickAmong
  simp only [state]

theorem moveHorn_fastCount (old new : Option (Fin 4)) (w : Fin 192) (x : Fin 4) (s : State) :
    ((moveHorn old new w s).horn x).fastCount = if (s.window w).state = .fast
      then (s.horn x).fastCount - (decide (old = some x)).toNat + (decide (new = some x)).toNat else (s.horn x).fastCount := by
  unfold moveHorn
  split
  · rw [hornEnter_fastCount, hornExit_fastCount]
  · rfl

/-- Every FAST window listed hands its entry from one horn to another. -/
theorem each_moveHorn_fastCount {old new : Option (Fin 4)} (differ : old ≠ new) (ws : List (Fin 192)) (x : Fin 4) (s : State) :
    ((State.each ws (moveHorn old new) s).horn x).fastCount = (s.horn x).fastCount -
      (decide (old = some x)).toNat * quickAmong s ws + (decide (new = some x)).toNat * quickAmong s ws := by
  induction ws generalizing s with
  | nil => simp [quickAmong]
  | cons w ws ih =>
    have rest : quickAmong (moveHorn old new w s) ws = quickAmong s ws := quickAmong_congr fun j => by rw [moveHorn_window]
    have first : quickAmong s (w :: ws) = quickAmong s ws + if (s.window w).state = .fast then 1 else 0 := by
      unfold quickAmong
      rw [List.countP_cons]
      simp
    rw [State.each_cons, ih, rest, first, moveHorn_fastCount]
    by_cases from_x : old = some x
    · have not_to : new ≠ some x := fun to_x => differ (from_x.trans to_x.symm)
      rw [decide_eq_true from_x, decide_eq_false not_to]
      simp only [Bool.toNat_true, Bool.toNat_false]
      split
      · omega
      · omega
    · rw [decide_eq_false from_x]
      by_cases to_x : new = some x
      · rw [decide_eq_true to_x]
        simp only [Bool.toNat_true, Bool.toNat_false]
        split
        · omega
        · omega
      · rw [decide_eq_false to_x]
        simp

theorem each_moveHorn_group (old new : Option (Fin 4)) (ws : List (Fin 192)) (s : State) (g : Fin 32) :
    (State.each ws (moveHorn old new) s).group g = s.group g := by
  refine State.each_keeps (P := fun u => u.group g = s.group g) (fun w u same => ?_) ws s rfl
  unfold moveHorn
  split
  · rw [hornEnter_group, hornExit_group]; exact same
  · exact same

theorem countP_or_of_disjoint {α : Type} (p q : α → Bool) (l : List α) (disjoint : ∀ a ∈ l, ¬ (p a = true ∧ q a = true)) :
    l.countP (fun a => p a || q a) = l.countP p + l.countP q := by
  induction l with
  | nil => rfl
  | cons a l ih =>
    have here := disjoint a List.mem_cons_self
    rw [List.countP_cons, List.countP_cons, List.countP_cons, ih fun b hb => disjoint b (List.mem_cons_of_mem a hb)]
    cases hp : p a with
    | false => simp [Nat.add_assoc]
    | true =>
      cases hq : q a with
      | false => simp; omega
      | true => exact absurd ⟨hp, hq⟩ here

/-- The windows in FAST for a horn: those of one group, if it names the horn, and the others. -/
theorem countP_fastFor_split (canonical : Table.wf {} s.ann.windows = true) (g : Fin 32) (x : Fin 4) :
    (List.finRange 192).countP (fastFor s x) = (decide (hornOfGroup s g = some x)).toNat * quickAmong s (windowsOf s g) +
      (List.finRange 192).countP (fun w => fastFor s x w && !inGroup s g w) := by
  have split : fastFor s x = fun w => (fastFor s x w && inGroup s g w) || (fastFor s x w && !inGroup s g w) := by
    funext w
    cases fastFor s x w <;> cases inGroup s g w <;> rfl
  have own : (List.finRange 192).countP (fun w => fastFor s x w && inGroup s g w) =
      (decide (hornOfGroup s g = some x)).toNat * quickAmong s (windowsOf s g) := by
    rw [quickAmong, windowsOf_countP canonical]
    by_cases names : hornOfGroup s g = some x
    · rw [decide_eq_true names, Bool.toNat_true, Nat.one_mul]
      refine List.countP_congr fun w _ => ?_
      rw [Bool.and_eq_true, Bool.and_eq_true, fastFor_iff, inGroup_iff, decide_eq_true_iff]
      constructor
      · rintro ⟨⟨quick, -⟩, own⟩
        exact ⟨quick, own⟩
      · rintro ⟨quick, d, defined, at_g⟩
        exact ⟨⟨quick, by rw [hornOfWindow_of_defined defined, at_g, names]⟩, d, defined, at_g⟩
    · rw [decide_eq_false names, Bool.toNat_false, Nat.zero_mul]
      refine List.countP_eq_zero.mpr fun w _ => ?_
      rw [Bool.and_eq_true, fastFor_iff, inGroup_iff]
      rintro ⟨⟨-, horn⟩, d, defined, at_g⟩
      rw [hornOfWindow_of_defined defined, at_g] at horn
      exact names horn
  calc (List.finRange 192).countP (fastFor s x)
      = (List.finRange 192).countP (fun w => (fastFor s x w && inGroup s g w) || (fastFor s x w && !inGroup s g w)) := by rw [← split]
    _ = (List.finRange 192).countP (fun w => fastFor s x w && inGroup s g w) +
        (List.finRange 192).countP (fun w => fastFor s x w && !inGroup s g w) := by
      refine countP_or_of_disjoint _ _ _ fun w _ => ?_
      simp only [Bool.and_eq_true, Bool.not_eq_true']
      rintro ⟨⟨-, own⟩, -, other⟩
      rw [own] at other
      cases other
    _ = _ := by rw [own]

/-- A written group's new definition, with the first-out states and marks that follow. -/
theorem regrouped_sequence (g : Fin 32) (d : GroupDef) (s : State) :
    (s.setGroup g { s.group g with defn := some d }).sameSequence (regrouped g d s) :=
  disarmed_sequence g d _ _

theorem regrouped_hornOf (g k : Fin 32) (d : GroupDef) (s : State) :
    hornOfGroup (regrouped g d s) k = if k = g then d.horn else hornOfGroup s k := by
  rw [hornOfGroup_congr ((regrouped_sequence g d s).group k)]
  unfold hornOfGroup
  rw [State.setGroup_group]
  by_cases at_g : k = g
  · rw [if_pos at_g, if_pos at_g]
  · rw [if_neg at_g, if_neg at_g]

theorem regrouped_inGroup (g k : Fin 32) (d : GroupDef) (s : State) (w : Fin 192) : inGroup (regrouped g d s) k w = inGroup s k w := by
  unfold inGroup
  rw [(regrouped_sequence g d s).defn]
  rfl

theorem State.panelTables.regrouped (h : s.panelTables) (g : Fin 32) (d : GroupDef) : (regrouped g d s).panelTables := by
  have written : (s.setGroup g { s.group g with defn := some d }).panelTables :=
    panelTables_rows.setGroup g _ (.inr (.inl nofun)) (fun sound => sound) h
  unfold Machine.regrouped disarmed
  split
  · exact panelTables_rows.redisplayAt _ (panelTables_rows.rearm g written)
  · exact written

theorem State.fastCounted.rewriteGroup (h : s.fastCounted) (tables : s.panelTables) {g : Fin 32} {old : GroupDef}
    (d : GroupDef) (defined : (s.group g).defn = some old) : (rewriteGroup g old d s).fastCounted := by
  have kept := regrouped_sequence g d s
  have defn (w : Fin 192) : ((regrouped g d s).window w).defn = (s.window w).defn := kept.defn w
  have state (w : Fin 192) : ((regrouped g d s).window w).state = (s.window w).state := kept.state w
  have horn (x : Fin 4) : (regrouped g d s).horn x = s.horn x := kept.horn x
  have named : hornOfGroup s g = old.horn := by
    unfold hornOfGroup
    rw [defined]
  have others (x : Fin 4) (w : Fin 192) (outside : inGroup s g w = false) : fastFor (regrouped g d s) x w = fastFor s x w := by
    refine fastFor_congr (state w) ?_
    unfold hornOfWindow
    rw [defn]
    cases hd : (s.window w).defn with
    | none => rfl
    | some wd =>
      dsimp only
      rw [regrouped_hornOf, if_neg]
      intro at_g
      rw [(inGroup_iff s g w).mpr ⟨wd, hd, at_g⟩] at outside
      cases outside
  have canonical := tables.1
  have table := (tables.regrouped g d).1
  have quick : quickAmong (regrouped g d s) (windowsOf (regrouped g d s) g) = quickAmong s (windowsOf s g) := by
    rw [quickAmong, windowsOf_countP table, quickAmong, windowsOf_countP canonical]
    simp only [state, regrouped_inGroup]
  have rest (x : Fin 4) : (List.finRange 192).countP (fun w => fastFor (regrouped g d s) x w && !inGroup (regrouped g d s) g w) =
      (List.finRange 192).countP (fun w => fastFor s x w && !inGroup s g w) := by
    refine congrArg (List.countP · _) (funext fun w => ?_)
    rw [regrouped_inGroup]
    cases outside : inGroup s g w with
    | true => simp
    | false => rw [others x w outside]
  have before (x : Fin 4) := countP_fastFor_split canonical g x
  have after (x : Fin 4) := countP_fastFor_split table g x
  rw [fastCounted_iff] at h
  have counted : ∀ x, (((Machine.rewriteGroup g old d s)).horn x).fastCount = (List.finRange 192).countP (fastFor (regrouped g d s) x) := by
    intro x
    rw [after, quick, rest, regrouped_hornOf, if_pos rfl]
    have total := (h x).trans (before x)
    rw [named] at total
    rw [rewriteGroup_eq]
    split
    · rename_i same
      rw [horn, total, same]
    · rename_i differ
      rw [each_moveHorn_fastCount differ, quick, horn]
      by_cases from_x : old.horn = some x
      · rw [decide_eq_true from_x] at total ⊢
        simp only [Bool.toNat_true, Nat.one_mul] at total ⊢
        omega
      · rw [decide_eq_false from_x] at total ⊢
        simp only [Bool.toNat_false, Nat.zero_mul] at total ⊢
        omega
  refine fastCounted_iff.mpr fun x => (counted x).trans (List.countP_congr fun w _ => ?_)
  have same : fastFor (Machine.rewriteGroup g old d s) x w = fastFor (regrouped g d s) x w := by
    rw [rewriteGroup_eq]
    split
    · rfl
    · exact fastFor_congr (by rw [each_moveHorn_window])
        (hornOfWindow_congr (by rw [each_moveHorn_window]) fun _ _ => by rw [each_moveHorn_group])
  rw [same]

/-- In CONFIGURING no window is in FAST. -/
theorem State.windowsSound.notFast (h : s.windowsSound) (configuring : s.mode = .configuring) (w : Fin 192) : (s.window w).state ≠ .fast := by
  rw [(h.1 configuring w).1]
  nofun

theorem State.fastCounted.applyGroupWrite (h : s.fastCounted) (tables : s.panelTables) (sound : s.windowsSound) (known : s.groupsKnown)
    (g : Fin 32) (d : GroupDef) : (applyGroupWrite g d s).fastCounted := by
  unfold Machine.applyGroupWrite
  split
  · rename_i undefined
    refine h.setGroup _ fun w x defined at_g => ?_
    by_cases configuring : s.mode = .configuring
    · exact sound.notFast configuring w
    · exact absurd (at_g ▸ undefined) (known configuring w x defined)
  · rename_i old defined
    split
    · rename_i configuring
      exact h.setGroup _ fun w _ _ _ => sound.notFast configuring w
    · exact h.rewriteGroup tables d defined

theorem State.fastCounted.groupClear (h : s.fastCounted) (sound : s.windowsSound) (g : Fin 32)
    (unused : s.mode ≠ .configuring → groupInUse s g = false) : (s.setGroup g {}).fastCounted := by
  refine h.setGroup _ fun w x defined at_g => ?_
  by_cases configuring : s.mode = .configuring
  · exact sound.notFast configuring w
  · exact absurd at_g ((groupInUse_eq_false s g).mp (unused configuring) w x defined)

/-! ### Ticks -/

/-- In a canonical table a tick reaches the settle timers of the groups alone. -/
theorem tick_group (canonical : Table.wf {} s.ann.groups = true) (g : Fin 32) :
    ({ s with ann := s.ann.tick } : State).group g = { s.group g with settle := (s.group g).settle.tick } :=
  Table.get_mapCells ({} : Group) (fun v => { v with settle := v.settle.tick }) s.ann.groups canonical rfl g

theorem State.fastCounted.tick (h : s.fastCounted) (canonical : Table.wf {} s.ann.groups = true) :
    ({ s with ann := s.ann.tick } : State).fastCounted :=
  State.fastCounted.of_same h (fun _ => rfl) fun _ _ => fastFor_congr rfl (hornOfWindow_congr rfl fun d _ => by rw [tick_group canonical])

/-! ### Every step -/

theorem KeptByPanelRows.and {P Q : State → Prop} (h : KeptByPanelRows P) (k : KeptByPanelRows Q) : KeptByPanelRows (fun s => P s ∧ Q s) where
  frame := fun hs windows groups horns drivers waiting mode =>
    ⟨h.frame hs.1 windows groups horns drivers waiting mode, k.frame hs.2 windows groups horns drivers waiting mode⟩
  setMode := fun m _ consistent hs => ⟨h.setMode m consistent hs.1, k.setMode m consistent hs.2⟩
  setWindow := fun w v _ known hs => ⟨h.setWindow w v known hs.1, k.setWindow w v known hs.2⟩
  setWindows := fun f _ same hs => ⟨h.setWindows f same hs.1, k.setWindows f same hs.2⟩
  setGroup := fun g v _ known sound hs => ⟨h.setGroup g v known sound hs.1, k.setGroup g v known sound hs.2⟩
  setHorn := fun x v _ agrees hs => ⟨h.setHorn x v agrees hs.1, k.setHorn x v agrees hs.2⟩
  joinDriver := fun d _ hs => ⟨h.joinDriver d hs.1, k.joinDriver d hs.2⟩
  coldReset := fun ads rsa rsb => ⟨h.coldReset ads rsa rsb, k.coldReset ads rsa rsb⟩
  tick := fun hs => ⟨h.tick hs.1, k.tick hs.2⟩
  takeDriverHead := fun hs head => ⟨h.takeDriverHead hs.1 head, k.takeDriverHead hs.2 head⟩
  driver := fun d a _ hs => ⟨h.driver d a hs.1, k.driver d a hs.2⟩
  join := fun hs ht drivers => ⟨h.join hs.1 ht.1 drivers, k.join hs.2 ht.2 drivers⟩

/-- What the FAST counts need: the groups of defined windows known, canonical tables, and windows that agree with their counts. -/
def State.countable (s : State) : Prop := (s.groupsKnown ∧ s.panelTables) ∧ s.windowsSound

theorem countable_rows : KeptByRows State.countable := windowsSound_rows (groupsKnown_rows.and panelTables_rows).rows

theorem fastCounted_rows : KeptByRows (fun s => s.countable ∧ s.fastCounted) :=
  fastCounted_unit.rows_given countable_rows (fun hq hs => hs.tick hq.1.2.2)
    (fun w d _ _ hq hs => hs.applyWindowWrite hq.2 w d) (fun w _ hq hs => hs.applyWindowClear hq.2 w)
    (fun g d _ hq hs => hs.applyGroupWrite hq.1.2 hq.2 hq.1.1 g d) (fun g _ unused hq hs => hs.groupClear hq.2 g unused)

theorem canonical_panelTables (canonical : s.canonical = true) : s.panelTables := by
  unfold State.canonical at canonical
  simp only [Bool.and_eq_true] at canonical
  exact ⟨by tauto, by tauto⟩

theorem step_keeps_fastCounted (canonical : s.canonical = true) (sound : s.windowsSound) (known : s.groupsKnown) (h : s.fastCounted)
    (hstep : step s = .next t) : t.fastCounted :=
  (fastCounted_rows.step ⟨⟨⟨known, canonical_panelTables canonical⟩, sound⟩, h⟩ hstep).2

end Sys2Proof.Machine

/-! Every step keeps the first-out marks (R82, R85 to R90). -/

namespace Sys2Proof.Machine

variable {s t u : State}

/-! ### Recorded windows -/

/-- The window is recorded as first-out by its own group, which is not ARMED. -/
def recorded (s : State) (w : Fin 192) : Prop :=
  ∃ d, (s.window w).defn = some d ∧ (s.group d.group).state ≠ .armed ∧ (s.group d.group).foWindow = some w

/-- Groups record windows of their own alone. -/
def ownWindows (s : State) : Prop := ∀ (g : Fin 32) (w : Fin 192), (s.group g).foWindow = some w → ∃ d, (s.window w).defn = some d ∧ d.group = g

theorem marksSound_iff : s.marksSound ↔ (∀ w, (s.window w).mark = true ↔ recorded s w) ∧ ownWindows s := by
  refine and_congr_left fun own => forall_congr' fun w => ?_
  refine iff_congr Iff.rfl ⟨fun ⟨g, state, first⟩ => ?_, fun ⟨d, _, state, first⟩ => ⟨d.group, state, first⟩⟩
  obtain ⟨d, defined, at_g⟩ := own g w first
  exact ⟨d, defined, at_g ▸ state, at_g ▸ first⟩

/-- Definitions and marks of windows, and first-out states and windows of groups, stay as they are. -/
structure State.sameFirstOut (s t : State) : Prop where
  defn : ∀ w, (t.window w).defn = (s.window w).defn
  mark : ∀ w, (t.window w).mark = (s.window w).mark
  armed : ∀ g, (t.group g).state = .armed ↔ (s.group g).state = .armed
  first : ∀ g, (t.group g).foWindow = (s.group g).foWindow

theorem State.sameFirstOut.refl (s : State) : s.sameFirstOut s := ⟨fun _ => rfl, fun _ => rfl, fun _ => Iff.rfl, fun _ => rfl⟩

theorem State.sameFirstOut.trans (h : s.sameFirstOut t) (k : t.sameFirstOut u) : s.sameFirstOut u :=
  ⟨fun w => (k.defn w).trans (h.defn w), fun w => (k.mark w).trans (h.mark w), fun g => (k.armed g).trans (h.armed g),
   fun g => (k.first g).trans (h.first g)⟩

/-- Nothing of a group changes, and of windows neither definition nor mark. -/
theorem State.sameFirstOut.of_groups (defn : ∀ w, (t.window w).defn = (s.window w).defn) (mark : ∀ w, (t.window w).mark = (s.window w).mark)
    (group : ∀ g, t.group g = s.group g) : s.sameFirstOut t :=
  ⟨defn, mark, fun g => by rw [group], fun g => by rw [group]⟩

theorem State.marksSound.of_same (h : s.marksSound) (k : s.sameFirstOut t) : t.marksSound := by
  obtain ⟨marks, own⟩ := marksSound_iff.mp h
  refine marksSound_iff.mpr ⟨fun w => ?_, fun g w first => ?_⟩
  · rw [k.mark, marks w]
    refine exists_congr fun d => ?_
    rw [k.defn, k.first, Ne, Ne, k.armed]
  · rw [k.defn]
    exact own g w ((k.first g).symm.trans first)

theorem State.onlyShown.firstOut (h : s.onlyShown t) : s.sameFirstOut t :=
  .of_groups (fun w => by rw [h.window w]) (fun w => by rw [h.window w]) fun g => by rw [State.group, h.groups]; rfl

/-- A window's state or count changes. -/
theorem setWindow_firstOut {w : Fin 192} {v : Window} (defn : v.defn = (s.window w).defn) (mark : v.mark = (s.window w).mark) :
    s.sameFirstOut (s.setWindow w v) := by
  have here (j : Fin 192) : (s.setWindow w v).window j = if j = w then v else s.window j := State.setWindow_window s w j v
  refine .of_groups (fun j => ?_) (fun j => ?_) fun _ => rfl
  · rw [here]; split
    · rename_i at_w; rw [at_w, defn]
    · rfl
  · rw [here]; split
    · rename_i at_w; rw [at_w, mark]
    · rfl

theorem hornEnter_firstOut (x : Option (Fin 4)) (s : State) : s.sameFirstOut (hornEnter x s) :=
  .of_groups (fun w => by rw [hornEnter_window]) (fun w => by rw [hornEnter_window]) (hornEnter_group x s)

theorem hornExit_firstOut (x : Option (Fin 4)) (s : State) : s.sameFirstOut (hornExit x s) :=
  .of_groups (fun w => by rw [hornExit_window]) (fun w => by rw [hornExit_window]) (hornExit_group x s)

/-- A group's definition or settle timer changes. -/
theorem setGroup_firstOut {g : Fin 32} {v : Group} (armed : v.state = .armed ↔ (s.group g).state = .armed)
    (first : v.foWindow = (s.group g).foWindow) : s.sameFirstOut (s.setGroup g v) := by
  have here (k : Fin 32) : (s.setGroup g v).group k = if k = g then v else s.group k := State.setGroup_group s g k v
  refine ⟨fun _ => rfl, fun _ => rfl, fun k => ?_, fun k => ?_⟩
  · rw [here]; split
    · rename_i at_g; rw [at_g, armed]
    · rfl
  · rw [here]; split
    · rename_i at_g; rw [at_g, first]
    · rfl

/-! ### First-out windows that change -/

/-- A group that returns to ARMED takes the mark of its window away (R90). -/
theorem State.marksSound.rearm (h : s.marksSound) (g : Fin 32) : (rearm g s).marksSound := by
  obtain ⟨marks, own⟩ := marksSound_iff.mp h
  have defn (w : Fin 192) : ((Machine.rearm g s).window w).defn = (s.window w).defn := (rearm_sequence g s).defn w
  refine marksSound_iff.mpr ⟨fun w => ?_, fun k w first => ?_⟩
  · by_cases taken : (s.group g).foWindow = some w
    · obtain ⟨d, defined, at_g⟩ := own g w taken
      rw [rearm_window, if_pos taken]
      refine iff_of_false nofun fun ⟨d', defined', state, _⟩ => ?_
      rw [defn, defined] at defined'
      cases defined'
      rw [rearm_group, if_pos at_g] at state
      exact state rfl
    · rw [rearm_window, if_neg taken, marks w]
      refine exists_congr fun d => ?_
      rw [defn, rearm_group]
      refine and_congr_right fun _ => ?_
      split
      · rename_i at_g
        exact iff_of_false (fun both => taken (at_g ▸ both.2)) fun both => both.1 rfl
      · rfl
  · rw [rearm_group] at first
    rw [defn]
    split at first
    · cases first
    · exact own k w first

theorem moveMark_window (old : Option (Fin 192)) (w j : Fin 192) (s : State) : (moveMark old w s).window j =
    { s.window j with mark := if j = w then true else if old = some j then false else (s.window j).mark } := by
  have unmarked : (unmark old s).window j = { s.window j with mark := if old = some j then false else (s.window j).mark } := by
    cases old with
    | none => rfl
    | some x =>
      rw [unmark, setMark, State.setWindow_window]
      by_cases at_x : j = x
      · subst at_x; rw [if_pos rfl, if_pos rfl]
      · rw [if_neg at_x, if_neg fun same => at_x (Option.some.inj same).symm]
  rw [moveMark, setMark, State.setWindow_window]
  by_cases at_w : j = w
  · subst at_w
    rw [if_pos rfl, if_pos rfl, unmarked]
  · rw [if_neg at_w, if_neg at_w, unmarked]

/-- A group that is not ARMED any more records one of its own windows, and the mark moves to it (R86, R87). -/
theorem State.marksSound.record (h : s.marksSound) {g : Fin 32} {w : Fin 192} {v : Group} {d : WindowDef} (defined : (s.window w).defn = some d)
    (at_g : d.group = g) (state : v.state ≠ .armed) (first : v.foWindow = some w) :
    ((moveMark (s.group g).foWindow w s).setGroup g v).marksSound := by
  obtain ⟨marks, own⟩ := marksSound_iff.mp h
  have defn (j : Fin 192) : (((moveMark (s.group g).foWindow w s).setGroup g v).window j).defn = (s.window j).defn := by
    rw [State.setGroup_window, moveMark_window]
  have group (k : Fin 32) : ((moveMark (s.group g).foWindow w s).setGroup g v).group k = if k = g then v else s.group k := by
    rw [State.setGroup_group, moveMark_group]
  refine marksSound_iff.mpr ⟨fun j => ?_, fun k j taken => ?_⟩
  · unfold recorded
    rw [defn, State.setGroup_window, moveMark_window]
    dsimp only
    by_cases at_w : j = w
    · subst at_w
      rw [if_pos rfl]
      refine iff_of_true rfl ⟨d, defined, ?_⟩
      rw [group, if_pos at_g]
      exact ⟨state, first⟩
    · rw [if_neg at_w]
      have away : ¬ some w = some j := fun same => at_w (Option.some.inj same).symm
      by_cases taken : (s.group g).foWindow = some j
      · obtain ⟨d', defined', at_g'⟩ := own g j taken
        rw [if_pos taken]
        refine iff_of_false nofun fun ⟨x, hx, _, first'⟩ => ?_
        rw [defined'] at hx
        cases hx
        rw [group, if_pos at_g', first] at first'
        exact away first'
      · rw [if_neg taken, marks j]
        refine exists_congr fun x => and_congr_right fun _ => ?_
        rw [group]
        split
        · rename_i own_g
          rw [first]
          exact iff_of_false (fun both => taken (own_g ▸ both.2)) fun both => away both.2
        · rfl
  · rw [group] at taken
    rw [defn]
    split at taken
    · rename_i at_k
      rw [first] at taken
      cases taken
      exact ⟨d, defined, at_g.trans at_k.symm⟩
    · exact own k j taken

theorem State.marksSound.takeOffer (h : s.marksSound) {g : Fin 32} {w : Fin 192} {d : WindowDef} (defined : (s.window w).defn = some d)
    (at_g : d.group = g) (p : Fin 1024) (n : Nat) : (takeOffer g w p n s).marksSound := by
  have taken := takeOffer_taken g w p n s
  generalize Machine.takeOffer g w p n s = t at taken ⊢
  cases taken with
  | idle => exact h
  | captured gd armed known now =>
    exact State.marksSound.of_same (h.record defined at_g (nofun : GroupState.captured ≠ .armed) rfl) (offer_onlyShown _ _).firstOut
  | provisional gd armed known later => exact h.record defined at_g (nofun : GroupState.provisional ≠ .armed) rfl
  | earlier x provisional first wins => exact h.record defined at_g (by rw [provisional]; nofun) rfl

theorem State.marksSound.offeredTo (h : s.marksSound) (w : Fin 192) (capture : Option (Fin 1024 × Nat)) : (offeredTo w capture s).marksSound := by
  cases capture with
  | none => exact h
  | some c =>
    unfold Machine.offeredTo offerActivation
    dsimp only
    split
    · rename_i d defined
      split
      · split
        · exact h.takeOffer defined rfl c.1 c.2
        · exact h
      · exact h
    · exact h

theorem State.marksSound.reachedDark (h : s.marksSound) (w : Fin 192) : (reachedDark w s).marksSound := by
  unfold Machine.reachedDark
  split
  · split
    · exact h.rearm _
    · exact h
  · exact h

theorem State.marksSound.goDark (h : s.marksSound) (w : Fin 192) : (goDark w s).marksSound :=
  State.marksSound.reachedDark (s := s.setWindow w { s.window w with state := .dark }) (h.of_same (setWindow_firstOut rfl rfl)) w

theorem enterFast_firstOut (w : Fin 192) (s : State) : s.sameFirstOut (enterFast w s) := by
  unfold enterFast
  split
  · exact .refl s
  · exact .trans (t := s.setWindow w { s.window w with state := .fast }) (setWindow_firstOut rfl rfl) (hornEnter_firstOut _ _)

theorem leftFast_firstOut (w : Fin 192) (next : WindowState) (s : State) : s.sameFirstOut (leftFast w next s) :=
  .trans (t := s.setWindow w { s.window w with state := next }) (setWindow_firstOut rfl rfl) (hornExit_firstOut _ _)

theorem State.marksSound.leaveFast (h : s.marksSound) (w : Fin 192) (next : WindowState) : (leaveFast w next s).marksSound := by
  have left : (leftFast w next s).marksSound := h.of_same (leftFast_firstOut w next s)
  unfold Machine.leaveFast
  dsimp only
  split
  · exact left.reachedDark w
  · exact left

/-! ### The unit's operations -/

theorem countActivation_firstOut (w : Fin 192) (s : State) : s.sameFirstOut (countActivation w s) := setWindow_firstOut rfl rfl
theorem countClear_firstOut (w : Fin 192) (s : State) : s.sameFirstOut (countClear w s) := setWindow_firstOut rfl rfl

theorem State.marksSound.activate (h : s.marksSound) (w : Fin 192) (capture : Option (Fin 1024 × Nat)) : (activate w capture s).marksSound := by
  have counted := h.of_same (countActivation_firstOut w s)
  cases runs : sequenceRuns s w with
  | false => exact counted.of_same (activate_rest_onlyShown runs capture).firstOut
  | true =>
    rw [activate_of_runs runs]
    have entered : (activated w s).marksSound := counted.of_same (enterFast_firstOut w _)
    exact (entered.offeredTo w capture).of_same (redisplayBoth_onlyShown _ w _).firstOut

theorem State.marksSound.clearSource (h : s.marksSound) (w : Fin 192) : (clearSource w s).marksSound := by
  have counted := h.of_same (countClear_firstOut w s)
  unfold Machine.clearSource
  dsimp only
  split
  · split
    · split
      · refine State.marksSound.of_same (counted.of_same (setWindow_firstOut ?_ ?_)) (redisplay_onlyShown w _).firstOut
        · rfl
        · rfl
      · exact (counted.goDark w).of_same (redisplay_onlyShown w _).firstOut
    · exact counted.of_same (redisplay_onlyShown w _).firstOut
  · exact counted.of_same (redisplay_onlyShown w _).firstOut

theorem marksSound_alarms : KeptByAlarms State.marksSound where
  seen := fun hs windows groups _ _ _ => hs.of_same (.of_groups (fun w => by rw [State.window, windows]; rfl)
    (fun w => by rw [State.window, windows]; rfl) fun g => by rw [State.group, groups]; rfl)
  activate := fun w capture _ hs => hs.activate w capture
  clearSource := fun w _ hs => hs.clearSource w

/-- A panel at rest has no mark and no first-out window. -/
theorem panelAtRest_marksSound (f : Window → WindowState) (s : State) : (panelAtRest f s).marksSound := by
  refine marksSound_iff.mpr ⟨fun w => ?_, fun g w first => ?_⟩
  · rw [panelAtRest_window]
    refine iff_of_false nofun fun ⟨d, _, _, first⟩ => ?_
    rw [panelAtRest_group] at first
    cases first
  · rw [panelAtRest_group] at first
    cases first

theorem annEnterConfiguring_marksSound (s : State) : (annEnterConfiguring s).marksSound := by
  rw [annEnterConfiguring_eq]
  exact (panelAtRest_marksSound _ s).of_same (redisplayAll_onlyShown _).firstOut

theorem annRestart_marksSound (s : State) : (annRestart s).marksSound := by
  rw [annRestart_eq]
  exact (panelAtRest_marksSound _ s).of_same ((redisplayAll_onlyShown _).trans (phaseOnWait_onlyShown _)).firstOut

theorem State.marksSound.annEnterRun (h : s.marksSound) : (annEnterRun s).marksSound := by
  rw [annEnterRun_eq]
  refine State.marksSound.of_same (s := entriesIntoFast s) (State.each_keeps (fun w u hu => ?_) _ _ h) (redisplayAll_onlyShown _).firstOut
  split
  · exact hu.of_same (enterFast_firstOut w u)
  · exact hu

theorem marksSound_modes : KeptByModes State.marksSound where
  toKeptByDeliveries := marksSound_alarms.deliveries
  setMode := fun _ _ _ hs => hs
  queueOverflow := fun hs => marksSound_alarms.ofEvents (queueOverflow_touches _) hs
  countActivation := fun w _ hs => hs.of_same (countActivation_firstOut w _)
  countClear := fun w _ hs => hs.of_same (countClear_firstOut w _)
  annEnterRun := fun hs => hs.annEnterRun
  annEnterConfiguring := fun _ => annEnterConfiguring_marksSound _
  annRestart := fun _ => annRestart_marksSound _

theorem marksSound_unit : KeptByUnit State.marksSound where
  toKeptByAlarms := marksSound_alarms
  setHorn := fun _ _ _ _ hs => hs
  ackWindow := fun w s _ hs => by
    unfold ackWindow
    split
    · split
      · exact (hs.leaveFast w _).of_same (redisplay_onlyShown w _).firstOut
      · exact hs
    · exact hs
  resetWindow := fun w s _ _ hs => by
    unfold resetWindow
    split
    · exact (hs.goDark w).of_same (redisplay_onlyShown w _).firstOut
    · exact hs
  settleExpiry := fun g s hs => by
    unfold settleExpiry
    split
    · rename_i due
      refine State.marksSound.of_same (hs.of_same (setGroup_firstOut ?_ ?_)) (offer_onlyShown _ _).firstOut
      · rw [due.2]
        exact iff_of_false nofun nofun
      · rfl
    · exact hs
  lampOn := fun hs => hs.of_same (lampOn_onlyShown _).firstOut
  lampOff := fun hs => hs.of_same (lampOff_onlyShown _).firstOut
  coldReset := fun _ _ _ => marksSound_iff.mpr ⟨fun _ => iff_of_false nofun fun ⟨_, _, _, first⟩ => (nomatch first), fun _ _ first => nomatch first⟩
  setMode := fun _ _ _ _ hs => hs
  runEntered := fun _ consistent hs => marksSound_modes.runEntered consistent hs
  configuringEntered := fun _ hs => marksSound_modes.configuringEntered hs
  restart := fun _ hs => marksSound_modes.restartAnnunciation hs

/-! ### Table writes -/

/-- No group records the window. -/
def unrecorded (s : State) (w : Fin 192) : Prop := ∀ g, (s.group g).foWindow ≠ some w

/-- In a sound unit a window with no mark is recorded by no group. -/
theorem State.marksSound.unrecorded_of_unmarked (h : s.marksSound) (groups : s.groupsSound) {w : Fin 192} (unmarked : (s.window w).mark = false) :
    unrecorded s w := fun g first => by
  have left : (s.group g).state ≠ .armed := fun armed => by
    rw [((groups.2 g).1 armed).1] at first
    cases first
  have recorded : (s.window w).mark = true := (h.1 w).mpr ⟨g, left, first⟩
  rw [unmarked] at recorded
  cases recorded

theorem State.marksSound.unrecorded_of_undefined (h : s.marksSound) {w : Fin 192} (undefined : (s.window w).defn = none) : unrecorded s w :=
  fun g first => by
    obtain ⟨d, defined, -⟩ := h.2 g w first
    rw [undefined] at defined
    cases defined

/-- A window that no group records may be set to anything without a mark. -/
theorem State.marksSound.setWindow (h : s.marksSound) {w : Fin 192} {v : Window} (unrecorded : unrecorded s w) (unmarked : v.mark = false) :
    (s.setWindow w v).marksSound := by
  obtain ⟨marks, own⟩ := marksSound_iff.mp h
  refine marksSound_iff.mpr ⟨fun j => ?_, fun g j first => ?_⟩
  · unfold recorded
    rw [State.setWindow_window]
    split
    · rename_i at_w
      rw [unmarked, at_w]
      exact iff_of_false nofun fun ⟨d, _, _, first⟩ => unrecorded d.group first
    · exact marks j
  · have away : j ≠ w := fun at_w => unrecorded g (at_w ▸ first)
    rw [State.setWindow_window, if_neg away]
    exact own g j first

/-- A window may take another definition in the same group. -/
theorem State.marksSound.setWindow_sameGroup (h : s.marksSound) {w : Fin 192} {v : Window} {old d : WindowDef}
    (defined : (s.window w).defn = some old) (defn : v.defn = some d) (group : d.group = old.group) (mark : v.mark = (s.window w).mark) :
    (s.setWindow w v).marksSound := by
  obtain ⟨marks, own⟩ := marksSound_iff.mp h
  refine marksSound_iff.mpr ⟨fun j => ?_, fun g j first => ?_⟩
  · unfold recorded
    rw [State.setWindow_window]
    split
    · rename_i at_w
      subst at_w
      rw [mark, marks j, defn]
      constructor
      · rintro ⟨x, hx, state, first⟩
        rw [defined] at hx
        cases hx
        exact ⟨d, rfl, group ▸ state, group ▸ first⟩
      · rintro ⟨x, hx, state, first⟩
        cases hx
        exact ⟨old, defined, group ▸ state, group ▸ first⟩
    · exact marks j
  · obtain ⟨x, hx, at_g⟩ := own g j first
    rw [State.setWindow_window]
    split
    · rename_i at_w
      subst at_w
      rw [defined] at hx
      cases hx
      exact ⟨d, defn, group.trans at_g⟩
    · exact ⟨x, hx, at_g⟩

/-- A group that records no window may be set to anything that records none. -/
theorem State.marksSound.setGroup (h : s.marksSound) {g : Fin 32} {v : Group} (old : (s.group g).foWindow = none) (new : v.foWindow = none) :
    (s.setGroup g v).marksSound := by
  obtain ⟨marks, own⟩ := marksSound_iff.mp h
  refine marksSound_iff.mpr ⟨fun w => (marks w).trans (exists_congr fun d => and_congr_right fun _ => ?_), fun k w first => ?_⟩
  · rw [State.setGroup_group]
    split
    · rename_i at_g
      rw [at_g, old, new]
      exact iff_of_false (fun both => nomatch both.2) fun both => nomatch both.2
    · rfl
  · rw [State.setGroup_group] at first
    split at first
    · rw [new] at first; cases first
    · exact own k w first

/-- A rearmed group records no window, and no other group records one of its own. -/
theorem State.marksSound.unrecorded_rearm (h : s.marksSound) {w : Fin 192} {d : WindowDef} (defined : (s.window w).defn = some d) :
    unrecorded (Machine.rearm d.group s) w := fun g first => by
  rw [rearm_group] at first
  split at first
  · cases first
  · rename_i other
    obtain ⟨x, hx, at_g⟩ := h.2 g w first
    rw [defined] at hx
    cases hx
    exact other at_g.symm

/-- The mark of a window is taken away with its group's record. -/
theorem State.marksSound.rearm_unmarks (h : s.marksSound) {w : Fin 192} {d : WindowDef} (defined : (s.window w).defn = some d)
    (marked : (s.window w).mark = true) : ((Machine.rearm d.group s).window w).mark = false := by
  obtain ⟨x, hx, -, first⟩ := ((marksSound_iff.mp h).1 w).mp marked
  rw [defined] at hx
  cases hx
  rw [rearm_window, if_pos first]

theorem hornMoved_firstOut (w : Fin 192) (old d : WindowDef) (s : State) : s.sameFirstOut (hornMoved w old d s) := by
  unfold hornMoved
  split
  · exact (hornExit_firstOut _ _).trans (hornEnter_firstOut _ _)
  · exact .refl s

theorem State.marksSound.redefined (h : s.marksSound) (groups : s.groupsSound) {w : Fin 192} {old : WindowDef} (d : WindowDef)
    (defined : (s.window w).defn = some old) : (redefined w old d s).marksSound := by
  unfold Machine.redefined rearmedFor
  by_cases marked : (s.window w).mark = true
  · by_cases leaves : old.group ≠ d.group ∨ d.eligible = false
    · rw [if_pos ⟨marked, leaves⟩]
      exact (h.rearm old.group).setWindow (h.unrecorded_rearm defined) (h.rearm_unmarks defined marked)
    · rw [if_neg fun both => leaves both.2]
      have same : d.group = old.group := by_contra fun other => leaves (.inl fun same => other same.symm)
      exact h.setWindow_sameGroup defined rfl same rfl
  · rw [if_neg fun both => marked both.1]
    have unmarked := eq_false_of_ne_true marked
    exact h.setWindow (h.unrecorded_of_unmarked groups unmarked) unmarked

theorem State.marksSound.rewriteWindow (h : s.marksSound) (groups : s.groupsSound) {w : Fin 192} {old : WindowDef} (d : WindowDef)
    (defined : (s.window w).defn = some old) : (rewriteWindow w old d s).marksSound := by
  have written := h.redefined groups d defined
  have dark : (darkened w d (Machine.redefined w old d s)).marksSound := by
    unfold darkened
    split
    · exact written.goDark w
    · exact written
  rw [rewriteWindow_eq]
  exact (dark.of_same (hornMoved_firstOut w old d _)).of_same (redisplayBoth_onlyShown _ w _).firstOut

theorem State.marksSound.applyWindowWrite (h : s.marksSound) (groups : s.groupsSound) (sound : s.windowsSound) (w : Fin 192) (d : WindowDef) :
    (applyWindowWrite w d s).marksSound := by
  unfold Machine.applyWindowWrite
  dsimp only
  split
  · rename_i configuring
    have unmarked := (sound.1 configuring w).2
    exact h.setWindow (h.unrecorded_of_unmarked groups unmarked) unmarked
  · split
    · rename_i undefined
      exact State.marksSound.of_same (h.setWindow (h.unrecorded_of_undefined undefined) rfl) (redisplay_onlyShown w _).firstOut
    · exact h.rewriteWindow groups d ‹_›

theorem State.marksSound.applyWindowClear (h : s.marksSound) (groups : s.groupsSound) (sound : s.windowsSound) (w : Fin 192) :
    (applyWindowClear w s).marksSound := by
  cases defined : (s.window w).defn with
  | none => rw [applyWindowClear_undefined defined]; exact h
  | some old =>
    by_cases configuring : s.mode = .configuring
    · rw [applyWindowClear_configuring configuring (by rw [defined]; nofun)]
      have unmarked := (sound.1 configuring w).2
      exact h.setWindow (h.unrecorded_of_unmarked groups unmarked) unmarked
    · rw [applyWindowClear_service configuring defined]
      refine State.marksSound.of_same ?_ (redisplayBoth_onlyShown _ w _).firstOut
      have freed : (unmarkedFor w old s).marksSound ∧ unrecorded (unmarkedFor w old s) w := by
        unfold unmarkedFor
        split
        · exact ⟨h.rearm _, h.unrecorded_rearm defined⟩
        · rename_i unmarked
          exact ⟨h, h.unrecorded_of_unmarked groups (eq_false_of_ne_true unmarked)⟩
      have left : (unmarkedFor w old s).sameFirstOut (hornLeft old (s.window w).state (unmarkedFor w old s)) := by
        unfold hornLeft
        split
        · exact hornExit_firstOut _ _
        · exact .refl _
      exact (freed.1.of_same left).setWindow (fun g first => freed.2 g ((left.first g).symm.trans first)) rfl

/-- A group that no window uses, or any in CONFIGURING, records no window. -/
theorem State.marksSound.first_of_unused (h : s.marksSound) (groups : s.groupsSound) (sound : s.windowsSound) {g : Fin 32}
    (unused : s.mode ≠ .configuring → ∀ w d, (s.window w).defn = some d → d.group ≠ g) : (s.group g).foWindow = none := by
  cases first : (s.group g).foWindow with
  | none => rfl
  | some w =>
    by_cases configuring : s.mode = .configuring
    · exact absurd first (h.unrecorded_of_unmarked groups (sound.1 configuring w).2 g)
    · obtain ⟨d, defined, at_g⟩ := h.2 g w first
      exact absurd at_g (unused configuring w d defined)

theorem State.marksSound.applyGroupWrite (h : s.marksSound) (groups : s.groupsSound) (sound : s.windowsSound) (known : s.groupsKnown)
    (g : Fin 32) (d : GroupDef) : (applyGroupWrite g d s).marksSound := by
  have renamed : (s.setGroup g { s.group g with defn := some d }).marksSound := h.of_same (setGroup_firstOut Iff.rfl rfl)
  have disarmed : (regrouped g d s).marksSound := by
    unfold regrouped Machine.disarmed
    split
    · refine State.marksSound.of_same (renamed.rearm g) ?_
      exact (redisplayAt_onlyShown _ _).firstOut
    · exact renamed
  unfold Machine.applyGroupWrite
  split
  · rename_i undefined
    refine h.setGroup (h.first_of_unused groups sound fun service w x defined at_g => ?_) rfl
    exact known service w x defined (at_g ▸ undefined)
  · split
    · exact renamed
    · rw [rewriteGroup_eq]
      split
      · exact disarmed
      · refine State.each_keeps (fun w u hu => ?_) _ _ disarmed
        unfold moveHorn
        split
        · exact (hu.of_same (hornExit_firstOut _ _)).of_same (hornEnter_firstOut _ _)
        · exact hu

/-- What the marks need: the groups of defined windows known, sound groups, and windows unmarked in CONFIGURING. -/
def State.markable (s : State) : Prop := (s.groupsKnown ∧ s.groupsSound) ∧ s.windowsSound

theorem markable_rows : KeptByRows State.markable := windowsSound_rows (groupsKnown_rows.and groupsSound_rows).rows

theorem marksSound_rows : KeptByRows (fun s => s.markable ∧ s.marksSound) :=
  marksSound_unit.rows_given markable_rows
    (fun {s} hq hs => State.marksSound.of_same hs ⟨fun _ => rfl, fun _ => rfl, fun g => by rw [tick_group hq.1.2.1],
      fun g => by rw [tick_group hq.1.2.1]⟩)
    (fun w d _ _ hq hs => hs.applyWindowWrite hq.1.2 hq.2 w d) (fun w _ hq hs => hs.applyWindowClear hq.1.2 hq.2 w)
    (fun g d _ hq hs => hs.applyGroupWrite hq.1.2 hq.2 hq.1.1 g d)
    (fun g s unused hq hs => hs.setGroup (hs.first_of_unused hq.1.2 hq.2 fun service =>
      (groupInUse_eq_false s g).mp (unused service)) rfl)

theorem step_keeps_marksSound (sound : s.windowsSound) (groups : s.groupsSound) (known : s.groupsKnown) (h : s.marksSound)
    (hstep : step s = .next t) : t.marksSound :=
  (marksSound_rows.step ⟨⟨⟨known, groups⟩, sound⟩, h⟩ hstep).2

/-! ### The obligation -/

theorem derivedPattern_cases (s : State) (w : Fin 192) : derivedPattern s w =
    if s.ann.lampTest = true then .on
    else if s.mode = .configuring ∨ (s.window w).defn = none then .off
    else match (s.window w).state, (s.window w).mark with
      | .dark, _ => .off
      | .fast, true => .first
      | .fast, false => .fast
      | .steady, true => .first
      | .steady, false => .on
      | .slow, _ => .slow := by
  unfold derivedPattern Window.pattern
  cases s.ann.lampTest with
  | true => rfl
  | false =>
    by_cases configuring : s.mode = .configuring
    · simp [configuring]
    · cases (s.window w).defn with
      | none => simp
      | some d =>
        simp only [configuring, reduceCtorEq, or_self, if_false]
        cases (s.window w).state with
        | dark => rfl
        | slow => rfl
        | fast => cases (s.window w).mark <;> rfl
        | steady => cases (s.window w).mark <;> rfl

/-- Settles O34: each property of the unit, kept by every effect of a row. -/
theorem everyStepKeepsTheAnnunciatorSound : Obligations.EveryStepKeepsTheAnnunciatorSound :=
  ⟨derivedPattern_cases, fun _ _ h => groupsKnown_rows.rows.step h, fun _ _ => step_keeps_fastCounted, fun _ _ => step_keeps_marksSound,
   fun _ _ => step_keeps_windowsSound, fun _ _ => step_keeps_patternsDerived, fun _ _ h => hornsSound_rows.rows.step h,
   fun _ _ h => groupsSound_rows.rows.step h⟩

end Sys2Proof.Machine

/-! Cold reset, and the rows with a single effect. -/

namespace Sys2Proof.Machine

variable {s t u : State}

/-! ### Reset (R186) -/

/-- While RESETN is low the management commands do nothing either. -/
theorem exec_command_low {c : Instr} {k : Command} (h : command c = some k) (low : s.resetLow = true) : exec c s = .next s := by
  rw [exec_of_command h, running_low low]

/-- While RESETN is low only COLD_RESET and RESETN held low do anything (R186). -/
theorem exec_low {c : Instr} (low : s.resetLow = true) (notReset : ∀ ads rsa rsb, c ≠ .coldReset ads rsa rsb)
    (notHeld : c ≠ .resetnHeldLow) : exec c s = .next s := by
  cases named : command c with
  | some k => exact exec_command_low named low
  | none =>
    cases c <;> simp only [command, reduceCtorEq] at named
    case coldReset ads rsa rsb => exact absurd rfl (notReset ads rsa rsb)
    case resetnHeldLow => exact absurd rfl notHeld
    case sofReceived p => exact running_low low fun s => s.setPort p { s.port p with rx := .withinFrame }
    all_goals exact running_low low _

/-- Settles O2. -/
theorem resetReturnsEveryState : Obligations.ResetReturnsEveryState := by
  refine ⟨fun ads rsa rsb s => ⟨{ State.coldReset ads rsa rsb with arriving := s.arriving, pending := s.pending }, ?_⟩, fun s => rfl,
    fun c s low notReset notHeld => exec_low low notReset notHeld⟩
  exact ⟨rfl, rfl, rfl, rfl, rfl, rfl, rfl, rfl, rfl, rfl, rfl, rfl, rfl, rfl, rfl, rfl, rfl, fun _ => rfl, fun _ => rfl, fun _ => rfl,
    fun _ => rfl, fun _ => rfl, fun _ => rfl, rfl, rfl, rfl, rfl, rfl, rfl, rfl, fun _ => rfl, fun _ => rfl, fun _ => rfl,
    rfl, rfl, rfl, rfl⟩

/-- Settles O60. -/
theorem invariantsHoldAtReset : Obligations.InvariantsHoldAtReset := by
  refine ⟨rfl, flowSettled_coldReset _ _ _, ?_, nofun, nofun, windowsSound_unit.coldReset _ _ _, patternsDerived_unit.coldReset _ _ _,
    hornsSound_rows.coldReset _ _ _, groupsSound_rows.coldReset _ _ _, ⟨fun _ _ => rfl, nofun⟩, nofun, ⟨nofun, fun _ => List.nodup_nil⟩,
    ?_, nofun, ?_, groupsKnown_rows.coldReset _ _ _, fastCounted_unit.coldReset _ _ _, marksSound_unit.coldReset _ _ _, ?_, ?_⟩
  case refine_1 => exact queueSound_outsidePanel.coldReset _ _ _
  case refine_2 =>
    intro _ k
    have released : State.reset.bktDrivenLow k = false := by
      unfold State.bktDrivenLow
      split
      · rfl
      · rfl
    rw [released]
    exact iff_of_false nofun fun asserted => nomatch asserted.1
  case refine_3 => exact waitingSound_iff.mpr ⟨driversWait_rows.coldReset _ _ _, modulesWait_rows.coldReset _ _ _⟩
  case refine_4 => exact ⟨fun _ _ held => held.elim nofun nofun, fun _ _ => ⟨rfl, rfl⟩⟩
  case refine_5 =>
    intro c
    rw [List.filter_eq_nil_iff.mpr]
    · rfl
    · intro e _
      exact nofun

/-! ### Lists that are joined -/

/-- The entries of `as` that qualify and do not wait join the waiting list. -/
def joinedTo {α : Type} [DecidableEq α] (q : α → Bool) (waiting as : List α) : List α :=
  waiting ++ as.filter (fun a => q a && !waiting.contains a)

theorem joinedTo_join {α : Type} [DecidableEq α] {q : α → Bool} {waiting as : List α} {a : α} (absent : a ∉ as) (qualifies : q a = true)
    (new : a ∉ waiting) : joinedTo q (waiting ++ [a]) as = joinedTo q waiting (a :: as) := by
  have rest : as.filter (fun j => q j && !(waiting ++ [a]).contains j) = as.filter (fun j => q j && !waiting.contains j) := by
    refine List.filter_congr fun j hj => ?_
    have away : j ≠ a := fun same => absent (same ▸ hj)
    simp [away]
  unfold joinedTo
  rw [rest, List.filter_cons]
  simp [qualifies, new]

theorem joinedTo_skip {α : Type} [DecidableEq α] {q : α → Bool} {waiting as : List α} {a : α} (stays : ¬ (q a = true ∧ a ∉ waiting)) :
    joinedTo q waiting as = joinedTo q waiting (a :: as) := by
  have here : ¬ (q a && !waiting.contains a) = true := by simpa using stays
  unfold joinedTo
  rw [List.filter_cons, if_neg here]

/-- The drivers that join a waiting list at one event (R72, R73). -/
theorem each_joinDriver {ds : List (Fin 6)} (once : ds.Nodup) (s : State) : State.each ds joinDriver s =
    { s with ann := { s.ann with waiting := joinedTo (fun d => (s.driver d).isSome) s.ann.waiting ds } } := by
  induction ds generalizing s with
  | nil => simp [joinedTo]
  | cons d ds ih =>
    obtain ⟨absent, once⟩ := List.nodup_cons.mp once
    rw [State.each_cons, ih once]
    by_cases joins : (s.driver d).isSome ∧ d ∉ s.ann.waiting
    · have joined : joinDriver d s = { s with ann := { s.ann with waiting := s.ann.waiting ++ [d] } } := if_pos joins
      rw [joined, ← joinedTo_join absent joins.1 joins.2]
      rfl
    · have stays : joinDriver d s = s := if_neg joins
      rw [stays, ← joinedTo_skip joins]

/-- The output module is present and hosts a channel. -/
def tripQualifies (s : State) (k : Fin 8) : Bool := (s.outputModule k).address.isSome && !(hostedBy s k).isEmpty

/-- The output modules that join the TRIP waiting list at one event (R135). -/
theorem each_joinTrip {ks : List (Fin 8)} (once : ks.Nodup) (s : State) : State.each ks joinTrip s =
    { s with trip := { s.trip with waiting := joinedTo (tripQualifies s) s.trip.waiting ks } } := by
  induction ks generalizing s with
  | nil => simp [joinedTo]
  | cons k ks ih =>
    obtain ⟨absent, once⟩ := List.nodup_cons.mp once
    have qualifies : tripQualifies s k = true ↔ (s.outputModule k).address.isSome = true ∧ hostedBy s k ≠ [] := by simp [tripQualifies]
    rw [State.each_cons, ih once]
    by_cases joins : (s.outputModule k).address.isSome ∧ hostedBy s k ≠ [] ∧ k ∉ s.trip.waiting
    · have joined : joinTrip k s = { s with trip := { s.trip with waiting := s.trip.waiting ++ [k] } } := if_pos joins
      rw [joined, ← joinedTo_join absent (qualifies.mpr ⟨joins.1, joins.2.1⟩) joins.2.2]
      rfl
    · have stays : joinTrip k s = s := if_neg joins
      rw [stays, ← joinedTo_skip fun both => joins ⟨(qualifies.mp both.1).1, (qualifies.mp both.1).2, both.2⟩]

/-! ### Buttons (R93) -/

/-- A settled port B from which the next frame of a kind is taken. -/
theorem givePlace_B {kind : Byte} {before after : List Held} {h : Held} (settled : s.flowSettled) (buffered : s.portB.buf = before ++ h :: after)
    (owned : Held.owned kind h = true) (others : ∀ k ∈ before, Held.owned kind k = false) :
    givePlace .B (Held.owned kind) s = { s with portB := s.portB.withGiven s.settings.lowB (before ++ after) } := by
  rw [givePlace_settled (p := .B) settled.2, (nextOwned_split (p := .B) buffered owned others).2]
  rfl

theorem nextButton_split {before after : List Held} {h : Held} (buffered : s.portB.buf = before ++ h :: after)
    (owned : Held.owned 0x53 h = true) (others : ∀ k ∈ before, Held.owned 0x53 k = false) :
    s.nextButton = some (buttonAct s h.frame.payload) := by
  unfold State.nextButton
  rw [(nextOwned_split (p := .B) (kind := kindButton) buffered owned others).1]

/-- A BUTTON frame taken whole: its act, and its place given up. -/
theorem takeButton_split {act : State → State} {before after : List Held} {h : Held} (settled : s.flowSettled)
    (buffered : s.portB.buf = before ++ h :: after) (owned : Held.owned 0x53 h = true) (others : ∀ k ∈ before, Held.owned 0x53 k = false)
    (kept : (act s).portA = s.portA ∧ (act s).portB = s.portB ∧ (act s).settings = s.settings) :
    takeButton act s = { act s with portB := (act s).portB.withGiven (act s).settings.lowB (before ++ after) } :=
  givePlace_B (settled.of_same kept.1 kept.2.1 kept.2.2) (kept.2.1 ▸ buffered) owned others

theorem hornNumber_of_le {target : Byte} (h : ¬ target.toNat < 4) : hornNumber target = none := dif_neg h

theorem buttonAct_ignored {payload : List Byte} (none : ¬ ∃ kind target, payload = [kind, target] ∧
    (((kind = 0x01 ∨ kind = 0x02) ∧ (s.definedGroup target).isSome = true) ∨ (kind = 0x03 ∧ target.toNat < 4) ∨
      kind = 0x04 ∨ kind = 0x05)) : buttonAct s payload = .ignored := by
  unfold buttonAct
  split
  · rename_i kind target
    have refused (h : ((kind = 0x01 ∨ kind = 0x02) ∧ (s.definedGroup target).isSome = true) ∨ (kind = 0x03 ∧ target.toNat < 4) ∨
        kind = 0x04 ∨ kind = 0x05) : False := none ⟨kind, target, rfl, h⟩
    have undefined (h : kind = 0x01 ∨ kind = 0x02) : s.definedGroup target = .none := by
      rw [← Option.not_isSome_iff_eq_none]
      exact fun present => refused (.inl ⟨h, present⟩)
    split
    · rename_i ack; rw [undefined (.inl ack)]
    · split
      · rename_i reset; rw [undefined (.inr reset)]
      · split
        · rename_i silence; rw [hornNumber_of_le fun small => refused (.inr (.inl ⟨silence, small⟩))]
        · rw [if_neg fun h => refused (.inr (.inr (.inl h))), if_neg fun h => refused (.inr (.inr (.inr h)))]
  · rfl

/-! ### Expiries -/

theorem Timer.due_zero : Timer.due (some 0) = true := rfl

/-- Settles O30. -/
theorem singleEffectRows : Obligations.SingleEffectRows := by
  intro s high
  refine ⟨fun g p due provisional point => ?_, fun due => ?_, fun due => ?_, fun due => ?_, fun due => ?_, fun due => ?_,
    fun before after h settled buffered owned others none => ?_⟩
  · refine (running_high high _).trans (congrArg _ ?_)
    have moves : Timer.due (s.group g).settle = true ∧ (s.group g).state = .provisional := ⟨by rw [due]; rfl, provisional⟩
    unfold settleExpiry offerFirstOut
    rw [if_pos moves, State.setGroup_group_self, point]
  · refine (running_high high _).trans (congrArg _ ?_)
    unfold windowRefreshExpiry
    rw [due, if_pos Timer.due_zero, each_joinDriver (List.nodup_finRange 6)]
    rfl
  · refine (running_high high _).trans (congrArg _ ?_)
    unfold phaseIntervalExpiry
    rw [due]
    rfl
  · refine (running_high high _).trans (congrArg _ ?_)
    unfold syncExpiry
    rw [due]
    rfl
  · refine (running_high high _).trans (congrArg _ ?_)
    unfold batchExpiry
    rw [due]
    rfl
  · refine (running_high high _).trans (congrArg _ ?_)
    unfold tripRefreshExpiry joinTripAll
    rw [due, if_pos Timer.due_zero, each_joinTrip (List.nodup_finRange 8)]
    rfl
  · refine (running_high high _).trans (congrArg _ ?_)
    unfold buttonIgnored
    rw [nextButton_split buffered owned others, buttonAct_ignored none]
    exact takeButton_split settled buffered owned others ⟨rfl, rfl, rfl⟩

end Sys2Proof.Machine

/-! The Link Unit: frames and characters on the line, receptions and their direction, transmitters, and the handovers. -/

namespace Sys2Proof.Machine

variable {s t u : State}

/-! ### Characters (R158) -/

/-- The ones among data bits and parity bit. -/
theorem ones_eq (c : RxChar) : ((List.range 9).filter (fun i => c.getLsbD (i + 1))).length =
    ((List.finRange 8).filter (fun i => c.data.getLsbD i.val)).length + (c.getLsbD 9).toNat := by
  have data (i : Fin 8) : c.data.getLsbD i.val = c.getLsbD (i.val + 1) := by
    unfold RxChar.data
    simp [Nat.add_comm]
  have eight : List.range 8 = (List.finRange 8).map (fun i => i.val) := by simp
  rw [List.range_succ, List.filter_append, List.length_append, eight, List.filter_map, List.length_map]
  simp only [data]
  congr 1
  cases parity : c.getLsbD 9 with
  | false => simp only [List.filter_cons, List.filter_nil, parity]; rfl
  | true => simp only [List.filter_cons, List.filter_nil, parity]; rfl

theorem inError_iff (c : RxChar) :
    c.inError = true ↔ ((List.range 9).filter (fun i => c.getLsbD (i + 1))).length % 2 = 1 ∨ c.getLsbD 10 = false := by
  rw [ones_eq]
  unfold RxChar.inError evenParity
  generalize ((List.finRange 8).filter (fun i => c.data.getLsbD i.val)).length = n
  rw [Bool.or_eq_true, bne_iff_ne, Bool.not_eq_true']
  refine or_congr ?_ Iff.rfl
  cases c.getLsbD 9 with
  | true => simp; omega
  | false => simp

theorem sentChar_bits (b : Byte) : (sentChar b).getLsbD 0 = false ∧ (sentChar b).getLsbD 10 = true ∧
    (∀ i < 8, (sentChar b).getLsbD (i + 1) = b.getLsbD i) ∧
    ((List.range 9).filter (fun i => (sentChar b).getLsbD (i + 1))).length % 2 = 0 := by
  have clean : ¬ (sentChar b).inError = true := by rw [sentChar_inError]; nofun
  rw [inError_iff, not_or] at clean
  obtain ⟨even, stop⟩ := clean
  refine ⟨?_, Bool.eq_true_of_not_eq_false stop, fun i small => ?_, by omega⟩
  · have started := sentChar_started b
    unfold RxChar.started at started
    exact (Bool.not_eq_true' _).mp started
  · have data := congrArg (fun x : Byte => x.getLsbD i) (sentChar_data b)
    unfold RxChar.data at data
    simpa [small, Nat.add_comm] using data

/-! ### Frames (R159 to R161) -/

/-- What the receiver does with a byte that was taken in. -/
def RxNext.after (cs : List RxChar) : RxNext → Option RxEnd
  | .going q => deframeFrom q cs
  | .ended e => if cs.isEmpty then some e else none

theorem deframeFrom_cons {p : RxPartial} {b : Byte} (cs : List RxChar) : deframeFrom p (sentChar b :: cs) = (p.char (sentChar b)).after cs := by
  rw [deframeFrom, sentChar_started, if_pos rfl]
  rfl

theorem reserved_iff (b : Byte) : reserved b = true ↔ b = sofByte ∨ b = escByte ∨ b = pauseByte ∨ b = resumeByte := by
  simp [reserved, or_assoc]

/-- A frame byte, escaped as it is sent, is taken in as that byte (R159, R160). -/
theorem deframeFrom_escaped (bytes : List Byte) (b : Byte) (cs : List RxChar) :
    deframeFrom { bytes := bytes, esc := false, err := false } ((escaped b).map sentChar ++ cs) =
      (({ bytes := bytes, esc := false, err := false } : RxPartial).takeByte b).after cs := by
  unfold escaped
  split
  · rename_i special
    have first : ({ bytes := bytes, esc := false, err := false } : RxPartial).char (sentChar escByte) =
        .going { bytes := bytes, esc := true, err := false } := by
      unfold RxPartial.char
      rw [sentChar_inError, sentChar_data]
      rfl
    have second : ({ bytes := bytes, esc := true, err := false } : RxPartial).char (sentChar (b ^^^ 0x40)) =
        ({ bytes := bytes, esc := false, err := false } : RxPartial).takeByte b := by
      have back : b ^^^ 0x40 ^^^ 0x40 = b := by rw [BitVec.xor_assoc]; simp
      have plain : ¬ (b ^^^ 0x40 = pauseByte ∨ b ^^^ 0x40 = resumeByte) := by
        rcases (reserved_iff b).mp special with h | h | h | h
        all_goals
          rw [h]
          decide
      unfold RxPartial.char
      rw [sentChar_inError, sentChar_data, if_neg nofun, if_neg plain, if_pos rfl, back, if_pos special]
      rfl
    rw [List.map_cons, List.map_cons, List.map_nil, List.cons_append, List.cons_append, List.nil_append, deframeFrom_cons, first]
    exact (deframeFrom_cons cs).trans (congrArg (RxNext.after cs) second)
  · rename_i plain
    rw [reserved_iff] at plain
    simp only [not_or] at plain
    obtain ⟨sof, esc, pause, resume⟩ := plain
    rw [List.map_cons, List.map_nil, List.cons_append, List.nil_append, deframeFrom_cons]
    refine congrArg (RxNext.after cs) ?_
    unfold RxPartial.char
    rw [sentChar_inError, sentChar_data, if_neg nofun, if_neg (not_or.mpr ⟨pause, resume⟩), if_neg nofun, if_neg sof, if_neg esc]

/-- The bytes that remain of a frame complete it. -/
theorem deframeFrom_rest {all : List Byte} {n : Nat} (small : n ≤ 200) (length : all.length = 7 + n) (fifth : all[4]? = some (lowByte n)) :
    ∀ (rest done : List Byte), rest ≠ [] → done ++ rest = all →
      deframeFrom { bytes := done, esc := false, err := false } ((rest.flatMap escaped).map sentChar) = some (.completed all false) := by
  intro rest
  induction rest with
  | nil => intro _ empty; exact absurd rfl empty
  | cons b rest ih =>
    intro done _ parts
    have whole : (done ++ [b]) ++ rest = all := by rw [List.append_assoc]; exact parts
    have lengths : (done ++ [b]).length + rest.length = 7 + n := by rw [← List.length_append, whole, length]
    have low : (lowByte n).toNat = n := by unfold lowByte; simp; omega
    have taken : ({ bytes := done, esc := false, err := false } : RxPartial).takeByte b =
        if rest = [] then .ended (.completed all false) else .going { bytes := done ++ [b], esc := false, err := false } := by
      have fifthHere (long : 5 ≤ (done ++ [b]).length) : (done ++ [b]).getD 4 0 = lowByte n := by
        have here : (done ++ [b])[4]? = all[4]? := by
          rw [← whole, List.getElem?_append_left (l₁ := done ++ [b]) (by omega)]
        rw [List.getD_eq_getElem?_getD, here, fifth]
        rfl
      unfold RxPartial.takeByte
      dsimp only
      rw [if_neg]
      · by_cases last : rest = []
        · subst last
          have full : (done ++ [b]).length = 7 + n := by simpa using lengths
          rw [if_pos rfl, if_pos ⟨by omega, by rw [fifthHere (by omega), low, full]⟩]
          rw [List.append_nil] at whole
          rw [whole]
        · rw [if_neg last, if_neg]
          rintro ⟨long, full⟩
          rw [fifthHere (by omega), low] at full
          have := List.length_pos_iff.mpr last
          omega
      · rintro ⟨five, big⟩
        have last : (done ++ [b]).getD 4 0 = b := by
          have four : done.length = 4 := by simpa using five
          simp [List.getD_eq_getElem?_getD, four]
        rw [fifthHere (by omega)] at last
        rw [← last, low] at big
        omega
    rw [List.flatMap_cons, List.map_append, deframeFrom_escaped, taken]
    by_cases last : rest = []
    · subst last
      rw [if_pos rfl]
      rfl
    · rw [if_neg last]
      exact ih (done ++ [b]) last whole

theorem crc_ofBytes (c : BitVec 16) : BitVec.ofNat 16 (natOfBytes (crcBytes c)) = c := by
  refine BitVec.eq_of_toNat_eq ?_
  have small := c.isLt
  simp only [natOfBytes, crcBytes, List.foldl_cons, List.foldl_nil, BitVec.toNat_ofNat, BitVec.toNat_setWidth, BitVec.toNat_ushiftRight,
    Nat.shiftRight_eq_div_pow]
  omega

theorem frameOfBytes_bytes (f : Frame) : frameOfBytes f.bytes = some f := by
  have length : (f.payload ++ crcBytes f.crc).length - 2 = f.payload.length := by simp [crcBytes]
  unfold Frame.bytes Frame.checked
  simp only [List.cons_append, List.nil_append, frameOfBytes, length]
  rw [List.take_left, List.drop_left, crc_ofBytes]

theorem deframe_chars (f : Frame) (small : f.payload.length ≤ 200) : deframe f.chars = some (.completed f.bytes false) := by
  refine deframeFrom_rest small ?_ ?_ f.bytes [] ?_ rfl
  · simp [Frame.bytes, Frame.checked, crcBytes]; omega
  · rfl
  · simp [Frame.bytes, Frame.checked]

/-- Settles O4. -/
theorem sentFrameIsReceived : Obligations.SentFrameIsReceived :=
  ⟨fun f small => ⟨deframe_chars f small, frameOfBytes_bytes f⟩, fun _ => rfl, sentChar_bits⟩

/-! ### Receptions (R160, R164, R166) -/

/-- A write of a port's own fields on a port written before. -/
theorem setPort_setPort (p : Port) (v x : PortState) (s : State) : (s.setPort p v).setPort p x = s.setPort p x := by
  cases p <;> rfl

theorem setPort_port (p : Port) (s : State) : s.setPort p (s.port p) = s := by
  cases p <;> rfl

theorem frameReceived_completed {p : Port} {cs : List RxChar} {bytes : List Byte} {f : Frame} (within : (s.port p).rx = .withinFrame)
    (completed : deframe cs = some (.completed bytes false)) (read : frameOfBytes bytes = some f) :
    frameReceived p cs s = judgeFrame p f (receiverFree p s) := by
  unfold frameReceived
  rw [if_pos within, completed]
  dsimp only
  rw [if_neg nofun, read]

theorem frameReceived_inError {p : Port} {cs : List RxChar} {bytes : List Byte} (within : (s.port p).rx = .withinFrame)
    (completed : deframe cs = some (.completed bytes true)) : frameReceived p cs s =
      s.setPort p { s.port p with rx := .betweenFrames, charErrors := min ((s.port p).charErrors + 1) 65535 } := by
  unfold frameReceived
  rw [if_pos within, completed]
  dsimp only
  rw [if_pos rfl, receiverFree, setPort_setPort, State.setPort_port_self]
  rfl

theorem judgeFrame_wrongCrc {p : Port} {f : Frame} (wrong : crcOf f.checked ≠ f.crc) :
    judgeFrame p f s = s.setPort p { s.port p with crcErrors := min ((s.port p).crcErrors + 1) 65535 } := by
  unfold judgeFrame Frame.crcGood
  rw [decide_eq_false wrong, if_pos rfl]
  rfl

theorem judgeFrame_overrun {p : Port} {f : Frame} (right : crcOf f.checked = f.crc) (full : 8 ≤ (s.port p).buf.length) :
    judgeFrame p f s = s.setPort p { s.port p with
      overruns := min ((s.port p).overruns + 1) 65535
      control := if (s.port p).pauseAsserted then some .pause else (s.port p).control } := by
  unfold judgeFrame Frame.crcGood furtherPause
  rw [decide_eq_true right, if_neg nofun, if_pos (show bufferSize ≤ (s.port p).buf.length from full)]
  simp only [State.setPort_port_self, setPort_setPort]
  split
  · rfl
  · rfl

theorem judgeFrame_accepted {p : Port} {f : Frame} (right : crcOf f.checked = f.crc) (room : (s.port p).buf.length < 8) :
    judgeFrame p f s = acceptFrame p f s := by
  unfold judgeFrame Frame.crcGood
  rw [decide_eq_true right, if_neg nofun, if_neg (by unfold bufferSize; omega)]

/-- Settles O5. -/
theorem receptionsAreJudged : Obligations.ReceptionsAreJudged := by
  refine ⟨fun p cs bytes err f s high within completed read => ⟨fun inError => ?_, fun clean wrong => ?_, fun clean right full => ?_⟩,
    fun p cs s high => ⟨running_high high fun s => s.setPort p { s.port p with rx := .withinFrame }, fun within abandoned => ?_, fun within abandoned => ?_⟩, inError_iff⟩
  · refine (running_high high _).trans (congrArg _ ?_)
    exact frameReceived_inError within (inError ▸ completed)
  · refine (running_high high _).trans (congrArg _ ?_)
    rw [frameReceived_completed within (clean ▸ completed) read, judgeFrame_wrongCrc wrong]
    unfold receiverFree
    rw [setPort_setPort, State.setPort_port_self]
  · refine (running_high high _).trans (congrArg _ ?_)
    rw [frameReceived_completed within (clean ▸ completed) read, judgeFrame_overrun right]
    · unfold receiverFree
      rw [setPort_setPort, State.setPort_port_self]
    · unfold receiverFree
      rw [State.setPort_port_self]
      exact full
  · refine (running_high high _).trans (congrArg _ ?_)
    unfold frameAbandoned
    rw [if_pos within, abandoned]
    rfl
  · refine (running_high high _).trans (congrArg _ ?_)
    unfold frameAbandoned
    rw [if_pos within, abandoned]
    dsimp only
    rw [← within]
    exact setPort_port p s

/-! ### The direction of an accepted frame (R164, R165) -/

/-- A frame to the part of a kind that the port's blocks own. -/
def ownedKind (p : Port) (f : Frame) : Prop := (p = .A ∧ (f.kind = 0x11 ∨ f.kind = 0x31)) ∨ (p = .B ∧ (f.kind = 0x53 ∨ f.kind = 0x62))

theorem direction_owner {node : Nat} {p : Port} {f : Frame} (here : f.dest.toNat = node) (owned : ownedKind p f) :
    direction node p f = .owner := by
  unfold direction directAddressed
  rw [if_pos here]
  rcases owned with ⟨rfl, kind⟩ | ⟨rfl, kind⟩
  · exact if_pos kind
  · exact if_pos kind

theorem direction_forward {node : Nat} {p : Port} {f : Frame} (away : f.dest.toNat ≠ node)
    (noTime : ¬ (p = .A ∧ f.kind = 0x21 ∧ f.dest = 255)) : direction node p f = .forward := by
  unfold direction
  rw [if_neg away, if_neg]
  rintro ⟨dest, kind, port⟩
  exact noTime ⟨port, kind, dest⟩

/-- What a discard on a port counts. -/
def discardCounted (p : Port) (f : Frame) (s : State) : State :=
  { s with
    ignoredButtons := if p = Port.A ∧ f.kind = 0x53 then min (s.ignoredButtons + 1) 65535 else s.ignoredButtons
    unknownConfirms := if p = Port.A ∧ f.kind = 0x62 then min (s.unknownConfirms + 1) 65535 else s.unknownConfirms }

/-- A frame to the part of a kind that no block owns takes a place and gives it up at once, counted for BUTTON and CONFIRM on port A. -/
theorem acceptFrame_discard {p : Port} {f : Frame} (here : f.dest.toNat = s.node) (unowned : ¬ ownedKind p f) (noTime : ¬ (p = .A ∧ f.kind = 0x21)) :
    acceptFrame p f s = discardCounted p f (giveLast p (takePlace p (s.place p f false) s)) := by
  have plain (t : State) (noButton : ¬ (p = .A ∧ f.kind = 0x53)) (noConfirm : ¬ (p = .A ∧ f.kind = 0x62)) : discardCounted p f t = t := by
    unfold discardCounted
    rw [if_neg noButton, if_neg noConfirm]
  unfold acceptFrame direction
  rw [if_pos here]
  cases p with
  | A =>
    have scan : ¬ (f.kind = kindScan ∨ f.kind = kindCmd) := fun kind => unowned (.inl ⟨rfl, kind⟩)
    have time : ¬ f.kind = kindTime := fun kind => noTime ⟨rfl, kind⟩
    unfold directAddressed
    dsimp only
    rw [if_neg scan, if_neg time]
    by_cases button : f.kind = kindButton
    · have noConfirm : ¬ (Port.A = .A ∧ f.kind = 0x62) := by rw [button]; decide
      rw [if_pos button]
      unfold discardCounted
      rw [if_pos ⟨rfl, button⟩, if_neg noConfirm]
      rfl
    · rw [if_neg button]
      by_cases confirm : f.kind = kindConfirm
      · rw [if_pos confirm]
        unfold discardCounted
        rw [if_neg fun h => button h.2, if_pos ⟨rfl, confirm⟩]
        rfl
      · rw [if_neg confirm, plain _ (fun h => button h.2) fun h => confirm h.2]
  | B =>
    have kinds : ¬ (f.kind = kindButton ∨ f.kind = kindConfirm) := fun kind => unowned (.inr ⟨rfl, kind⟩)
    unfold directAddressed
    dsimp only
    rw [if_neg kinds, plain _ (fun h => nomatch h.1) fun h => nomatch h.1]

theorem PortState.withPlaced_settled {v : PortState} {high low : Nat} (h : v.settled high low) (room : v.buf.length < 8) (x : Held) :
    (v.withPlaced high x).settled high low := by
  rw [← PortState.judge_placed h x]
  refine PortState.judge_settled h.2.1 ?_
  simp only [List.length_append, List.length_cons, List.length_nil]
  omega

/-- The last frame placed gives up its place at once. -/
theorem giveLast_placed {p : Port} {v : PortState} {x : Held} (settled : v.settled (s.marks p).1 (s.marks p).2) (room : v.buf.length < 8) :
    giveLast p (s.setPort p (v.withPlaced (s.marks p).1 x)) =
      s.setPort p ((v.withPlaced (s.marks p).1 x).withGiven (s.marks p).2 v.buf) := by
  have placed := PortState.withPlaced_settled settled room x
  have given := PortState.judge_given placed (b := v.buf) (by simp [PortState.withPlaced])
  have last : (v.withPlaced (s.marks p).1 x).buf.dropLast = v.buf := by simp [PortState.withPlaced]
  unfold giveLast judgeFlow
  simp only [State.setPort_port_self, setPort_setPort, State.setPort_marks, last, given]

/-- Settles O6. -/
theorem acceptedFrameIsDirected : Obligations.AcceptedFrameIsDirected := by
  intro p cs bytes f s high flow within completed read right room held owned v
  have free : (receiverFree p s).port p = v := State.setPort_port_self _ _ _
  have settled : v.settled (s.marks p).1 (s.marks p).2 := (flow.port p).of_alike ⟨rfl, rfl⟩
  have settledFree : ((receiverFree p s).port p).settled ((receiverFree p s).marks p).1 ((receiverFree p s).marks p).2 := by
    rw [free, receiverFree, State.setPort_marks]
    exact settled
  have place (forward : Bool) : (receiverFree p s).place p f forward = held forward := by
    unfold State.place receiverFree
    rw [State.setPort_time]
    cases p <;> rfl
  have node : (receiverFree p s).node = s.node := State.setPort_node _ _ _
  have placed (x : Held) : takePlace p x (receiverFree p s) = s.setPort p (v.withPlaced (s.marks p).1 x) := by
    rw [takePlace_settled settledFree, free, receiverFree, State.setPort_marks, setPort_setPort]
  have accepted : exec (.frameReceived p cs) s = .next (acceptFrame p f (receiverFree p s)) := by
    refine (running_high high _).trans (congrArg _ ?_)
    rw [frameReceived_completed within completed read, judgeFrame_accepted right (by rw [free]; exact room)]
  refine ⟨fun here own => ?_, fun away noTime => ?_, fun here unowned noTime => ?_⟩
  · rw [accepted, acceptFrame, direction_owner (here.trans node.symm) own]
    dsimp only
    rw [place, placed]
  · rw [accepted, acceptFrame, direction_forward (fun here => away (here.trans node)) noTime]
    dsimp only
    rw [place, placed]
  · rw [accepted, acceptFrame_discard (here.trans node.symm) unowned noTime, place, placed, giveLast_placed settled room]
    cases p <;> rfl

/-! ### Transmitters (R159, R165, R167, R168) -/

/-- Settles O7. -/
theorem transmittersPauseAndEnd : Obligations.TransmittersPauseAndEnd := by
  refine ⟨fun p s high => ⟨running_high high _, fun paused => ?_, fun going => ?_, fun due => ?_, fun c due => ?_⟩,
    fun p x s high flow sending => ⟨fun own => ?_, fun before after h forwarded buffered marked others => ?_⟩⟩
  · refine (running_high high _).trans (congrArg _ ?_)
    exact if_pos paused
  · refine (running_high high _).trans (congrArg _ ?_)
    unfold resumeReceived
    rw [going]
    rfl
  · refine (running_high high _).trans (congrArg _ ?_)
    unfold selfResumeExpiry
    rw [due]
    rfl
  · refine (running_high high _).trans (congrArg _ ?_)
    unfold controlByteSent
    rw [due]
  · refine (running_high high _).trans (congrArg _ ?_)
    unfold transmitEnd
    rw [sending]
    exact if_neg (by rw [own]; nofun)
  · refine (running_high high _).trans (congrArg _ ?_)
    have other : (s.setPort p { s.port p with tx := none }).port p.other = s.port p.other := by cases p <;> rfl
    have settled := flow.port p.other
    have gone : (s.port p.other).buf.eraseP Held.sending = before ++ after := by
      rw [buffered, List.eraseP_append_right _ (by simpa using others)]
      simp [marked]
    unfold transmitEnd
    rw [sending]
    dsimp only
    rw [if_pos forwarded, givePlace_settled (by rw [other, State.setPort_marks]; exact settled), other, State.setPort_marks, gone]

/-! ### Handovers (R73 to R75, R168, R172) -/

theorem originate_eq (p : Port) (dest kind : Byte) (payload : List Byte) (s : State) :
    originate p dest kind payload s = s.setPort p ((s.port p).sending s.node dest kind payload) := by
  cases p <;> rfl

/-- The first frame that awaits forwarding is marked. -/
theorem markSending_split {before after : List Held} {h : Held} (awaits : h.awaitsForward = true) (others : ∀ k ∈ before, k.awaitsForward = false) :
    markSending (before ++ h :: after) = before ++ { h with sending := true } :: after := by
  induction before with
  | nil => exact if_pos awaits
  | cons k before ih =>
    rw [List.cons_append, markSending, if_neg (by rw [others k List.mem_cons_self]; nofun), ih fun j hj => others j (List.mem_cons_of_mem k hj),
      List.cons_append]

theorem passThrough_split {p : Port} {before after : List Held} {h : Held} (buffered : (s.port p.other).buf = before ++ h :: after)
    (awaits : h.awaitsForward = true) (others : ∀ k ∈ before, k.awaitsForward = false) : s.passThrough p = some h := by
  unfold State.passThrough
  rw [buffered, List.find?_append, List.find?_eq_none.mpr (by simpa using others)]
  simp [awaits]

theorem toList_four {α : Type} (v : Vector α 4) : v.toList = [v.get 0, v.get 1, v.get 2, v.get 3] := by
  obtain ⟨⟨l⟩, size⟩ := v
  obtain ⟨a, b, c, d, rfl⟩ : ∃ a b c d, l = [a, b, c, d] := List.length_eq_four.mp size
  rfl

/-- The bytes of a PHASE frame (R75, R97). -/
theorem phasePayload_eq (s : State) : phasePayload s =
    [lowByte (s.ann.patterns.get 0).period, lowByte (s.ann.patterns.get 0).onTime,
     lowByte (s.ann.patterns.get 1).period, lowByte (s.ann.patterns.get 1).onTime,
     lowByte (s.ann.patterns.get 2).period, lowByte (s.ann.patterns.get 2).onTime,
     lowByte (s.ann.patterns.get 3).period, lowByte (s.ann.patterns.get 3).onTime,
     (s.horn 0).output, (s.horn 1).output, (s.horn 2).output, (s.horn 3).output, if s.ann.lampTest then 0x01 else 0x00] := by
  unfold phasePayload
  rw [toList_four]
  rfl

theorem Horn.output_eq (v : Horn) : v.output =
    if v.state = .sounding then (if v.sound = .continuous then 0x01 else 0x02) else 0x00 := by
  unfold Horn.output
  cases v.state <;> cases v.sound <;> rfl

/-- Settles O9. -/
theorem handoversBuildTheirFrames : Obligations.HandoversBuildTheirFrames := by
  intro s high pattern horn
  refine ⟨fun r chosen waiting => ?_, fun chosen => ?_, fun d rest a chosen waiting present => ?_,
    fun p before after h chosen buffered awaits others => ?_⟩
  · refine (running_high high _).trans (congrArg _ ?_)
    unfold replyHandover
    rw [if_pos chosen, waiting]
    dsimp only
    rw [originate_eq]
    rfl
  · refine (running_high high _).trans (congrArg _ ?_)
    unfold phaseHandover
    rw [if_pos chosen, originate_eq, phasePayload_eq]
    simp only [Horn.output_eq]
    rfl
  · refine (running_high high _).trans (congrArg _ ?_)
    unfold windowHandover
    rw [if_pos chosen, waiting]
    dsimp only
    rw [present]
    dsimp only
    rw [originate_eq]
    rfl
  · refine (running_high high _).trans (congrArg _ ?_)
    unfold passThroughHandover
    rw [if_pos chosen, passThrough_split buffered awaits others]
    cases p with
    | A => exact congrArg (fun l => (s.setPort .A { s.port .A with
        alt := .passThrough, tx := some { frame := h.frame, wire := h.frame.wire, forwarded := true } }).setPort .B
        { s.port .B with buf := l }) ((congrArg markSending buffered).trans (markSending_split awaits others))
    | B => exact congrArg (fun l => (s.setPort .B { s.port .B with
        alt := .passThrough, tx := some { frame := h.frame, wire := h.frame.wire, forwarded := true } }).setPort .A
        { s.port .A with buf := l }) ((congrArg markSending buffered).trans (markSending_split awaits others))

end Sys2Proof.Machine

/-! The Event Queue's hand-over, the local tick, and TIME frames. -/

namespace Sys2Proof.Machine

variable {s t u : State}

/-! ### EVENT frames (R151, R154, R155) -/

theorem startBatch_records (s : State) : (startBatch s).events.records = s.events.records := by
  unfold startBatch
  split
  · rfl
  · dsimp only
    split
    · rfl
    · rfl

theorem startBatch_dropped (s : State) : (startBatch s).events.dropped = s.events.dropped := by
  unfold startBatch
  split
  · rfl
  · dsimp only
    split
    · rfl
    · rfl

theorem startBatch_nextSeq (s : State) : (startBatch s).events.nextSeq = s.events.nextSeq := by
  unfold startBatch
  split
  · rfl
  · dsimp only
    split
    · rfl
    · rfl

/-- An empty queue waits for nothing (R154). -/
theorem startBatch_of_nil (empty : s.events.records = []) :
    (startBatch s).events.batch = none ∧ (startBatch s).events.headWaited = false := by
  unfold startBatch
  rw [empty]
  exact ⟨rfl, rfl⟩

/-- The head record's wait is counted from its acceptance (R154). -/
theorem startBatch_of_cons {r : Record} {rest : List Record} (head : s.events.records = r :: rest) :
    if s.settings.batchTime ≤ s.time.ticks - r.acceptedAt
      then (startBatch s).events.batch = none ∧ (startBatch s).events.headWaited = true
      else (startBatch s).events.batch = some (s.settings.batchTime - (s.time.ticks - r.acceptedAt)) ∧
        (startBatch s).events.headWaited = false := by
  unfold startBatch
  rw [head]
  dsimp only
  split
  · rename_i waited
    rw [if_pos (by omega)]
    exact ⟨rfl, rfl⟩
  · rename_i waits
    rw [if_neg (by omega)]
    exact ⟨rfl, rfl⟩

theorem acceptRecord_queue (o : Offer) (s : State) : (acceptRecord o s).events.records = s.events.records ++ [completeRecord o s] ∧
    (acceptRecord o s).events.nextSeq = (s.events.nextSeq + 1) % 65536 ∧ (acceptRecord o s).events.dropped = s.events.dropped := by
  unfold acceptRecord
  dsimp only
  split
  · rw [startBatch_records, startBatch_nextSeq, startBatch_dropped]
    exact ⟨rfl, rfl, rfl⟩
  · exact ⟨rfl, rfl, rfl⟩

/-- The queue has dropped records to report, and room to report them (R151). -/
def overflows (s : State) : Bool := decide (s.mode ≠ .configuring ∧ 0 < s.events.dropped ∧ s.events.records.length < 480)

/-- The QUEUE_OVERFLOW record (R151). -/
def overflowRecord (s : State) : Record :=
  { seq := s.events.nextSeq, kind := .queueOverflow, cls := .trip, quality := s.time.quality, adjusted := false, approx := false,
    test := decide (s.mode = .test), time := s.time.station, subject := 65535, value := 0, extra := s.events.dropped,
    acceptedAt := s.time.ticks }

/-- What a removal leaves in the queue once its overflow is reported (R151). -/
theorem queueOverflow_queue (s : State) :
    (queueOverflow s).events.records = s.events.records ++ (if overflows s then [overflowRecord s] else []) ∧
    (queueOverflow s).events.dropped = (if overflows s then 0 else s.events.dropped) ∧
    (queueOverflow s).events.nextSeq = (if overflows s then (s.events.nextSeq + 1) % 65536 else s.events.nextSeq) := by
  unfold queueOverflow
  split
  · rename_i calls
    have reports : overflows s = true := decide_eq_true calls
    have accepted := acceptRecord_queue
      { kind := .queueOverflow, cls := .trip, time := s.time.station, subject := noSubject, extra := s.events.dropped } s
    rw [reports]
    exact ⟨accepted.1, rfl, accepted.2.1⟩
  · rename_i calls
    have silent : overflows s = false := decide_eq_false calls
    rw [silent]
    exact ⟨(List.append_nil _).symm, rfl, rfl⟩

theorem recordKind_listed (k : RecordKind) : (k, k.code) ∈ ([(.pointAlarm, 0x01), (.pointNormal, 0x02), (.pointQuality, 0x03),
    (.chatterOn, 0x04), (.chatterOff, 0x05), (.groupAck, 0x10), (.groupReset, 0x11), (.firstOut, 0x12), (.hornSilence, 0x13),
    (.elementPickup, 0x20), (.elementOperate, 0x21), (.elementRelease, 0x22), (.elementDropout, 0x23),
    (.channelTrip, 0x30), (.channelLockout, 0x31), (.channelNormal, 0x32), (.confirmMissing, 0x33),
    (.confirmRestored, 0x34), (.moduleSilent, 0x40), (.moduleLive, 0x41), (.moduleGap, 0x42), (.modeChange, 0x50),
    (.timeStep, 0x51), (.restart, 0x52), (.queueOverflow, 0x53)] : List (RecordKind × Byte)) := by
  cases k <;> decide

/-- The flags byte of a record, bit by bit (section 9.4). -/
theorem flags_bits (r : Record) : (lowByte r.flags).toNat % 4 = r.quality.code ∧ (lowByte r.flags).getLsbD 2 = r.adjusted ∧
    (lowByte r.flags).getLsbD 3 = r.approx ∧ (lowByte r.flags).getLsbD 4 = r.test ∧ (lowByte r.flags).toNat < 32 := by
  unfold Record.flags
  generalize r.adjusted = adjusted
  generalize r.approx = approx
  generalize r.test = test
  cases r.quality with
  | unset => revert adjusted approx test; decide
  | synced => revert adjusted approx test; decide
  | free => revert adjusted approx test; decide

theorem TimeQuality.code_eq (q : TimeQuality) : q.code = (match q with
    | .unset => 0
    | .synced => 1
    | .free => 2) := by
  cases q <;> rfl

theorem removeEvents_queue (s : State) :
    let left := s.events.records.drop 8
    let m : State := { s with events := { s.events with records := left } }
    let t := removeEvents s
    t = { s with events := t.events } ∧
    t.events.records = left ++ (if overflows m then [overflowRecord m] else []) ∧
    t.events.dropped = (if overflows m then 0 else s.events.dropped) ∧
    t.events.nextSeq = (if overflows m then (s.events.nextSeq + 1) % 65536 else s.events.nextSeq) ∧
    (t.events.records = [] → t.events.batch = none ∧ t.events.headWaited = false) ∧
    ∀ (r : Record) (rest : List Record), t.events.records = r :: rest →
      if s.settings.batchTime ≤ s.time.ticks - r.acceptedAt then t.events.batch = none ∧ t.events.headWaited = true
      else t.events.batch = some (s.settings.batchTime - (s.time.ticks - r.acceptedAt)) ∧ t.events.headWaited = false := by
  intro left m t
  have queue := queueOverflow_queue m
  have only := queueOverflow_touches m
  have started : t = startBatch (queueOverflow m) := rfl
  have records : t.events.records = (queueOverflow m).events.records := startBatch_records _
  refine ⟨removeEvents_touches s, records.trans queue.1, (startBatch_dropped _).trans queue.2.1, (startBatch_nextSeq _).trans queue.2.2,
    fun empty => ?_, fun r rest head => ?_⟩
  · exact startBatch_of_nil (records.symm.trans empty)
  · have waits := startBatch_of_cons (records.symm.trans head)
    unfold State.onlyEvents at only
    rw [show (queueOverflow m).settings = s.settings by rw [only], show (queueOverflow m).time = s.time by rw [only]] at waits
    exact waits

theorem bytesOfNat_two (n : Nat) : bytesOfNat 2 n = [BitVec.ofNat 8 (n / 256 ^ 1), BitVec.ofNat 8 (n / 256 ^ 0)] := by
  simp [bytesOfNat, lowByte]

theorem bytesOfNat_six (n : Nat) : bytesOfNat 6 n = [BitVec.ofNat 8 (n / 256 ^ 5), BitVec.ofNat 8 (n / 256 ^ 4), BitVec.ofNat 8 (n / 256 ^ 3),
    BitVec.ofNat 8 (n / 256 ^ 2), BitVec.ofNat 8 (n / 256 ^ 1), BitVec.ofNat 8 (n / 256 ^ 0)] := by
  simp [bytesOfNat, lowByte, Nat.div_div_eq_div_mul]

/-- Settles O12. -/
theorem eventHandoverTakesTheOldest : Obligations.EventHandoverTakesTheOldest := by
  refine ⟨?_, ?_⟩
  · intro s high chosen placed left overflow
    have taken : eventHandover s = removeEvents { s with portA := { s.portA.sending s.node (lowByte s.settings.gateway) 0x41
        (lowByte placed.length :: placed.flatMap Record.bytes) with alt := .own } } := if_pos chosen
    generalize sent : ({ s.portA.sending s.node (lowByte s.settings.gateway) 0x41
        (lowByte placed.length :: placed.flatMap Record.bytes) with alt := .own } : PortState) = port at taken
    obtain ⟨only, queue⟩ := removeEvents_queue ({ s with portA := port } : State)
    refine ⟨_, (running_high high _).trans (congrArg _ taken), ?_, ?_, queue⟩
    · rw [only]
    · rw [only, ← sent]
  · intro r byte
    obtain ⟨quality, bits⟩ := flags_bits r
    refine ⟨r.kind.code, lowByte r.flags, ?_, quality.trans (TimeQuality.code_eq r.quality), bits.1, bits.2.1, bits.2.2.1, bits.2.2.2,
      recordKind_listed r.kind⟩
    unfold Record.bytes
    rw [bytesOfNat_two, bytesOfNat_six, bytesOfNat_two, bytesOfNat_two]
    simp [byte, lowByte]

/-! ### The local tick (R44 to R46) -/

theorem Timer.tick_eq (t : Timer) : t.tick = t.map (fun n => n - 1) := by
  cases t with
  | none => rfl
  | some n => rfl

/-- Settles O13. -/
theorem localTickCountsEveryTimer : Obligations.LocalTickCountsEveryTimer := by
  intro s high canonical down
  unfold State.canonical at canonical
  simp only [Bool.and_eq_true, and_assoc] at canonical
  obtain ⟨modules, -, -, -, groups, -, elements, -, outputs⟩ := canonical
  have tick (t : Timer) : t.tick = down t := t.tick_eq
  refine ⟨localTick s, running_high high _, rfl, ?_, ?_, ?_, fun m => ?_, tick _, fun g => ?_, tick _, tick _, tick _, fun e => ?_, fun k => ?_,
    tick _, tick _⟩
  · rw [← tick]
    rfl
  · rw [← tick]
    rfl
  · rw [← tick]
    rfl
  · rw [← tick]
    exact Table.get_mapCells ({} : InputModule) (fun v => { v with supervision := v.supervision.tick }) s.modules modules rfl m
  · rw [← tick]
    exact tick_group groups g
  · rw [← tick]
    exact Table.get_mapCells ({} : Element) (fun v => { v with timer := v.timer.tick }) s.elements elements rfl e
  · have ticked : (localTick s).outputModule k = { s.outputModule k with deadline := (s.outputModule k).deadline.tick } :=
      Table.get_mapCells ({} : OutputModule) (fun v => { v with deadline := v.deadline.tick }) s.trip.outputs outputs rfl k
    rw [ticked]
    generalize s.outputModule k = v
    obtain ⟨_, _, _, deadline, _, _, _⟩ := v
    cases deadline with
    | stopped => rfl
    | running n => rfl
    | passed => rfl

/-! ### TIME frames (R47 to R50) -/

theorem mkFrame_crc (dest src kind seq : Byte) (payload : List Byte) :
    crcOf (mkFrame dest src kind seq payload).checked = (mkFrame dest src kind seq payload).crc := rfl

/-- The row of a TIME frame is the reception of that frame (log entry 4). -/
theorem timeFrame_received {dest src seq : Byte} {payload : List Byte} (small : payload.length ≤ 200) (within : s.portA.rx = .withinFrame)
    (room : s.portA.buf.length < 8) (named : dest.toNat = s.node ∨ dest = 255) :
    timeFrame dest src seq payload s = frameReceived .A (mkFrame dest src 0x21 seq payload).chars s := by
  rw [frameReceived_completed (p := .A) within (deframe_chars _ small) (frameOfBytes_bytes _),
    judgeFrame_accepted (mkFrame_crc dest src 0x21 seq payload) (show ((receiverFree .A s).port .A).buf.length < 8 from room)]
  unfold timeFrame timeArrives
  rw [if_pos within]
  exact if_pos ⟨room, named⟩

theorem Table.get_eq_or_mem {n : Nat} {α : Type} (d : α) (tab : Table n α) (i : Fin n) :
    Table.get d tab i = d ∨ (i, Table.get d tab i) ∈ tab := by
  induction tab with
  | nil => exact .inl rfl
  | cons c tab ih =>
    obtain ⟨j, v⟩ := c
    rw [Table.get_cons]
    split
    · rename_i same
      exact .inr (by rw [same]; exact List.mem_cons_self)
    · exact ih.imp_right (List.mem_cons_of_mem _)

/-- What the initial entry and every image of `f` meet, every entry meets once `f` has been applied, in any form of the table. -/
theorem Table.mapCells_all {n : Nat} {α : Type} [DecidableEq α] {d : α} {f : α → α} {Q : α → Prop} (initial : Q d) (image : ∀ v, Q (f v))
    (tab : Table n α) (i : Fin n) : Q (Table.get d (Table.mapCells d f tab) i) := by
  rcases Table.get_eq_or_mem d (Table.mapCells d f tab) i with unlisted | listed
  · rw [unlisted]
    exact initial
  · obtain ⟨-, v, -, eq⟩ := Table.mapCells_subset d f tab listed
    exact (show Table.get d (Table.mapCells d f tab) i = f v from eq) ▸ image v

/-- What the Time Base makes of a TIME frame's payload (R47 to R50). -/
structure TimeTaken (payload : List Byte) (s t : State) : Prop where
  only : t = { s with time := t.time, modules := t.modules, portA := t.portA, events := t.events }
  port : t.portA = { s.portA with buf := t.portA.buf }
  discarded : payload.length ≠ 6 → t = s
  synced : payload.length = 6 → t.time.ticks = s.time.ticks ∧ t.time.quality = .synced ∧ t.time.sync = some (s.settings.syncLimit * 1000)
  forward : payload.length = 6 → s.time.station ≤ natOfBytes payload → t.time.station = natOfBytes payload ∧ t.time.hold = 0
  held : payload.length = 6 → natOfBytes payload < s.time.station → s.time.station - natOfBytes payload ≤ 10000 →
    t.time.station = s.time.station ∧ t.time.hold = s.time.station - natOfBytes payload
  near : payload.length = 6 → s.time.station - natOfBytes payload ≤ 10000 →
    t.modules = s.modules ∧ t.events = s.events ∧ t.portA = s.portA
  back : payload.length = 6 → 10000 < s.time.station - natOfBytes payload →
    t.time.station = natOfBytes payload ∧ t.time.hold = 0 ∧
    (Table.wf {} s.modules = true → ∀ m, t.inputModule m = { s.inputModule m with floor := 0 }) ∧
    t.portA.buf = s.portA.buf.map (Held.lower (natOfBytes payload)) ∧
    t.events = (offer { kind := .timeStep, cls := .alarm, time := natOfBytes payload, subject := 65535,
                        extra := min ((s.time.station - natOfBytes payload) / 10) 65535 } { s with time := t.time }).events
  floors : payload.length = 6 → 10000 < s.time.station - natOfBytes payload → ∀ m, (t.inputModule m).floor = 0

theorem takeTime_taken (payload : List Byte) (s : State) : TimeTaken payload s (takeTime payload s) := by
  generalize value : natOfBytes payload = x
  by_cases six : payload.length = 6
  · have applied : takeTime payload s = applyTime x s := (if_pos six).trans (by rw [value])
    rw [applied]
    by_cases forward : s.time.station ≤ x
    · have moved : applyTime x s = refreshSync { s with time := { s.time with station := x, hold := 0 } } := if_pos forward
      rw [moved]
      exact ⟨rfl, rfl, fun no => absurd six no, fun _ => ⟨rfl, rfl, rfl⟩, fun _ _ => ⟨value.symm, rfl⟩, fun _ behind => by omega,
        fun _ _ => ⟨rfl, rfl, rfl⟩, fun _ far => by omega, fun _ far => by omega⟩
    · by_cases near : s.time.station - x ≤ 10000
      · have moved : applyTime x s = refreshSync { s with time := { s.time with hold := s.time.station - x } } :=
          (if_neg forward).trans (if_pos near)
        rw [moved]
        exact ⟨rfl, rfl, fun no => absurd six no, fun _ => ⟨rfl, rfl, rfl⟩, fun _ ahead => by omega, fun _ _ _ => ⟨rfl, by rw [value]; rfl⟩,
          fun _ _ => ⟨rfl, rfl, rfl⟩, fun _ far => by omega, fun _ far => by omega⟩
      · have moved : applyTime x s = offerNow .timeStep .alarm noSubject 0 (min ((s.time.station - x) / 10) 65535)
            (refreshSync (stepBack x s)) := (if_neg forward).trans (if_neg near)
        have only := offerNow_touches .timeStep .alarm noSubject 0 (min ((s.time.station - x) / 10) 65535) (refreshSync (stepBack x s))
        have stepped : offerNow .timeStep .alarm noSubject 0 (min ((s.time.station - x) / 10) 65535) (refreshSync (stepBack x s)) =
          offer { kind := .timeStep, cls := .alarm, time := x, subject := 65535, extra := min ((s.time.station - x) / 10) 65535 }
            (refreshSync (stepBack x s)) := rfl
        unfold State.onlyEvents at only
        rw [moved]
        refine ⟨?_, ?_, fun no => absurd six no, fun _ => ?_, fun _ ahead => by omega, fun _ _ close => by omega, fun _ close => by omega,
          fun _ _ => ⟨?_, ?_, fun canonical m => ?_, ?_, ?_⟩, fun _ _ m => ?_⟩
        · rw [only]; rfl
        · rw [only]; rfl
        · rw [only]; exact ⟨rfl, rfl, rfl⟩
        · rw [only, value]; rfl
        · rw [only]; rfl
        · rw [only]
          exact Table.get_mapCells ({} : InputModule) (fun v => { v with floor := 0 }) s.modules canonical rfl m
        · rw [only, value]; rfl
        · rw [value, stepped]
          exact offer_events_congr _ rfl rfl rfl (congrArg State.time only).symm
        · rw [only]
          exact Table.mapCells_all (d := {}) (f := fun v => { v with floor := 0 }) (Q := fun v : InputModule => v.floor = 0) rfl (fun _ => rfl) s.modules m
  · have stays : takeTime payload s = s := if_neg six
    rw [stays]
    exact ⟨rfl, rfl, fun _ => rfl, fun yes => absurd yes six, fun yes => absurd yes six, fun yes => absurd yes six, fun yes => absurd yes six,
      fun yes => absurd yes six, fun yes => absurd yes six⟩

/-! ### Places in a buffer that is not settled -/

theorem PortState.judge_fields (high low : Nat) (v : PortState) :
    v.judge high low = { v with control := (v.judge high low).control, pauseAsserted := (v.judge high low).pauseAsserted } := by
  unfold PortState.judge PortState.due
  split
  · rfl
  · split
    · rfl
    · rfl

/-- Only the buffer, the control byte and the pause state of a port differ. -/
def PortState.onlyBuffer (v w : PortState) : Prop := w = { v with buf := w.buf, control := w.control, pauseAsserted := w.pauseAsserted }

theorem takePlace_A (h : Held) (s : State) : takePlace .A h s = { s with portA := (takePlace .A h s).portA } ∧
    s.portA.onlyBuffer (takePlace .A h s).portA ∧ (takePlace .A h s).portA.buf = s.portA.buf ++ [h] := by
  have placed (v : PortState) (same : s.portA.onlyBuffer v) (buf : v.buf = s.portA.buf ++ [h]) (high low : Nat) :
      s.portA.onlyBuffer (v.judge high low) ∧ (v.judge high low).buf = s.portA.buf ++ [h] := by
    unfold PortState.onlyBuffer at *
    rw [PortState.judge_fields]
    exact ⟨by rw [same], buf⟩
  unfold takePlace furtherPause
  split
  · refine ⟨rfl, placed _ ?_ ?_ _ _⟩
    · rfl
    · rfl
  · refine ⟨rfl, placed _ ?_ ?_ _ _⟩
    · rfl
    · rfl

theorem giveLast_A (s : State) : giveLast .A s = { s with portA := (giveLast .A s).portA } ∧
    s.portA.onlyBuffer (giveLast .A s).portA ∧ (giveLast .A s).portA.buf = s.portA.buf.dropLast := by
  have judged : (giveLast .A s).portA = PortState.judge (s.marks .A).1 (s.marks .A).2 { s.portA with buf := s.portA.buf.dropLast } := rfl
  refine ⟨rfl, ?_, ?_⟩
  · unfold PortState.onlyBuffer
    rw [judged, PortState.judge_fields]
  · rw [judged, PortState.judge_fields]

theorem direction_time {node : Nat} {f : Frame} (kind : f.kind = kindTime) (here : f.dest.toNat = node) : direction node .A f = .time := by
  unfold direction directAddressed
  rw [if_pos here, kind]
  rfl

theorem direction_timeToAll {node : Nat} {f : Frame} (kind : f.kind = kindTime) (away : f.dest.toNat ≠ node) (all : f.dest = 255) :
    direction node .A f = .timeAndForward := by
  unfold direction
  rw [if_neg away]
  exact if_pos ⟨all, kind, rfl⟩

/-- A TIME frame to the part or to all takes a place, has its payload taken, and gives the place up where it is the part's own (R47, R164). -/
structure TimeArrived (own : Bool) (h : Held) (payload : List Byte) (s t : State) : Prop where
  place : ∃ u v : State, u = { s with portA := u.portA } ∧ s.portA.onlyBuffer u.portA ∧ u.portA.buf = s.portA.buf ++ [h] ∧
    TimeTaken payload u v ∧ t = { v with portA := t.portA } ∧ v.portA.onlyBuffer t.portA ∧
    t.portA.buf = if own then v.portA.buf.dropLast else v.portA.buf

theorem acceptFrame_time {f : Frame} (kind : f.kind = kindTime) (named : f.dest.toNat = s.node ∨ f.dest = 255) :
    TimeArrived (decide (f.dest.toNat = s.node)) (s.place .A f (decide (f.dest.toNat ≠ s.node))) f.payload s (acceptFrame .A f s) := by
  obtain ⟨only, buffer, buf⟩ := takePlace_A (s.place .A f (decide (f.dest.toNat ≠ s.node))) s
  by_cases own : f.dest.toNat = s.node
  · have accepted : acceptFrame .A f s = giveLast .A (takeTime f.payload (takePlace .A (s.place .A f (decide (f.dest.toNat ≠ s.node))) s)) := by
      rw [acceptFrame, direction_time kind own, decide_eq_false (not_not.mpr own)]
    obtain ⟨gave, given, shorter⟩ := giveLast_A (takeTime f.payload (takePlace .A (s.place .A f (decide (f.dest.toNat ≠ s.node))) s))
    rw [accepted]
    exact ⟨_, _, only, buffer, buf, takeTime_taken _ _, gave, given, by rw [shorter, if_pos (decide_eq_true own)]⟩
  · have accepted : acceptFrame .A f s = takeTime f.payload (takePlace .A (s.place .A f (decide (f.dest.toNat ≠ s.node))) s) := by
      rw [acceptFrame, direction_timeToAll kind own (named.resolve_left own), decide_eq_true own]
    rw [accepted]
    exact ⟨_, _, only, buffer, buf, takeTime_taken _ _, rfl, rfl, by rw [if_neg (by rw [decide_eq_true_iff]; exact own)]⟩

/-- Settles O14. -/
theorem timeFrameSetsStationTime : Obligations.TimeFrameSetsStationTime := by
  refine ⟨?_, fun dest src seq payload s high small within room named => ?_⟩
  · intro dest src seq payload s high canonical within room named x now held kept
    unfold State.canonical at canonical
    simp only [Bool.and_eq_true, and_assoc] at canonical
    obtain ⟨modules, -⟩ := canonical
    have accepted : timeFrame dest src seq payload s = acceptFrame .A (mkFrame dest src 0x21 seq payload) (receiverFree .A s) :=
      (if_pos within).trans (if_pos ⟨room, named⟩)
    obtain ⟨u, v, only, buffer, buf, taken, gave, given, left⟩ :=
      (acceptFrame_time (s := receiverFree .A s) (f := mkFrame dest src 0x21 seq payload) rfl named).place
    refine ⟨_, (running_high high _).trans (congrArg _ accepted), ?_⟩
    generalize acceptFrame .A (mkFrame dest src 0x21 seq payload) (receiverFree .A s) = t at gave given left ⊢
    have frameOfV : v = { s with time := v.time, modules := v.modules, portA := v.portA, events := v.events } := by
      rw [taken.only, only]
      rfl
    have time : t.time = v.time := by rw [gave]
    have table : t.modules = v.modules := by rw [gave]
    have events : t.events = v.events := by rw [gave]
    have settings : u.settings = s.settings := by rw [only]; rfl
    have before : u.time = s.time := by rw [only]; rfl
    replace left : t.portA.buf = if decide (dest.toNat = s.node) = true then v.portA.buf.dropLast else v.portA.buf := left
    replace buf : u.portA.buf = s.portA.buf ++ [(receiverFree .A s).place .A (mkFrame dest src 0x21 seq payload)
      (decide (dest.toNat ≠ s.node))] := buf
    have placed (change : Held → Held) (mapped : v.portA.buf = u.portA.buf.map change) : t.portA.buf = kept.map change := by
      rw [left, mapped, buf]
      by_cases own : dest.toNat = s.node
      · have last : kept = s.portA.buf := by rw [show kept = s.portA.buf ++ [] from congrArg _ (if_pos own), List.append_nil]
        rw [if_pos (decide_eq_true own), List.map_append, List.map_cons, List.map_nil, List.dropLast_concat, last]
      · have last : kept = s.portA.buf ++ [held] := congrArg _ (if_neg own)
        rw [if_neg (by rw [decide_eq_true_iff]; exact own), last]
        have here : (receiverFree .A s).place .A (mkFrame dest src 0x21 seq payload) (decide (dest.toNat ≠ s.node)) = held := by
          rw [decide_eq_true own]
          rfl
        exact congrArg (fun h => (s.portA.buf ++ [h]).map change) here
    have same (unchanged : v.portA.buf = u.portA.buf) : t.portA.buf = kept := by
      rw [placed id (by rw [unchanged, List.map_id]), List.map_id]
    refine ⟨?_, ?_, fun other => ?_, fun six => ?_⟩
    · rw [gave, frameOfV]
    · unfold PortState.onlyBuffer at buffer given
      rw [given, taken.port, buffer]
      rfl
    · have unchanged := taken.discarded other
      refine ⟨?_, ?_, ?_, same (by rw [unchanged])⟩
      · rw [time, unchanged, before]
      · rw [table, unchanged, only]; rfl
      · rw [events, unchanged, only]; rfl
    · have synced := taken.synced six
      rw [before, settings] at synced
      refine ⟨?_, ?_, ?_, fun forward => ?_, fun behind near => ?_, fun near => ?_, fun far => ?_⟩
      · rw [time]; exact synced.1
      · rw [time]; exact synced.2.1
      · rw [time]; exact synced.2.2
      · rw [time]; exact taken.forward six (by rw [before]; exact forward)
      · have held := taken.held six (by rw [before]; exact behind) (by rw [before]; exact near)
        rw [before] at held
        rw [time]
        exact held
      · obtain ⟨tables, queue, port⟩ := taken.near six (by rw [before]; exact near)
        refine ⟨?_, ?_, same (by rw [port])⟩
        · rw [table, tables, only]; rfl
        · rw [events, queue, only]; rfl
      · obtain ⟨station, hold, floors, lowered, queue⟩ := taken.back six (by rw [before]; exact far)
        have wf : Table.wf {} u.modules = true := by rw [only]; exact modules
        refine ⟨(congrArg TimeBase.station time).trans station, by rw [time, hold], fun m => ?_, placed _ lowered, ?_⟩
        · rw [State.inputModule, table]
          refine (floors wf m).trans ?_
          rw [only]
          rfl
        · rw [events, queue, time, before]
          refine offer_events_congr _ ?_ ?_ ?_ rfl
          · rw [only]; rfl
          · rw [only]; rfl
          · exact settings
  · exact (running_high high _).trans ((congrArg _ (timeFrame_received small within room named)).trans (running_high high _).symm)

end Sys2Proof.Machine

/-! What an activation and a clear do to their window, its horn and its group (R61 to R68, R90, R95). -/

namespace Sys2Proof.Machine

variable {s t : State}

/-! ### What the horns and the PHASE frame on wait do not follow -/

theorem hornEnter_groups (x : Option (Fin 4)) (s : State) : (hornEnter x s).ann.groups = s.ann.groups := by
  cases x with
  | none => rfl
  | some x => unfold hornEnter putHorn; dsimp only; split <;> rfl

theorem activated_groups (w : Fin 192) (s : State) : (activated w s).ann.groups = s.ann.groups := by
  unfold activated enterFast
  split
  · rfl
  · rw [hornEnter_groups]; rfl

theorem joinDriver_phase (d : Fin 6) (s : State) : (joinDriver d s).ann.phaseWaiting = s.ann.phaseWaiting := by
  unfold joinDriver; split <;> rfl

theorem redisplay_phase (w : Fin 192) (s : State) : (redisplay w s).ann.phaseWaiting = s.ann.phaseWaiting := by
  unfold redisplay; split
  · rfl
  · rw [joinDriver_phase]; rfl

theorem redisplayBoth_phase (v w : Fin 192) (s : State) : (redisplayBoth v w s).ann.phaseWaiting = s.ann.phaseWaiting := by
  unfold redisplayBoth; split
  · rw [redisplay_phase, redisplay_phase]
  · rw [redisplay_phase, redisplay_phase]

theorem unmark_phase (o : Option (Fin 192)) (s : State) : (unmark o s).ann.phaseWaiting = s.ann.phaseWaiting := by
  cases o <;> rfl

theorem moveMark_phase (o : Option (Fin 192)) (w : Fin 192) (s : State) : (moveMark o w s).ann.phaseWaiting = s.ann.phaseWaiting :=
  unmark_phase o s

theorem offer_phase (o : Offer) (s : State) : (offer o s).ann.phaseWaiting = s.ann.phaseWaiting := by
  have only := offer_touches o s
  unfold State.onlyEvents at only
  rw [only]

theorem takeOffer_phase (g : Fin 32) (w : Fin 192) (p : Fin 1024) (n : Nat) (s : State) :
    (takeOffer g w p n s).ann.phaseWaiting = s.ann.phaseWaiting := by
  have marked := moveMark_phase (s.group g).foWindow w s
  have taken := takeOffer_taken g w p n s
  generalize takeOffer g w p n s = t at taken ⊢
  cases taken with
  | idle => rfl
  | captured gd armed defined now => exact (offer_phase _ _).trans marked
  | provisional gd armed defined later => exact marked
  | earlier u provisional first wins => exact marked

theorem offeredTo_phase (w : Fin 192) (capture : Option (Fin 1024 × Nat)) (s : State) :
    (offeredTo w capture s).ann.phaseWaiting = s.ann.phaseWaiting := by
  cases capture with
  | none => rfl
  | some c =>
    unfold offeredTo offerActivation
    dsimp only
    split
    · split
      · split
        · exact takeOffer_phase _ w _ _ s
        · rfl
      · rfl
    · rfl

/-! ### An activation whose window's sequence runs -/

section
variable {w : Fin 192} (runs : sequenceRuns s w = true) (capture : Option (Fin 1024 × Nat))
include runs

theorem activate_runs_phase : (activate w capture s).ann.phaseWaiting = (activated w s).ann.phaseWaiting := by
  rw [activate_of_runs runs, redisplayBoth_phase, offeredTo_phase]

theorem activate_standing_groups : (activate w none s).ann.groups = s.ann.groups := by
  rw [activate_of_runs runs, (redisplayBoth_onlyShown _ w _).groups]
  exact activated_groups w s

end

/-- The horn that an activation of a defined window enters (R68). -/
theorem hornOfWindow_counted {w : Fin 192} {d : WindowDef} (defined : (s.window w).defn = some d) :
    hornOfWindow (countActivation w s) w = hornOfGroup s d.group := by
  have defn : ((countActivation w s).window w).defn = some d := by rw [countActivation_window, if_pos rfl]; exact defined
  unfold hornOfWindow
  rw [defn]
  rfl

theorem activated_of_fast {w : Fin 192} (fast : (s.window w).state = .fast) : activated w s = countActivation w s := by
  unfold activated enterFast
  rw [if_pos (by rw [countActivation_window, if_pos rfl]; exact fast)]

theorem activated_of_slower {w : Fin 192} {d : WindowDef} (defined : (s.window w).defn = some d) (slower : (s.window w).state ≠ .fast) :
    activated w s = hornEnter (hornOfGroup s d.group)
      ((countActivation w s).setWindow w { (countActivation w s).window w with state := .fast }) := by
  unfold activated enterFast
  rw [if_neg (by rw [countActivation_window, if_pos rfl]; exact slower), hornOfWindow_counted defined]

/-- No horn is entered by a window already FAST, or of a group that names none. -/
theorem activated_horns_of_idle {w : Fin 192} {d : WindowDef} (defined : (s.window w).defn = some d)
    (idle : (s.window w).state = .fast ∨ hornOfGroup s d.group = none) : (activated w s).ann.horns = s.ann.horns := by
  by_cases fast : (s.window w).state = .fast
  · rw [activated_of_fast fast]; rfl
  · rw [activated_of_slower defined fast, idle.resolve_left fast]; rfl

theorem activated_horn {w : Fin 192} {d : WindowDef} {h : Fin 4} (defined : (s.window w).defn = some d)
    (slower : (s.window w).state ≠ .fast) (named : hornOfGroup s d.group = some h) (k : Fin 4) : (activated w s).horn k =
      if k = h then { s.horn h with state := .sounding, fastCount := (s.horn h).fastCount + 1 } else s.horn k := by
  rw [activated_of_slower defined slower, named, hornEnter_horn]
  rfl

theorem activated_phase {w : Fin 192} {d : WindowDef} {h : Fin 4} (defined : (s.window w).defn = some d)
    (slower : (s.window w).state ≠ .fast) (named : hornOfGroup s d.group = some h) :
    (activated w s).ann.phaseWaiting = true ↔ s.ann.phaseWaiting = true ∨ (s.horn h).state ≠ .sounding := by
  rw [activated_of_slower defined slower, named]
  exact putHorn_phase h _ _

/-! ### Clears -/

theorem clearSource_horns (w : Fin 192) (s : State) : (clearSource w s).ann.horns = s.ann.horns := by
  by_cases rests : s.mode = .configuring ∨ (s.window w).defn = none ∨ (s.window w).state ≠ .steady ∨ 1 < (s.window w).count
  · rw [clearSource_rests rests, redisplay_horns]; rfl
  · obtain ⟨service, named, steady, last⟩ := by simpa only [not_or] using rests
    obtain ⟨d, defined⟩ := Option.ne_none_iff_exists'.mp named
    rw [clearSource_moves service defined (not_not.mp steady) (not_lt.mp last), redisplay_horns]
    cases d.sequence with
    | manualReset => rfl
    | autoReset => exact (goDark_sequence w _).horns

/-- The group of a window that reaches DARK rearms exactly where the window is its first-out window (R68, R90). -/
theorem reachedDark_other {w : Fin 192} {d : WindowDef} (defined : (s.window w).defn = some d)
    (other : (s.group d.group).foWindow ≠ some w) : reachedDark w s = s := by
  unfold reachedDark
  rw [defined]
  exact if_neg other

theorem reachedDark_first {w : Fin 192} {d : WindowDef} (defined : (s.window w).defn = some d)
    (first : (s.group d.group).foWindow = some w) : reachedDark w s = rearm d.group s := by
  unfold reachedDark
  rw [defined]
  exact if_pos first

/-- A clear keeps its window's definition and takes one off its count; no other window changes. -/
theorem clearSource_counts (w : Fin 192) (s : State) : ((clearSource w s).window w).count = (s.window w).count - 1 ∧
    ((clearSource w s).window w).defn = (s.window w).defn ∧ ∀ j, j ≠ w → (clearSource w s).window j = s.window j := by
  by_cases rests : s.mode = .configuring ∨ (s.window w).defn = none ∨ (s.window w).state ≠ .steady ∨ 1 < (s.window w).count
  · rw [clearSource_rests rests, redisplay_window, if_pos rfl, countClear_window, if_pos rfl]
    refine ⟨rfl, rfl, fun j other => ?_⟩
    rw [redisplay_window, if_neg other, countClear_window, if_neg other]
  · obtain ⟨service, named, steady, last⟩ := by simpa only [not_or] using rests
    obtain ⟨d, defined⟩ := Option.ne_none_iff_exists'.mp named
    rw [clearSource_moves service defined (not_not.mp steady) (not_lt.mp last), redisplay_window, if_pos rfl]
    cases d.sequence with
    | manualReset =>
      dsimp only
      rw [countClear_setWindow, countClear_window, if_pos rfl, State.setWindow_window_self]
      refine ⟨rfl, rfl, fun j other => ?_⟩
      rw [redisplay_window, if_neg other, State.setWindow_window_ne _ _ other]
    | autoReset =>
      dsimp only
      have dark := goDark_sequence w (countClear w s)
      rw [countClear_setWindow] at dark
      refine ⟨?_, ?_, fun j other => ?_⟩
      · rw [dark.count, State.setWindow_window_self, countClear_window, if_pos rfl]
      · rw [dark.defn, State.setWindow_window_self, countClear_window, if_pos rfl]
      · rw [redisplay_window, if_neg other, (goDark_alters w _).window j other other, countClear_window, if_neg other]

/-- Settles O24. -/
theorem windowFollowsItsSources : Obligations.WindowFollowsItsSources := by
  unfold Obligations.WindowFollowsItsSources
  refine ⟨fun w capture s => ?_, fun w s => ?_⟩
  · dsimp only
    cases runs : sequenceRuns s w with
    | false =>
      have shown := activate_rest_onlyShown runs capture
      refine ⟨?_, ?_, fun j other => ?_, fun _ => ⟨?_, shown.groups, shown.horns, ?_⟩, fun d service defined => ?_⟩
      · rw [shown.window, countActivation_window, if_pos rfl]
      · rw [shown.window, countActivation_window, if_pos rfl]
      · rw [shown.window, countActivation_window, if_neg other]; exact ⟨rfl, rfl, rfl⟩
      · rw [shown.window, countActivation_window, if_pos rfl]
      · rw [activate_of_rest runs, redisplay_events]; rfl
      · rw [(sequenceRuns_iff s w).mpr ⟨service, by rw [defined]; nofun⟩] at runs; cases runs
    | true =>
      have same := activate_sequence runs capture
      refine ⟨?_, ?_, fun j other => ?_, fun rest => ?_, fun d service defined => ⟨?_, fun idle => ?_, fun h slower named => ⟨?_, ?_, ?_⟩,
        fun standing => ⟨?_, ?_⟩⟩⟩
      · rw [same.count, activated_window, if_pos rfl]
      · rw [same.defn, activated_window, if_pos rfl]
      · rw [same.defn, same.state, same.count, activated_window, if_neg other]; exact ⟨rfl, rfl, rfl⟩
      · obtain ⟨service, defined⟩ := (sequenceRuns_iff s w).mp runs
        exact (rest.elim service defined).elim
      · rw [same.state, activated_window, if_pos rfl]
      · rw [same.horns, activated_horns_of_idle defined idle]
      · rw [same.horn, activated_horn defined slower named, if_pos rfl]
      · intro k other
        rw [same.horn, activated_horn defined slower named, if_neg other]
      · rw [activate_runs_phase runs]; exact activated_phase defined slower named
      · rw [standing]; exact activate_standing_groups runs
      · rw [standing]; exact (activate_none_panel w s).events
  · obtain ⟨count, defn, others⟩ := clearSource_counts w s
    refine ⟨(clearSource_panel w s).events, clearSource_horns w s, count, defn, others, fun rests => ?_,
      fun d service defined steady last => ⟨fun manual => ?_, fun auto => ?_⟩⟩
    · rw [clearSource_rests rests, redisplay_window, if_pos rfl, countClear_window, if_pos rfl, redisplay_groups]
      exact ⟨rfl, rfl⟩
    · rw [clearSource_moves service defined steady last, manual, redisplay_window, if_pos rfl, redisplay_groups,
        State.setWindow_window_self]
      exact ⟨rfl, rfl⟩
    · have dark : (countClear w s).setWindow w { (countClear w s).window w with state := .dark } =
          s.setWindow w { s.window w with state := .dark, count := (s.window w).count - 1 } := by
        rw [countClear_setWindow, countClear_window, if_pos rfl]
      have here : ((s.setWindow w { s.window w with state := .dark, count := (s.window w).count - 1 }).window w).defn = some d := by
        rw [State.setWindow_window_self]; exact defined
      rw [clearSource_moves service defined steady last, auto, redisplay_window, if_pos rfl, redisplay_groups, redisplay_group]
      dsimp only
      refine ⟨?_, fun other => ?_, fun first => ⟨?_, ?_⟩⟩
      · rw [(goDark_sequence w _).state, State.setWindow_window_self]
      · unfold goDark; rw [dark, reachedDark_other here other]; rfl
      · unfold goDark; rw [dark, reachedDark_first here first, rearm_window]
        exact congrArg Window.mark (if_pos first)
      · unfold goDark; rw [dark, reachedDark_first here first, rearm_group, if_pos rfl]; rfl

end Sys2Proof.Machine

/-! First-out capture (R85 to R89). -/

namespace Sys2Proof.Machine

variable {s t : State}

/-! ### The offer of an activation to its group -/

section
variable {w : Fin 192} {d : WindowDef} {gd : GroupDef} (defined : (s.window w).defn = some d)
  (grouped : (s.group d.group).defn = some gd)
include defined grouped

theorem offerActivation_enters (eligible : d.eligible = true) (enabled : gd.firstOut = true) (p : Fin 1024) (n : Nat) :
    offerActivation w p n s = takeOffer d.group w p n s := by
  unfold offerActivation
  rw [defined]
  dsimp only
  rw [grouped]
  dsimp only
  rw [eligible, enabled]
  rfl

theorem offerActivation_stays (barred : d.eligible = false ∨ gd.firstOut = false) (p : Fin 1024) (n : Nat) :
    offerActivation w p n s = s := by
  unfold offerActivation
  rw [defined]
  dsimp only
  rw [grouped]
  refine if_neg ?_
  rcases barred with no | no
  · rw [no]; exact nofun
  · rw [no, Bool.and_false]; exact nofun

end

theorem takeOffer_captured {g : Fin 32} (captured : (s.group g).state = .captured) (w : Fin 192) (p : Fin 1024) (n : Nat) :
    takeOffer g w p n s = s := by
  unfold takeOffer
  rw [captured]

theorem takeOffer_later {g : Fin 32} {gd : GroupDef} (armed : (s.group g).state = .armed) (grouped : (s.group g).defn = some gd)
    (later : gd.settle ≠ 0) (w : Fin 192) (p : Fin 1024) (n : Nat) : takeOffer g w p n s =
      (moveMark (s.group g).foWindow w s).setGroup g { s.group g with
        state := .provisional, foWindow := some w, foPoint := some p, captured := n, settle := some gd.settle } := by
  unfold takeOffer
  rw [armed, grouped]
  dsimp only
  rw [if_neg later, recordFirstOut_eq, State.setGroup_group_self, State.setGroup_setGroup]

theorem takeOffer_now {g : Fin 32} {gd : GroupDef} (armed : (s.group g).state = .armed) (grouped : (s.group g).defn = some gd)
    (now : gd.settle = 0) (w : Fin 192) (p : Fin 1024) (n : Nat) : takeOffer g w p n s =
      offerFirstOut g ((moveMark (s.group g).foWindow w s).setGroup g
        { s.group g with state := .captured, foWindow := some w, foPoint := some p, captured := n }) := by
  unfold takeOffer
  rw [armed, grouped]
  dsimp only
  rw [if_pos now, recordFirstOut_eq, State.setGroup_group_self, State.setGroup_setGroup]

theorem takeOffer_provisional {g : Fin 32} {u : Fin 192} (provisional : (s.group g).state = .provisional)
    (first : (s.group g).foWindow = some u) (w : Fin 192) (p : Fin 1024) (n : Nat) : takeOffer g w p n s =
      if n < (s.group g).captured ∨ (n = (s.group g).captured ∧ w < u) then
        (moveMark (s.group g).foWindow w s).setGroup g { s.group g with foWindow := some w, foPoint := some p, captured := n }
      else s := by
  unfold takeOffer
  rw [provisional]
  dsimp only
  rw [first, recordFirstOut_eq, first]

/-! ### A capturing activation -/

theorem activated_group (w : Fin 192) (s : State) (g : Fin 32) : (activated w s).group g = s.group g := enterFast_group w _ g

theorem activated_panel (w : Fin 192) (s : State) : s.onlyPanel (activated w s) :=
  State.onlyPanel.trans (t := countActivation w s) rfl (enterFast_panel w _)

theorem moveMark_panel (o : Option (Fin 192)) (w : Fin 192) (s : State) : s.onlyPanel (moveMark o w s) :=
  (unmark_panel o s).trans rfl

/-- What an offer leaves of windows and groups stands after the patterns are derived. -/
theorem activate_capture {w : Fin 192} (runs : sequenceRuns s w = true) (p : Fin 1024) (n : Nat) :
    (offerActivation w p n (activated w s)).onlyShown (activate w (some (p, n)) s) ∧
      (activate w (some (p, n)) s).events = (offerActivation w p n (activated w s)).events := by
  rw [activate_of_runs runs]
  exact ⟨redisplayBoth_onlyShown _ w _, (redisplayBoth_panel _ w _).events⟩

theorem State.onlyShown.group (h : s.onlyShown t) (g : Fin 32) : t.group g = s.group g := by rw [State.group, h.groups]; rfl

theorem State.onlyShown.mark (h : s.onlyShown t) (w : Fin 192) : (t.window w).mark = (s.window w).mark := by rw [h.window w]

/-- Settles O25. -/
theorem firstOutTakesTheEarliest : Obligations.FirstOutTakesTheEarliest := by
  unfold Obligations.FirstOutTakesTheEarliest
  intro w p n d gd s service defined grouped
  dsimp only
  have runs := (sequenceRuns_iff s w).mpr ⟨service, by rw [defined]; nofun⟩
  obtain ⟨shown, events⟩ := activate_capture runs p n
  have queue := (activated_panel w s).events
  have defn : ((activated w s).window w).defn = some d := by rw [activated_window, if_pos rfl]; exact defined
  have same := activated_group w s d.group
  have gdefn : ((activated w s).group d.group).defn = some gd := by rw [same]; exact grouped
  -- an offer that changes nothing leaves groups and queue
  have idle (none : offerActivation w p n (activated w s) = activated w s) :
      (activate w (some (p, n)) s).ann.groups = s.ann.groups ∧ (activate w (some (p, n)) s).events = s.events := by
    rw [shown.groups, events, none]
    exact ⟨activated_groups w s, queue⟩
  refine ⟨fun barred => idle ?_, fun eligible enabled => ⟨fun armed later => ?_, fun armed now => ?_, fun u provisional first => ?_⟩⟩
  · by_cases entered : d.eligible = true ∧ gd.firstOut = true
    · rw [offerActivation_enters defn gdefn entered.1 entered.2]
      refine takeOffer_captured ?_ w p n
      rw [same]
      exact (barred.resolve_left (by rw [entered.1]; nofun)).resolve_left (by rw [entered.2]; nofun)
    · refine offerActivation_stays defn gdefn ?_ p n
      rcases not_and_or.mp entered with no | no
      · exact .inl (Bool.eq_false_iff.mpr no)
      · exact .inr (Bool.eq_false_iff.mpr no)
  · have taken := (offerActivation_enters defn gdefn eligible enabled p n).trans
      (takeOffer_later (by rw [same]; exact armed) gdefn (Nat.pos_iff_ne_zero.mp later) w p n)
    rw [shown.mark, shown.group, events, taken, State.setGroup_window, moveMark_window, if_pos rfl, State.setGroup_group_self, same]
    exact ⟨rfl, ((moveMark_panel _ w _).events).trans queue, rfl⟩
  · have taken := (offerActivation_enters defn gdefn eligible enabled p n).trans
      (takeOffer_now (by rw [same]; exact armed) gdefn now w p n)
    have offered := offer_onlyShown
      { kind := .firstOut, cls := .alarm, time := n, subject := d.group.val, extra := p.val : Offer }
      ((moveMark (s.group d.group).foWindow w (activated w s)).setGroup d.group
        { s.group d.group with state := .captured, foWindow := some w, foPoint := some p, captured := n })
    rw [same] at taken
    have record := taken.trans (show _ = offer
        { kind := .firstOut, cls := .alarm, time := n, subject := d.group.val, extra := p.val } _ by
      unfold offerFirstOut
      rw [State.setGroup_group_self])
    rw [shown.mark, shown.group, events, record, offered.mark, offered.group, State.setGroup_window, moveMark_window, if_pos rfl,
      State.setGroup_group_self]
    refine ⟨rfl, rfl, State.onlyPanel.offer_events (s := s) ?_ _⟩
    exact (activated_panel w s).trans ((moveMark_panel _ w _).trans rfl)
  · have taken := (offerActivation_enters defn gdefn eligible enabled p n).trans
      (takeOffer_provisional (u := u) (by rw [same]; exact provisional) (by rw [same]; exact first) w p n)
    rw [same, first] at taken
    by_cases wins : n < (s.group d.group).captured ∨ (n = (s.group d.group).captured ∧ w < u)
    · rw [if_pos wins] at taken
      refine ⟨?_, fun _ => ⟨?_, fun other => ?_, ?_⟩, fun loses => absurd wins loses⟩
      · rw [events, taken]
        exact ((moveMark_panel (some u) w _).events).trans queue
      · rw [shown.mark, taken, State.setGroup_window, moveMark_window, if_pos rfl]
      · rw [shown.mark, taken, State.setGroup_window, moveMark_window, if_neg other, if_pos rfl]
      · rw [shown.group, taken, State.setGroup_group_self]
    · rw [if_neg wins] at taken
      obtain ⟨groups, stays⟩ := idle taken
      exact ⟨stays, fun win => absurd win wins, fun _ => groups⟩

end Sys2Proof.Machine

/-! The ACK and the RESET of a group: what a sweep of its windows leaves of windows, horns and the group (R66 to R68, R90 to R95). -/

namespace Sys2Proof.Machine

variable {s t : State}

/-! ### Sweeps of a group's windows -/

/-- A window without its mark and its displayed pattern. -/
def Window.core (v : Window) : Window := { v with mark := false, shown := .off }

theorem State.sameSequence.core (h : s.sameSequence t) (w : Fin 192) : (t.window w).core = (s.window w).core := by
  unfold Window.core
  rw [h.defn, h.state, h.count]

theorem inGroup_core {g : Fin 32} {w : Fin 192} (core : (t.window w).core.defn = (s.window w).core.defn) :
    inGroup t g w = inGroup s g w := by
  have same : (t.window w).defn = (s.window w).defn := core
  unfold inGroup
  rw [same]

/-- An operation that reaches one window of group `g`: it gives that window's core a new value, once and for all, and rearms the group
where the window darkens and is its first-out window. -/
structure Sweeps (g : Fin 32) (f : Fin 192 → State → State) (φ : Window → Window) (dark : Window → Bool) : Prop where
  window : ∀ w j s, ((f w s).window j).core = if j = w then φ (s.window w).core else (s.window j).core
  twice : ∀ v, φ (φ v) = φ v
  lit : ∀ v, dark (φ v) = false
  defn : ∀ v, (φ v).defn = v.defn
  other : ∀ w s, inGroup s g w = true → ∀ k, k ≠ g → (f w s).group k = s.group k
  rearms : ∀ w s, inGroup s g w = true → dark (s.window w).core = true → (s.group g).foWindow = some w →
    (f w s).group g = (s.group g).rearmed
  stays : ∀ w s, inGroup s g w = true → (dark (s.window w).core = true → (s.group g).foWindow ≠ some w) → (f w s).group g = s.group g

namespace Sweeps

variable {g : Fin 32} {f : Fin 192 → State → State} {φ : Window → Window} {dark : Window → Bool} (h : Sweeps g f φ dark)
include h

theorem cores (ws : List (Fin 192)) (s : State) (j : Fin 192) :
    ((State.each ws f s).window j).core = if j ∈ ws then φ (s.window j).core else (s.window j).core :=
  State.each_updates (get := fun s j => (s.window j).core) (fun w j s => h.window w j s) h.twice ws s j

theorem inGroup (w : Fin 192) (s : State) (j : Fin 192) : inGroup (f w s) g j = inGroup s g j := by
  refine inGroup_core ?_
  rw [h.window]
  split
  · rename_i at_w; rw [h.defn, at_w]
  · rfl

theorem keepsOthers {ws : List (Fin 192)} (own : ∀ w ∈ ws, Machine.inGroup s g w = true) {k : Fin 32} (other : k ≠ g) :
    (State.each ws f s).group k = s.group k := by
  induction ws generalizing s with
  | nil => rfl
  | cons w ws ih =>
    rw [State.each_cons, ih fun j hj => (h.inGroup w s j).trans (own j (List.mem_cons_of_mem w hj))]
    exact h.other w s (own w List.mem_cons_self) k other

/-- No first-out window of the group darkens: the group stays as it is. -/
theorem keeps {ws : List (Fin 192)} (own : ∀ w ∈ ws, Machine.inGroup s g w = true)
    (none : ∀ w ∈ ws, dark (s.window w).core = true → (s.group g).foWindow ≠ some w) : (State.each ws f s).group g = s.group g := by
  induction ws generalizing s with
  | nil => rfl
  | cons w ws ih =>
    have step := h.stays w s (own w List.mem_cons_self) (none w List.mem_cons_self)
    rw [State.each_cons, ih (fun j hj => (h.inGroup w s j).trans (own j (List.mem_cons_of_mem w hj))) fun j hj darkens => ?_, step]
    rw [step]
    rw [h.window] at darkens
    split at darkens
    · rw [h.lit] at darkens; cases darkens
    · exact none j (List.mem_cons_of_mem w hj) darkens

/-- The first-out window of the group darkens: the group rearms. -/
theorem rearmed {ws : List (Fin 192)} (own : ∀ w ∈ ws, Machine.inGroup s g w = true) {x : Fin 192} (reached : x ∈ ws)
    (darkens : dark (s.window x).core = true) (first : (s.group g).foWindow = some x) :
    (State.each ws f s).group g = (s.group g).rearmed := by
  induction ws generalizing s with
  | nil => cases reached
  | cons w ws ih =>
    have kept (j : Fin 192) (hj : j ∈ ws) : Machine.inGroup (f w s) g j = true :=
      (h.inGroup w s j).trans (own j (List.mem_cons_of_mem w hj))
    rw [State.each_cons]
    by_cases at_x : x = w
    · subst at_x
      have step := h.rearms x s (own x List.mem_cons_self) darkens first
      rw [h.keeps kept (fun j _ _ => by rw [step]; nofun), step]
    · have step := h.stays w s (own w List.mem_cons_self) fun _ at_w => at_x (Option.some.inj (first.symm.trans at_w))
      rw [ih kept ((List.mem_cons.mp reached).resolve_left at_x) (by rw [h.window, if_neg at_x]; exact darkens)
        (by rw [step]; exact first), step]

end Sweeps

/-! ### A window that reaches DARK, and its group -/

section
variable {w : Fin 192} {g : Fin 32} (own : inGroup s g w = true)
include own

theorem reachedDark_group_other {k : Fin 32} (other : k ≠ g) : (reachedDark w s).group k = s.group k := by
  obtain ⟨d, defined, rfl⟩ := (inGroup_iff s g w).mp own
  by_cases first : (s.group d.group).foWindow = some w
  · rw [reachedDark_first defined first, rearm_group, if_neg other]
  · rw [reachedDark_other defined first]

theorem reachedDark_rearms (first : (s.group g).foWindow = some w) : (reachedDark w s).group g = (s.group g).rearmed := by
  obtain ⟨d, defined, rfl⟩ := (inGroup_iff s g w).mp own
  rw [reachedDark_first defined first, rearm_group, if_pos rfl]
  rfl

theorem reachedDark_stays (other : (s.group g).foWindow ≠ some w) : reachedDark w s = s := by
  obtain ⟨d, defined, rfl⟩ := (inGroup_iff s g w).mp own
  exact reachedDark_other defined other

theorem reachedDark_unmarks (first : (s.group g).foWindow = some w) : ((reachedDark w s).window w).mark = false := by
  obtain ⟨d, defined, rfl⟩ := (inGroup_iff s g w).mp own
  rw [reachedDark_first defined first, rearm_window, if_pos first]

end

theorem inGroup_setWindow {w : Fin 192} {v : Window} (same : v.defn = (s.window w).defn) (g : Fin 32) (j : Fin 192) :
    inGroup (s.setWindow w v) g j = inGroup s g j := by
  refine inGroup_core ?_
  rw [State.setWindow_window]
  split
  · rename_i at_w; rw [at_w]; exact same
  · rfl

/-! ### The ACK of a group -/

/-- A window after the ACK of its group (R66). -/
def Window.acked (v : Window) : Window :=
  match v.defn with
  | some d => if v.state = .fast then
      { v with state := if 0 < v.count then .steady else if d.sequence = .manualReset then .slow else .dark }
    else v
  | none => v

/-- The ACK takes the window to DARK. -/
def Window.ackDarkens (v : Window) : Bool :=
  match v.defn with
  | some d => decide (v.state = .fast ∧ v.count = 0 ∧ d.sequence = .autoReset)
  | none => false

theorem Window.ackDarkens_iff (v : Window) : v.ackDarkens = true ↔ v.state = .fast ∧ v.count = 0 ∧
    ∃ d, v.defn = some d ∧ d.sequence = .autoReset := by
  unfold Window.ackDarkens
  split
  · rename_i d defined; simp [defined]
  · rename_i undefined; simp [undefined]

theorem Window.acked_of_slower {v : Window} (slower : v.state ≠ .fast) : v.acked = v := by
  unfold Window.acked
  split
  · exact if_neg slower
  · rfl

theorem Window.acked_of_fast {v : Window} {d : WindowDef} (defined : v.defn = some d) (fast : v.state = .fast) : v.acked =
    { v with state := if 0 < v.count then .steady else if d.sequence = .manualReset then .slow else .dark } := by
  unfold Window.acked
  rw [defined]
  exact if_pos fast

theorem Window.acked_fields (v : Window) : v.acked.defn = v.defn ∧ v.acked.count = v.count := by
  unfold Window.acked
  split
  · split
    · exact ⟨rfl, rfl⟩
    · exact ⟨rfl, rfl⟩
  · exact ⟨rfl, rfl⟩

theorem Window.acked_left {v : Window} (defined : v.defn ≠ none) : v.acked.state ≠ .fast := by
  obtain ⟨d, defined⟩ := Option.ne_none_iff_exists'.mp defined
  by_cases fast : v.state = .fast
  · rw [acked_of_fast defined fast]
    dsimp only
    split
    · nofun
    · split
      · nofun
      · nofun
  · rw [acked_of_slower fast]; exact fast

theorem Window.acked_acked (v : Window) : v.acked.acked = v.acked := by
  by_cases defined : v.defn = none
  · unfold Window.acked; rw [defined]; dsimp only; rw [defined]
  · exact acked_of_slower (acked_left defined)

/-- What the ACK of a FAST window makes of it before its pattern is derived: the exit from FAST, to the state of its type. -/
theorem ackWindow_of_fast {w : Fin 192} {d : WindowDef} (defined : (s.window w).defn = some d) (fast : (s.window w).state = .fast) :
    ackWindow w s = redisplay w (leaveFast w (s.window w).acked.state s) := by
  unfold ackWindow
  rw [if_pos fast, defined, Window.acked_of_fast defined fast]
  dsimp only
  cases d.sequence with
  | manualReset => rfl
  | autoReset => rfl

theorem ackWindow_of_rest {w : Fin 192} (rest : (s.window w).state ≠ .fast ∨ (s.window w).defn = none) : ackWindow w s = s := by
  unfold ackWindow
  split
  · rename_i fast
    rw [rest.resolve_left (not_not.mpr fast)]
  · rfl

theorem ackWindow_core (w j : Fin 192) (s : State) :
    ((ackWindow w s).window j).core = if j = w then (s.window w).core.acked else (s.window j).core := by
  by_cases rest : (s.window w).state ≠ .fast ∨ (s.window w).defn = none
  · have stays : (s.window w).core.acked = (s.window w).core := by
      rcases rest with slower | undefined
      · exact Window.acked_of_slower slower
      · have undefined : (s.window w).core.defn = none := undefined
        unfold Window.acked; rw [undefined]
    rw [ackWindow_of_rest rest, stays]
    split
    · rename_i at_w; rw [at_w]
    · rfl
  · obtain ⟨fast, defined⟩ := not_or.mp rest
    have fast := not_not.mp fast
    obtain ⟨d, defined⟩ := Option.ne_none_iff_exists'.mp defined
    rw [ackWindow_of_fast defined fast, (redisplay_onlyShown w _).sequence.core, (leaveFast_sequence w _ s).core, leftFast_window]
    split
    · rw [Window.acked_of_fast defined fast, Window.acked_of_fast (v := (s.window w).core) defined fast]
      rfl
    · rfl

theorem leftFast_inGroup (w : Fin 192) (next : WindowState) (s : State) (g : Fin 32) (j : Fin 192) :
    inGroup (leftFast w next s) g j = inGroup s g j := by
  refine inGroup_core ?_
  rw [leftFast_window]
  split
  · rename_i at_w; rw [at_w]; rfl
  · rfl

theorem leaveFast_dark (w : Fin 192) (s : State) : leaveFast w .dark s = reachedDark w (leftFast w .dark s) := rfl

theorem leaveFast_other {w : Fin 192} {next : WindowState} (lit : next ≠ .dark) (s : State) : leaveFast w next s = leftFast w next s :=
  if_neg lit

theorem ackWindow_sweeps (g : Fin 32) : Sweeps g ackWindow Window.acked Window.ackDarkens where
  window := ackWindow_core
  twice := Window.acked_acked
  lit v := by
    rw [Bool.eq_false_iff, Ne, Window.ackDarkens_iff]
    rintro ⟨fast, -, d, defined, -⟩
    exact Window.acked_left (v := v) (by rw [← (Window.acked_fields v).1, defined]; nofun) fast
  defn v := (Window.acked_fields v).1
  other w s own k away := by
    by_cases rest : (s.window w).state ≠ .fast ∨ (s.window w).defn = none
    · rw [ackWindow_of_rest rest]
    · obtain ⟨fast, defined⟩ := not_or.mp rest
      obtain ⟨d, defined⟩ := Option.ne_none_iff_exists'.mp defined
      rw [ackWindow_of_fast defined (not_not.mp fast), redisplay_group]
      by_cases dark : (s.window w).acked.state = .dark
      · rw [dark, leaveFast_dark, reachedDark_group_other ((leftFast_inGroup w _ s g w).trans own) away, leftFast_group]
      · rw [leaveFast_other dark, leftFast_group]
  rearms w s own dark first := by
    obtain ⟨fast, zero, d, defined, auto⟩ := (Window.ackDarkens_iff _).mp dark
    have none : ¬ 0 < (s.window w).count := by rw [show (s.window w).count = 0 from zero]; exact Nat.lt_irrefl 0
    have state : (s.window w).acked.state = .dark := by
      rw [Window.acked_of_fast (v := s.window w) defined fast, auto]
      exact if_neg none
    rw [ackWindow_of_fast defined fast, redisplay_group, state, leaveFast_dark,
      reachedDark_rearms ((leftFast_inGroup w _ s g w).trans own) (by rw [leftFast_group]; exact first), leftFast_group]
  stays w s own none := by
    by_cases rest : (s.window w).state ≠ .fast ∨ (s.window w).defn = .none
    · rw [ackWindow_of_rest rest]
    · obtain ⟨fast, defined⟩ := not_or.mp rest
      have fast := not_not.mp fast
      obtain ⟨d, defined⟩ := Option.ne_none_iff_exists'.mp defined
      rw [ackWindow_of_fast defined fast, redisplay_group]
      by_cases dark : (s.window w).acked.state = .dark
      · have darkens : (s.window w).core.ackDarkens = true := by
          rw [Window.acked_of_fast defined fast] at dark
          refine (Window.ackDarkens_iff _).mpr ⟨fast, ?_, d, defined, ?_⟩
          · by_contra more
            have more : 0 < (s.window w).count := Nat.pos_of_ne_zero more
            rw [if_pos more] at dark
            cases dark
          · cases auto : d.sequence with
            | autoReset => rfl
            | manualReset => rw [auto] at dark; dsimp only at dark; split at dark <;> cases dark
        rw [dark, leaveFast_dark, reachedDark_stays ((leftFast_inGroup w _ s g w).trans own) (by rw [leftFast_group]; exact none darkens),
          leftFast_group]
      · rw [leaveFast_other dark, leftFast_group]

/-! ### Exits handed to a horn -/

/-- A horn after `n` exits from FAST (R95). -/
def Horn.exited (n : Nat) (v : Horn) : Horn :=
  if n = 0 then v else { v with fastCount := v.fastCount - n, state := if v.fastCount ≤ n then .quiet else v.state }

theorem Horn.exited_one_more (n : Nat) (v : Horn) : (v.exited 1).exited n = v.exited (n + 1) := by
  unfold Horn.exited
  by_cases zero : n = 0
  · subst zero; rfl
  · rw [if_neg zero, if_neg (Nat.succ_ne_zero n), if_neg Nat.one_ne_zero]
    dsimp only
    congr 1
    · by_cases few : v.fastCount ≤ n + 1
      · rw [if_pos few, if_pos (by omega)]
      · rw [if_neg few, if_neg (by omega), if_neg (by omega)]
    · omega

theorem leftFast_horn {w : Fin 192} {next : WindowState} (h : Fin 4) : (leftFast w next s).horn h =
    if hornOfWindow s w = some h then (s.horn h).exited 1 else s.horn h := by
  unfold leftFast
  cases named : hornOfWindow s w with
  | none => rfl
  | some x =>
    rw [hornExit_horn]
    by_cases at_x : h = x
    · subst at_x
      rw [if_pos rfl, if_pos rfl, Horn.exited, if_neg Nat.one_ne_zero, State.setWindow_horn]
      by_cases few : (s.horn h).fastCount ≤ 1
      · rw [if_pos few, if_pos (by omega)]
      · rw [if_neg few, if_neg (by omega)]
    · rw [if_neg at_x, if_neg fun same => at_x (Option.some.inj same).symm]
      rfl

theorem ackWindow_horn {w : Fin 192} {g : Fin 32} (own : inGroup s g w = true) (h : Fin 4) : (ackWindow w s).horn h =
    if hornOfGroup s g = some h ∧ (s.window w).state = .fast then (s.horn h).exited 1 else s.horn h := by
  obtain ⟨d, defined, rfl⟩ := (inGroup_iff s g w).mp own
  by_cases fast : (s.window w).state = .fast
  · rw [ackWindow_of_fast defined fast, redisplay_horn, (leaveFast_sequence w _ s).horn, leftFast_horn, hornOfWindow_of_defined defined]
    by_cases named : hornOfGroup s d.group = some h
    · rw [if_pos named, if_pos ⟨named, fast⟩]
    · rw [if_neg named, if_neg fun both => named both.1]
  · rw [ackWindow_of_rest (.inl fast), if_neg fun both => fast both.2]

theorem ackWindow_groupDefn (w : Fin 192) (s : State) (g : Fin 32) : ((ackWindow w s).group g).defn = (s.group g).defn := by
  unfold ackWindow
  split
  · split
    · rw [redisplay_group, (leaveFast_sequence w _ s).group, leftFast_group]
    · rfl
  · rfl

/-- The horn of a group after the ACK of distinct windows of the group: as many exits as there are FAST windows (R95). -/
theorem each_ackWindow_horn {g : Fin 32} {ws : List (Fin 192)} (own : ∀ w ∈ ws, inGroup s g w = true) (once : ws.Nodup) (h : Fin 4) :
    (State.each ws ackWindow s).horn h = if hornOfGroup s g = some h then (s.horn h).exited (quickAmong s ws) else s.horn h := by
  induction ws generalizing s with
  | nil => split <;> rfl
  | cons w ws ih =>
    obtain ⟨absent, once⟩ := List.nodup_cons.mp once
    have rest : quickAmong (ackWindow w s) ws = quickAmong s ws := by
      refine List.countP_congr fun j hj => ?_
      have core := ackWindow_core w j s
      rw [if_neg fun at_w : j = w => absent (at_w ▸ hj)] at core
      have state : ((ackWindow w s).window j).core.state = (s.window j).core.state := by rw [core]
      rw [show ((ackWindow w s).window j).state = (s.window j).state from state]
    rw [State.each_cons, ih (fun j hj => ((ackWindow_sweeps g).inGroup w s j).trans (own j (List.mem_cons_of_mem w hj))) once, rest,
      hornOfGroup_congr (ackWindow_groupDefn w s g), ackWindow_horn (own w List.mem_cons_self)]
    by_cases named : hornOfGroup s g = some h
    · have first : quickAmong s (w :: ws) = quickAmong s ws + if (s.window w).state = .fast then 1 else 0 := by
        unfold quickAmong
        rw [List.countP_cons]
        simp
      rw [if_pos named, if_pos named, first]
      by_cases fast : (s.window w).state = .fast
      · rw [if_pos ⟨named, fast⟩, if_pos fast, Horn.exited_one_more]
      · rw [if_neg fun both => fast both.2, if_neg fast, Nat.add_zero]
    · rw [if_neg named, if_neg named, if_neg fun both => named both.1]

end Sys2Proof.Machine

/-! The ACK and the RESET of a group by command and by button (R66, R67, R90 to R94). -/

namespace Sys2Proof.Machine

variable {s t : State}

/-! ### The RESET of a group -/

/-- A window after the RESET of its group (R67). -/
def Window.reset (v : Window) : Window := if v.state = .slow then { v with state := .dark } else v

theorem resetWindow_core (w j : Fin 192) (s : State) :
    ((resetWindow w s).window j).core = if j = w then (s.window w).core.reset else (s.window j).core := by
  unfold resetWindow Window.reset
  by_cases slow : (s.window w).state = .slow
  · have core : (s.window w).core.state = .slow := slow
    rw [if_pos slow, if_pos core, (redisplay_onlyShown w _).sequence.core, (goDark_sequence w s).core, State.setWindow_window]
    split
    · rfl
    · rfl
  · have core : ¬ (s.window w).core.state = .slow := slow
    rw [if_neg slow, if_neg core]
    split
    · rename_i at_w; rw [at_w]
    · rfl

theorem resetWindow_of_slow {w : Fin 192} (slow : (s.window w).state = .slow) : resetWindow w s =
    redisplay w (reachedDark w (s.setWindow w { s.window w with state := .dark })) := if_pos slow

theorem resetWindow_of_other {w : Fin 192} (other : (s.window w).state ≠ .slow) : resetWindow w s = s := if_neg other

theorem darkened_inGroup {w : Fin 192} {g : Fin 32} (own : inGroup s g w = true) :
    inGroup (s.setWindow w { s.window w with state := .dark }) g w = true := (inGroup_setWindow (by rfl) g w).trans own

theorem resetWindow_sweeps (g : Fin 32) : Sweeps g resetWindow Window.reset (fun v => decide (v.state = .slow)) where
  window := resetWindow_core
  twice v := by
    unfold Window.reset
    by_cases slow : v.state = .slow
    · rw [if_pos slow]; exact if_neg nofun
    · rw [if_neg slow, if_neg slow]
  lit v := by
    unfold Window.reset
    split
    · rfl
    · rename_i other; exact decide_eq_false other
  defn v := by unfold Window.reset; split <;> rfl
  other w s own k away := by
    by_cases slow : (s.window w).state = .slow
    · rw [resetWindow_of_slow slow, redisplay_group, reachedDark_group_other (darkened_inGroup own) away]; rfl
    · rw [resetWindow_of_other slow]
  rearms w s own dark first := by
    rw [resetWindow_of_slow (of_decide_eq_true dark), redisplay_group, reachedDark_rearms (darkened_inGroup own) first]
    rfl
  stays w s own none := by
    by_cases slow : (s.window w).state = .slow
    · rw [resetWindow_of_slow slow, redisplay_group, reachedDark_stays (darkened_inGroup own) (none (decide_eq_true slow))]
      rfl
    · rw [resetWindow_of_other slow]

theorem resetWindow_alters (w : Fin 192) (s : State) {j : Fin 192} (other : j ≠ w) : (resetWindow w s).window j = s.window j := by
  unfold resetWindow
  split
  · rw [redisplay_window, if_neg other, (goDark_alters w s).window j other other]
  · rfl

/-- A RESET can take a window's mark away and never sets one. -/
theorem resetWindow_mark (w j : Fin 192) (s : State) (unmarked : (s.window j).mark = false) : ((resetWindow w s).window j).mark = false := by
  by_cases at_w : j = w
  · subst at_w
    unfold resetWindow goDark reachedDark
    split
    · rw [redisplay_window, if_pos rfl]
      dsimp only
      split
      · split
        · rw [rearm_unmarks, State.setWindow_window_self]
          exact (congrArg (· && _) unmarked).trans (Bool.false_and _)
        · rw [State.setWindow_window_self]; exact unmarked
      · rw [State.setWindow_window_self]; exact unmarked
    · exact unmarked
  · rw [resetWindow_alters w s at_w]; exact unmarked

theorem each_resetWindow_unmarks {g : Fin 32} {ws : List (Fin 192)} (own : ∀ w ∈ ws, inGroup s g w = true) {x : Fin 192} (reached : x ∈ ws)
    (slow : (s.window x).state = .slow) (first : (s.group g).foWindow = some x) :
    ((State.each ws resetWindow s).window x).mark = false := by
  induction ws generalizing s with
  | nil => cases reached
  | cons w ws ih =>
    rw [State.each_cons]
    by_cases at_x : x = w
    · subst at_x
      refine State.each_keeps (P := fun u => (u.window x).mark = false) (fun w u => resetWindow_mark w x u) ws _ ?_
      rw [resetWindow_of_slow slow, redisplay_window, if_pos rfl]
      exact reachedDark_unmarks (darkened_inGroup (own x List.mem_cons_self)) first
    · refine ih (fun j hj => ((resetWindow_sweeps g).inGroup w s j).trans (own j (List.mem_cons_of_mem w hj)))
        ((List.mem_cons.mp reached).resolve_left at_x) (by rw [resetWindow_alters w s at_x]; exact slow) ?_
      rw [(resetWindow_sweeps g).stays w s (own w List.mem_cons_self) fun _ at_w => at_x (Option.some.inj (first.symm.trans at_w))]
      exact first

theorem each_resetWindow_horns (ws : List (Fin 192)) (s : State) : (State.each ws resetWindow s).ann.horns = s.ann.horns := by
  refine State.each_keeps (P := fun u => u.ann.horns = s.ann.horns) (fun w u same => ?_) ws s rfl
  unfold resetWindow
  split
  · rw [redisplay_horns, (goDark_sequence w u).horns]; exact same
  · exact same

/-! ### The rows -/

/-- A record offered after a change of the Annunciation Unit. -/
theorem State.onlyPanel.offered (h : s.onlyPanel t) (o : Offer) : offer o t = { s with ann := t.ann, events := (offer o s).events } := by
  have only := offer_touches o t
  unfold State.onlyEvents at only
  rw [only, h.offer_events o, h]

theorem ackGroup_eq {g : Fin 32} (service : s.mode ≠ .configuring) (origin : Nat) : ackGroup g origin s =
    { s with ann := (State.each (windowsOf s g) ackWindow s).ann
             events := (offerNow .groupAck .alarm g.val 0 origin s).events } := by
  unfold ackGroup
  rw [if_neg service]
  have panel := each_panel ackWindow_panel (windowsOf s g) s
  have offered := panel.offered (o := { kind := .groupAck, cls := .alarm, time := s.time.station, subject := g.val, value := 0, extra := origin })
  unfold offerNow
  rw [panel.time]
  exact offered

theorem resetGroup_eq {g : Fin 32} (service : s.mode ≠ .configuring) : resetGroup g s =
    { s with ann := (State.each (windowsOf s g) resetWindow s).ann
             events := (offerNow .groupReset .alarm g.val 0 0 s).events } := by
  unfold resetGroup
  rw [if_neg service]
  have panel := each_panel resetWindow_panel (windowsOf s g) s
  have offered := panel.offered (o := { kind := .groupReset, cls := .alarm, time := s.time.station, subject := g.val, value := 0, extra := 0 })
  unfold offerNow
  rw [panel.time]
  exact offered

theorem mem_windowsOf_iff (s : State) (g : Fin 32) (w : Fin 192) : w ∈ windowsOf s g ↔ inGroup s g w = true := by
  rw [mem_windowsOf, inGroup_iff]

/-- A sweep of a group gives each of its windows its new core. -/
theorem Sweeps.groupCores {g : Fin 32} {f : Fin 192 → State → State} {φ : Window → Window} {dark : Window → Bool} (h : Sweeps g f φ dark)
    (s : State) (w : Fin 192) : ((State.each (windowsOf s g) f s).window w).core =
      if Machine.inGroup s g w = true then φ (s.window w).core else (s.window w).core := by
  rw [h.cores]
  by_cases inside : Machine.inGroup s g w = true
  · rw [if_pos ((mem_windowsOf_iff s g w).mpr inside), if_pos inside]
  · rw [if_neg (mt (mem_windowsOf_iff s g w).mp inside), if_neg inside]

theorem Window.fields_of_core {v u : Window} (same : v.core = u.core) : v.defn = u.defn ∧ v.count = u.count ∧ v.state = u.state :=
  ⟨show v.core.defn = u.core.defn by rw [same], show v.core.count = u.core.count by rw [same],
   show v.core.state = u.core.state by rw [same]⟩

theorem groupAck_named {g : Fin 32} {target : Byte} (named : s.definedGroup target = some g) :
    groupAck target s = accept (ackGroup g 1 s) := by
  unfold groupAck; rw [named]

theorem groupReset_named {g : Fin 32} {target : Byte} (named : s.definedGroup target = some g) :
    groupReset target s = accept (resetGroup g s) := by
  unfold groupReset; rw [named]

theorem ackGroup_configuring {g : Fin 32} (configuring : s.mode = .configuring) (origin : Nat) : ackGroup g origin s = s := if_pos configuring
theorem resetGroup_configuring {g : Fin 32} (configuring : s.mode = .configuring) : resetGroup g s = s := if_pos configuring

section
variable {before after : List Held} {h : Held} (settled : s.flowSettled) (buffered : s.portB.buf = before ++ h :: after)
  (owned : Held.owned 0x53 h = true) (others : ∀ k ∈ before, Held.owned 0x53 k = false)
include settled buffered owned others

/-- A BUTTON frame whose act is the panel's: the act, and the frame's place given up. -/
theorem takeButton_act {act : State → State} (only : s.onlyAnnunciation (act s)) : takeButton act s =
    { act s with portB := (act s).portB.withGiven (act s).settings.lowB (before ++ after) } := by
  unfold State.onlyAnnunciation at only
  exact takeButton_split settled buffered owned others ⟨by rw [only], by rw [only], by rw [only]⟩

theorem exec_buttonAck {g : Fin 32} {target : Byte} (high : s.resetLow = false) (named : s.definedGroup target = some g)
    (payload : h.frame.payload = [0x01, target]) : exec .buttonAck s = .next { ackGroup g 0 s with
      portB := (ackGroup g 0 s).portB.withGiven (ackGroup g 0 s).settings.lowB (before ++ after) } := by
  refine (running_high high _).trans (congrArg _ ?_)
  have act : buttonAct s [0x01, target] = .ack g := by unfold buttonAct; dsimp only; rw [if_pos rfl, named]
  unfold buttonAck
  rw [nextButton_split buffered owned others, payload, act]
  exact takeButton_act settled buffered owned others (ackGroup_touches g 0 s)

theorem exec_buttonReset {g : Fin 32} {target : Byte} (high : s.resetLow = false) (named : s.definedGroup target = some g)
    (payload : h.frame.payload = [0x02, target]) : exec .buttonReset s = .next { resetGroup g s with
      portB := (resetGroup g s).portB.withGiven (resetGroup g s).settings.lowB (before ++ after) } := by
  refine (running_high high _).trans (congrArg _ ?_)
  have act : buttonAct s [0x02, target] = .reset g := by
    unfold buttonAct; dsimp only; rw [if_neg (by decide : ¬ (0x02 : Byte) = 0x01), if_pos rfl, named]
  unfold buttonReset
  rw [nextButton_split buffered owned others, payload, act]
  exact takeButton_act settled buffered owned others (resetGroup_touches g s)

end

/-- Settles O26: the ACK is a sweep of the group's windows. -/
theorem ackOfAGroup : Obligations.AckOfAGroup := by
  unfold Obligations.AckOfAGroup
  intro g target s high canonical named inG darkens exits acked
  have own : inG = inGroup s g := funext fun _ => rfl
  have listed (w : Fin 192) (hw : w ∈ windowsOf s g) : inGroup s g w = true := (mem_windowsOf_iff s g w).mp hw
  have tables : Table.wf {} s.ann.windows = true := (canonical_panelTables canonical).1
  have once : (windowsOf s g).Nodup := ((Table.keys_nodup tables).filter _).filter _
  have quick : quickAmong s (windowsOf s g) = exits := by
    unfold quickAmong
    rw [windowsOf_countP tables, List.countP_eq_length_filter]
    show _ = ((List.finRange 192).filter fun w => inG w && decide ((s.window w).state = .fast)).length
    rw [own]
    simp only [Bool.and_comm]
  have sweep := ackWindow_sweeps g
  have cores := sweep.groupCores s
  have horns := each_ackWindow_horn (s := s) (g := g) listed once
  rw [quick] at horns
  have done (service : s.mode ≠ .configuring) (origin : Nat) : acked origin (ackGroup g origin s) := by
    rw [ackGroup_eq service origin]
    refine ⟨rfl, fun w => ?_, fun h idle => ?_, fun h entered some => ?_, fun k away => sweep.keepsOthers listed away,
      fun w first dark => ?_, fun none => ?_⟩
    · have core := cores w
      rw [own]
      cases inside : inGroup s g w with
      | false =>
        rw [inside, if_neg nofun] at core
        obtain ⟨defn, count, state⟩ := Window.fields_of_core core
        exact ⟨defn, count, nofun, nofun, fun _ => state⟩
      | true =>
        rw [inside, if_pos rfl] at core
        obtain ⟨d, defined, -⟩ := (inGroup_iff s g w).mp inside
        by_cases fast : (s.window w).state = .fast
        · rw [Window.acked_of_fast (v := (s.window w).core) defined fast] at core
          obtain ⟨defn, count, state⟩ := Window.fields_of_core
            (u := { s.window w with state := if 0 < (s.window w).count then .steady else if d.sequence = .manualReset then .slow else .dark })
            core
          refine ⟨defn, count, fun _ _ more => state.trans (if_pos more), fun d' _ _ zero defined' => ?_, fun rest => ?_⟩
          · obtain rfl : d = d' := Option.some.inj (defined.symm.trans defined')
            exact state.trans (if_neg (by rw [zero]; exact Nat.lt_irrefl 0))
          · exact absurd fast (rest.resolve_left nofun)
        · rw [Window.acked_of_slower (v := (s.window w).core) fast] at core
          obtain ⟨defn, count, state⟩ := Window.fields_of_core core
          exact ⟨defn, count, fun _ hot => absurd hot fast, fun _ _ hot => absurd hot fast, fun _ => state⟩
    · refine (horns h).trans ?_
      rcases idle with unnamed | zero
      · exact if_neg unnamed
      · rw [zero]; exact ite_self _
    · refine (horns h).trans ?_
      rw [if_pos entered, Horn.exited, if_neg (Nat.pos_iff_ne_zero.mp some)]
    · obtain ⟨inside, fast, zero, type⟩ := dark
      rw [own] at inside
      exact sweep.rearmed listed ((mem_windowsOf_iff s g w).mpr inside) ((Window.ackDarkens_iff _).mpr ⟨fast, zero, type⟩) first
    · refine sweep.keeps listed fun w hw dark first => none w first ?_
      refine ⟨?_, (Window.ackDarkens_iff _).mp dark⟩
      rw [own]; exact listed w hw
  refine ⟨fun src ready service => ⟨ackGroup g 1 s, ?_, done service 1⟩, fun src ready configuring => ?_,
    fun before after h settled buffered owned others payload => ⟨fun service => ⟨ackGroup g 0 s, ?_, done service 0⟩, fun configuring => ?_⟩⟩
  · rw [exec_of_ready (c := .groupAck src target) rfl ready]
    dsimp only
    rw [groupAck_named named]
    rfl
  · rw [exec_of_ready (c := .groupAck src target) rfl ready]
    dsimp only
    rw [groupAck_named named, ackGroup_configuring configuring]
    rfl
  · exact exec_buttonAck settled buffered owned others high named payload
  · rw [exec_buttonAck settled buffered owned others high named payload, ackGroup_configuring configuring]

/-- Settles O27: the RESET is a sweep of the group's windows that leaves the horns. -/
theorem resetOfAGroup : Obligations.ResetOfAGroup := by
  unfold Obligations.ResetOfAGroup
  intro g target s high named slow reset
  have own (w : Fin 192) : slow w = true ↔ inGroup s g w = true ∧ (s.window w).state = .slow := by
    show (match (s.window w).defn with
      | some d => decide (d.group = g ∧ (s.window w).state = .slow)
      | none => false) = true ↔ _
    rw [inGroup_iff]
    cases (s.window w).defn with
    | none => simp
    | some d => simp
  have listed (w : Fin 192) (hw : w ∈ windowsOf s g) : inGroup s g w = true := (mem_windowsOf_iff s g w).mp hw
  have sweep := resetWindow_sweeps g
  have cores := sweep.groupCores s
  have done (service : s.mode ≠ .configuring) : reset (resetGroup g s) := by
    rw [resetGroup_eq service]
    refine ⟨rfl, each_resetWindow_horns _ s, fun w => ?_, fun k away => sweep.keepsOthers listed away, fun w first dark => ?_, fun none => ?_⟩
    · have core := cores w
      have value : ((State.each (windowsOf s g) resetWindow s).window w).core =
          ({ s.window w with state := if slow w then .dark else (s.window w).state } : Window).core := by
        rw [core]
        unfold Window.reset
        by_cases dark : slow w = true
        · obtain ⟨inside, at_slow⟩ := (own w).mp dark
          rw [if_pos inside, if_pos (show (s.window w).core.state = .slow from at_slow), dark]
          rfl
        · rw [Bool.eq_false_iff.mpr dark]
          by_cases inside : inGroup s g w = true
          · rw [if_pos inside, if_neg (show ¬ (s.window w).core.state = .slow from fun at_slow => dark ((own w).mpr ⟨inside, at_slow⟩))]
            rfl
          · rw [if_neg inside]; rfl
      exact Window.fields_of_core value
    · obtain ⟨inside, at_slow⟩ := (own w).mp dark
      have reached := (mem_windowsOf_iff s g w).mpr inside
      exact ⟨each_resetWindow_unmarks listed reached at_slow first, sweep.rearmed listed reached (decide_eq_true at_slow) first⟩
    · refine sweep.keeps listed fun w hw dark first => ?_
      have at_slow : (s.window w).state = .slow := of_decide_eq_true dark
      have off := none w first
      rw [(own w).mpr ⟨listed w hw, at_slow⟩] at off
      cases off
  refine ⟨fun src ready service => ⟨resetGroup g s, ?_, done service⟩, fun src ready configuring => ?_,
    fun before after h settled buffered owned others payload => ⟨fun service => ⟨resetGroup g s, ?_, done service⟩, fun configuring => ?_⟩⟩
  · rw [exec_of_ready (c := .groupReset src target) rfl ready]
    dsimp only
    rw [groupReset_named named]
    rfl
  · rw [exec_of_ready (c := .groupReset src target) rfl ready]
    dsimp only
    rw [groupReset_named named, resetGroup_configuring configuring]
    rfl
  · exact exec_buttonReset settled buffered owned others high named payload
  · rw [exec_buttonReset settled buffered owned others high named payload, resetGroup_configuring configuring]

end Sys2Proof.Machine

/-! Horn silence and lamp test, by command and by button (R74, R76, R93, R94, R96). -/

namespace Sys2Proof.Machine

variable {s t : State}

/-! ### Every pattern derived anew -/

/-- The driver has a window whose derived pattern is not the displayed one. -/
def driverChanges (s : State) (d : Fin 6) : Bool :=
  (List.finRange 192).any (fun w => decide (driverOf w = d) && decide (derivedPattern s w ≠ (s.window w).shown))

/-- All that a derivation of every pattern changes: the displayed patterns and the drivers' waiting list (R69, R72). -/
theorem redisplayAll_eq (s : State) : redisplayAll s = { s with ann := { s.ann with
    windows := Table.ofFn {} (fun w => { s.window w with shown := derivedPattern s w })
    waiting := s.ann.waiting ++ (List.finRange 6).filter
      (fun d => (s.driver d).isSome && !s.ann.waiting.contains d && driverChanges s d) } } := by
  unfold redisplayAll
  dsimp only
  rw [each_joinDriver ((List.nodup_finRange 6).filter _)]
  unfold joinedTo
  rw [List.filter_filter]
  rfl

/-! ### Horn silence -/

theorem silenceHorn_sounding {h : Fin 4} (sounding : (s.horn h).state = .sounding) : silenceHorn h s =
    offerNow .hornSilence .alarm h.val 0 0 (phaseOnWait (s.setHorn h { s.horn h with state := .silenced })) := by
  unfold silenceHorn
  rw [if_pos sounding, putHorn, if_neg (by rw [sounding]; nofun)]

theorem silenceHorn_other {h : Fin 4} (other : (s.horn h).state ≠ .sounding) : silenceHorn h s = s := if_neg other

theorem hornNumber_of {h : Fin 4} {target : Byte} (named : target.toNat = h.val) : hornNumber target = some h := by
  unfold hornNumber
  rw [dif_pos (by omega)]
  exact congrArg some (Fin.ext named)

/-- Settles O28. -/
theorem silenceOfAHorn : Obligations.SilenceOfAHorn := by
  unfold Obligations.SilenceOfAHorn
  refine ⟨fun h target s high named => ?_, fun h => ⟨fun sounding sound => ?_, fun sounding sound => ?_, fun other => ?_, fun s k => ?_⟩⟩
  · intro silenced
    have act : silenceHorn h s = silenced := by
      show _ = if (s.horn h).state = .sounding then _ else s
      by_cases sounding : (s.horn h).state = .sounding
      · rw [if_pos sounding, silenceHorn_sounding sounding]; rfl
      · rw [if_neg sounding, silenceHorn_other sounding]
    refine ⟨fun src ready => ?_, fun before after k settled buffered owned others payload => ?_⟩
    · rw [exec_of_ready (c := .hornSilence src target) rfl ready]
      dsimp only
      unfold hornSilence
      rw [hornNumber_of named, ← act]
      rfl
    · refine (running_high high _).trans (congrArg _ ?_)
      have button : buttonAct s [0x03, target] = .silence h := by
        unfold buttonAct
        dsimp only
        rw [if_neg (by decide : ¬ (0x03 : Byte) = 0x01), if_neg (by decide : ¬ (0x03 : Byte) = 0x02), if_pos rfl, hornNumber_of named]
      unfold buttonSilence
      rw [nextButton_split buffered owned others, payload, button, ← act]
      exact takeButton_act settled buffered owned others (silenceHorn_touches h s)
  · rw [Horn.output_eq, if_pos sounding, if_pos sound]
  · rw [Horn.output_eq, if_pos sounding, if_neg (by rw [sound]; nofun)]
  · rw [Horn.output_eq, if_neg other]
  · rw [phasePayload_eq]
    fin_cases k
    · rfl
    · rfl
    · rfl
    · rfl

/-! ### Lamp test -/

theorem lampOn_unlit (unlit : s.ann.lampTest = false) : lampOn s =
    phaseOnWait (redisplayAll { s with ann := { s.ann with lampTest := true, lampTimer := some 60000 } }) := by
  unfold lampOn
  rw [unlit]
  rfl

theorem lampOn_lit (lit : s.ann.lampTest = true) : lampOn s = s := if_pos lit

theorem lampOff_lit (lit : s.ann.lampTest = true) : lampOff s =
    phaseOnWait (redisplayAll { s with ann := { s.ann with lampTest := false, lampTimer := none } }) := if_pos lit

theorem lampOff_unlit (unlit : s.ann.lampTest = false) : lampOff s = s := if_neg (by rw [unlit]; nofun)

theorem derivedPattern_lit (lit : s.ann.lampTest = true) (w : Fin 192) : derivedPattern s w = .on := if_pos lit

section
variable {before after : List Held} {h : Held} (settled : s.flowSettled) (buffered : s.portB.buf = before ++ h :: after)
  (owned : Held.owned 0x53 h = true) (others : ∀ k ∈ before, Held.owned 0x53 k = false) {target : Byte} (high : s.resetLow = false)
include settled buffered owned others high

theorem exec_buttonTestOn (payload : h.frame.payload = [0x04, target]) : exec .buttonTestOn s = .next { lampOn s with
    portB := (lampOn s).portB.withGiven (lampOn s).settings.lowB (before ++ after) } := by
  refine (running_high high _).trans (congrArg _ ?_)
  have act : buttonAct s [0x04, target] = .testOn := rfl
  unfold buttonTestOn
  rw [nextButton_split buffered owned others, payload, act]
  exact takeButton_act settled buffered owned others (lampOn_touches s)

theorem exec_buttonTestOff (payload : h.frame.payload = [0x05, target]) : exec .buttonTestOff s = .next { lampOff s with
    portB := (lampOff s).portB.withGiven (lampOff s).settings.lowB (before ++ after) } := by
  refine (running_high high _).trans (congrArg _ ?_)
  have act : buttonAct s [0x05, target] = .testOff := rfl
  unfold buttonTestOff
  rw [nextButton_split buffered owned others, payload, act]
  exact takeButton_act settled buffered owned others (lampOff_touches s)

end

/-- Settles O29: each switch of the lamp test is one derivation of every pattern. -/
theorem lampTestShowsEveryWindow : Obligations.LampTestShowsEveryWindow := by
  unfold Obligations.LampTestShowsEveryWindow
  intro s high shows dark given
  refine ⟨fun unlit => ⟨lampOn s, ⟨?_, ?_, ?_⟩, fun src ready => ?_, fun before after h target settled buffered owned others payload => ?_⟩,
    fun lit => ⟨lampOff s, ⟨?_, ?_, ?_⟩, fun src ready => ?_, fun due => ?_, fun before after h target settled buffered owned others payload => ?_⟩,
    fun src ready lit => ?_, fun src ready unlit => ?_⟩
  · rw [lampOn_unlit unlit, redisplayAll_eq]; rfl
  · intro w
    rw [lampOn_unlit unlit, phaseOnWait_window, redisplayAll_window, derivedPattern_lit rfl]
    rfl
  · rw [lampOn_unlit unlit, redisplayAll_eq]
    unfold driverChanges
    simp only [derivedPattern_lit]
    rfl
  · rw [exec_of_ready (c := .lampTestOn src) rfl ready]; rfl
  · exact exec_buttonTestOn settled buffered owned others high payload
  · rw [lampOff_lit lit, redisplayAll_eq]; rfl
  · intro w
    rw [lampOff_lit lit, phaseOnWait_window, redisplayAll_window]
    rfl
  · rw [lampOff_lit lit, redisplayAll_eq]; rfl
  · rw [exec_of_ready (c := .lampTestOff src) rfl ready]; rfl
  · refine (running_high high _).trans (congrArg _ ?_)
    unfold lampLimitExpiry
    rw [due]
    rfl
  · exact exec_buttonTestOff settled buffered owned others high payload
  · rw [exec_of_ready (c := .lampTestOn src) rfl ready]
    dsimp only
    rw [lampTestOn, lampOn_lit lit]
    rfl
  · rw [exec_of_ready (c := .lampTestOff src) rfl ready]
    dsimp only
    rw [lampTestOff, lampOff_unlit unlit]
    rfl

end Sys2Proof.Machine

/-! Accepted writes and clears of table entries (R173, R174): the lengths of entry bytes and the answers of an accepted entry. -/

namespace Sys2Proof.Machine

variable {s t : State}

theorem finOf_val {n : Nat} (i : Fin n) : finOf n i.val = some i := dif_pos i.isLt

theorem finOf_of {n k : Nat} {i : Fin n} (named : k = i.val) : finOf n k = some i := named ▸ finOf_val i

theorem linkAddress_of {b : Byte} (low : 1 ≤ b.toNat) (high : b.toNat ≤ 239) : linkAddress b = some b.toNat := if_pos ⟨low, high⟩

theorem optionalAddress_of {b : Byte} (low : 1 ≤ b.toNat) (high : b.toNat ≤ 239) : optionalAddress b = some (some b.toNat) := by
  unfold optionalAddress
  rw [if_neg (fun absent => by rw [absent] at high; exact absurd high (by decide)), linkAddress_of low high]

/-! ### Lengths -/

theorem readModule_length {e : List Byte} (read : readModule e ≠ none) : e.length = 6 := by
  unfold readModule at read
  split at read
  · rfl
  · exact absurd rfl read

theorem readPoint_length {e : List Byte} (read : readPoint e ≠ none) : e.length = 7 := by
  unfold readPoint at read
  split at read
  · rfl
  · exact absurd rfl read

theorem readWindow_length {e : List Byte} (read : readWindow e ≠ none) : e.length = 4 := by
  unfold readWindow at read
  split at read
  · rfl
  · exact absurd rfl read

theorem readGroup_length {e : List Byte} (read : readGroup e ≠ none) : e.length = 4 := by
  unfold readGroup at read
  split at read
  · rfl
  · exact absurd rfl read

theorem readOutput_length {e : List Byte} (read : readOutput e ≠ none) : e.length = 2 := by
  unfold readOutput at read
  split at read
  · rfl
  · exact absurd rfl read

theorem readChannel_length {e : List Byte} (read : readChannel e ≠ none) : e.length = 5 := by
  unfold readChannel at read
  split at read
  · rfl
  · exact absurd rfl read

theorem readSettings_length {e : List Byte} (read : readSettings e ≠ none) : e.length = 12 := by
  unfold readSettings at read
  split at read
  · rfl
  · exact absurd rfl read

theorem readModule_no {rest : List Byte} (length : rest.length = 5) : readModule (0x00 :: rest) = some none := by
  match rest, length with
  | [_, _, _, _, _], _ => rfl

theorem readWindow_no {rest : List Byte} (length : rest.length = 3) : readWindow (0x00 :: rest) = some none := by
  obtain ⟨a, b, c, rfl⟩ : ∃ a b c, rest = [a, b, c] := List.length_eq_three.mp length
  rfl

theorem readGroup_no {rest : List Byte} (length : rest.length = 3) : readGroup (0x00 :: rest) = some none := by
  obtain ⟨a, b, c, rfl⟩ : ∃ a b c, rest = [a, b, c] := List.length_eq_three.mp length
  rfl

theorem readChannel_no {rest : List Byte} (length : rest.length = 4) : readChannel (0x00 :: rest) = some none := by
  obtain ⟨a, b, c, d, rfl⟩ : ∃ a b c d, rest = [a, b, c, d] := List.length_eq_four.mp length
  rfl

/-! ### Answers -/

theorem windowInUse_allows {w : Fin 192} (free : s.mode = .configuring ∨ windowInUse s w = false) : clearWindowAt w s = accept (applyWindowClear w s) := by
  refine if_neg fun used => ?_
  rcases free with configuring | unused
  · exact used.1 configuring
  · rw [unused] at used; exact nomatch used.2

theorem groupInUse_allows {g : Fin 32} (free : s.mode = .configuring ∨ groupInUse s g = false) : clearGroupAt g s = accept (s.setGroup g {}) := by
  refine if_neg fun used => ?_
  rcases free with configuring | unused
  · exact used.1 configuring
  · rw [unused] at used; exact nomatch used.2

section
variable {k : Nat}

theorem writeWindow_define {w : Fin 192} {e : List Byte} {d : WindowDef} (named : k = w.val) (read : readWindow e = some (some d))
    (known : s.mode ≠ .configuring → (s.group d.group).defn ≠ none) : writeWindow k e s = accept (applyWindowWrite w d s) := by
  unfold writeWindow
  rw [if_neg (not_not.mpr (readWindow_length (by rw [read]; nofun))), finOf_of named, read]
  exact if_neg fun unknown => known unknown.1 unknown.2

theorem writeWindow_undefine {w : Fin 192} {e : List Byte} (named : k = w.val) (read : readWindow e = some none) :
    writeWindow k e s = clearWindowAt w s := by
  unfold writeWindow
  rw [if_neg (not_not.mpr (readWindow_length (by rw [read]; nofun))), finOf_of named, read]

theorem clearWindow_named {w : Fin 192} (named : k = w.val) : clearWindow k s = clearWindowAt w s := by
  unfold clearWindow
  rw [finOf_of named]

theorem writeGroup_define {g : Fin 32} {e : List Byte} {d : GroupDef} (named : k = g.val) (read : readGroup e = some (some d)) :
    writeGroup k e s = accept (applyGroupWrite g d s) := by
  unfold writeGroup
  rw [if_neg (not_not.mpr (readGroup_length (by rw [read]; nofun))), finOf_of named, read]

theorem writeGroup_undefine {g : Fin 32} {e : List Byte} (named : k = g.val) (read : readGroup e = some none) :
    writeGroup k e s = clearGroupAt g s := by
  unfold writeGroup
  rw [if_neg (not_not.mpr (readGroup_length (by rw [read]; nofun))), finOf_of named, read]

theorem clearGroup_named {g : Fin 32} (named : k = g.val) : clearGroup k s = clearGroupAt g s := by
  unfold clearGroup
  rw [finOf_of named]

theorem writeHorn_named {h : Fin 4} {b : Byte} {x : Sound} (named : k = h.val) (read : readHorn [b] = some x) :
    writeHorn k [b] s = accept (applyHorn h x s) := by
  unfold writeHorn
  rw [if_neg (not_not.mpr (show [b].length = 1 from rfl)), finOf_of named, read]

theorem writePattern_named {i : Fin 4} {p o : Byte} {x : PatternEntry} (named : k = i.val) (read : readPattern [p, o] = some x) :
    writePattern k [p, o] s = accept (applyPattern i x s) := by
  unfold writePattern
  rw [if_neg (not_not.mpr (show [p, o].length = 2 from rfl)), finOf_of named, read]

theorem writeDriver_named {d : Fin 6} {b : Byte} {a : Nat} (named : k = d.val) (read : optionalAddress b = some (some a))
    (free : ∀ j, j ≠ d → s.driver j ≠ some a) : writeDriver k [b] s = accept (applyDriver d (some a) s) := by
  unfold writeDriver
  rw [if_neg (not_not.mpr (show [b].length = 1 from rfl)), finOf_of named, show readDriver [b] = some (some a) from read]
  refine if_neg fun taken => ?_
  obtain ⟨j, -, both⟩ := List.any_eq_true.mp taken
  rw [Bool.and_eq_true, decide_eq_true_iff, decide_eq_true_iff] at both
  exact free j both.1 both.2

end

/-- Settles O33. -/
theorem driverHornAndPatternEntries : Obligations.DriverHornAndPatternEntries := by
  unfold Obligations.DriverHornAndPatternEntries
  intro src index s ready
  refine ⟨fun d named => ⟨fun a low high free => ?_, ?_⟩, fun h named => ?_, fun i named => ?_⟩
  · refine ⟨applyDriver d (some a.toNat) s, ?_, ?_⟩
    · rw [exec_of_ready (c := .writeDriver src index [a]) rfl ready]
      dsimp only
      rw [writeDriver_named named (optionalAddress_of low high) free, entryReply_accept]
    · have present : ((s.setDriver d (some a.toNat)).driver d).isSome = true := by rw [State.setDriver_driver_self]; rfl
      unfold applyDriver joinDriver
      dsimp only
      by_cases waits : d ∈ s.ann.waiting
      · rw [if_pos waits]; exact if_neg fun joins => joins.2 waits
      · rw [if_neg waits]; exact if_pos ⟨present, waits⟩
  · refine ⟨applyDriver d none s, ?_, ?_, rfl⟩
    · rw [exec_of_ready (c := .writeDriver src index [0xFF]) rfl ready]
      dsimp only
      unfold writeDriver
      rw [if_neg (not_not.mpr (show [(0xFF : Byte)].length = 1 from rfl)), finOf_of named, show readDriver [0xFF] = some none from rfl]
      dsimp only
      rw [entryReply_accept]
    · rw [exec_of_ready (c := .clearDriver src index) rfl ready]
      dsimp only
      unfold clearDriver
      rw [finOf_of named]
      dsimp only
      rw [entryReply_accept]
  · intro put
    have applied (x : Sound) : applyHorn h x s = put x := by
      unfold applyHorn
      dsimp only
      show _ = { s.setHorn h { s.horn h with sound := x } with
        ann := { (s.setHorn h { s.horn h with sound := x }).ann with
          phaseWaiting := s.ann.phaseWaiting || decide ((s.horn h).state = HornState.sounding ∧ (s.horn h).sound ≠ x) } }
      by_cases heard : (s.horn h).state = .sounding ∧ (s.horn h).sound ≠ x
      · rw [if_pos heard, decide_eq_true heard, Bool.or_true]; rfl
      · rw [if_neg heard, decide_eq_false heard, Bool.or_false]; rfl
    refine ⟨?_, ?_, ?_⟩
    · rw [exec_of_ready (c := .writeHorn src index [0x00]) rfl ready]
      dsimp only
      rw [writeHorn_named (x := .continuous) named rfl, entryReply_accept, applied]
    · rw [exec_of_ready (c := .writeHorn src index [0x01]) rfl ready]
      dsimp only
      rw [writeHorn_named (x := .pulsed) named rfl, entryReply_accept, applied]
    · rw [exec_of_ready (c := .clearHorn src index) rfl ready]
      dsimp only
      unfold clearHorn
      rw [finOf_of named]
      dsimp only
      rw [entryReply_accept, applied]
  · intro put
    refine ⟨fun period onTime low high on => ?_, ?_⟩
    · have read : readPattern [period, onTime] = some { period := period.toNat, onTime := min onTime.toNat (period.toNat - 1) } := by
        have small : onTime.toNat ≤ 255 := Nat.le_of_lt_succ onTime.isLt
        unfold readPattern ranged
        dsimp only
        rw [if_pos ⟨low, high⟩, if_pos ⟨on, small⟩]
        rfl
      rw [exec_of_ready (c := .writePattern src index [period, onTime]) rfl ready]
      dsimp only
      rw [writePattern_named named read, entryReply_accept]
      rfl
    · rw [exec_of_ready (c := .clearPattern src index) rfl ready]
      dsimp only
      unfold clearPattern
      rw [finOf_of named]
      dsimp only
      rw [entryReply_accept]
      rfl

end Sys2Proof.Machine

/-! Written and cleared groups and windows (R60, R83, R84). -/

namespace Sys2Proof.Machine

variable {s t : State}

/-! ### Groups -/

theorem redisplayAt_group (w : Option (Fin 192)) (s : State) (g : Fin 32) : (redisplayAt w s).group g = s.group g :=
  (redisplayAt_onlyShown w s).group g

/-- The group that is written, and no other, has its new definition. -/
theorem regrouped_group_other {g k : Fin 32} (d : GroupDef) (other : k ≠ g) : (regrouped g d s).group k = s.group k := by
  unfold regrouped disarmed
  split
  · rw [redisplayAt_group, rearm_group, if_neg other, State.setGroup_group, if_neg other]
  · rw [State.setGroup_group, if_neg other]

theorem regrouped_group_disarmed {g : Fin 32} {d : GroupDef} (off : d.firstOut = false) (busy : (s.group g).state ≠ .armed) :
    (regrouped g d s).group g = Group.rearmed { s.group g with defn := some d } := by
  unfold regrouped disarmed
  rw [if_pos ⟨off, by rw [State.setGroup_group_self]; exact busy⟩, redisplayAt_group, rearm_group, if_pos rfl, State.setGroup_group_self]
  rfl

theorem regrouped_group_kept {g : Fin 32} {d : GroupDef} (kept : d.firstOut = true ∨ (s.group g).state = .armed) :
    (regrouped g d s).group g = { s.group g with defn := some d } := by
  unfold regrouped disarmed
  rw [if_neg, State.setGroup_group_self]
  rw [State.setGroup_group_self]
  rintro ⟨off, busy⟩
  rcases kept with on | armed
  · rw [on] at off; cases off
  · exact busy armed

theorem rewriteGroup_group (g : Fin 32) (old d : GroupDef) (s : State) (k : Fin 32) : (rewriteGroup g old d s).group k = (regrouped g d s).group k := by
  rw [rewriteGroup_eq]
  split
  · rfl
  · exact each_moveHorn_group _ _ _ _ k

theorem regrouped_quick (tables : s.panelTables) (g : Fin 32) (d : GroupDef) :
    quickAmong (regrouped g d s) (windowsOf (regrouped g d s) g) = quickAmong s (windowsOf s g) := by
  rw [quickAmong, windowsOf_countP (tables.regrouped g d).1, quickAmong, windowsOf_countP tables.1]
  have state (w : Fin 192) : ((regrouped g d s).window w).state = (s.window w).state := (regrouped_sequence g d s).state w
  simp only [state, regrouped_inGroup]

theorem moveHorn_horn_other {old new : Option (Fin 4)} {h : Fin 4} (left : old ≠ some h) (entered : new ≠ some h) (w : Fin 192) (s : State) :
    (moveHorn old new w s).horn h = s.horn h := by
  have exits (u : State) : (hornExit old u).horn h = u.horn h := by
    cases old with
    | none => rfl
    | some x => rw [hornExit_horn, if_neg fun same => left (congrArg some same.symm)]
  have enters (u : State) : (hornEnter new u).horn h = u.horn h := by
    cases new with
    | none => rfl
    | some x => rw [hornEnter_horn, if_neg fun same => entered (congrArg some same.symm)]
  unfold moveHorn
  split
  · rw [enters, exits]
  · rfl

theorem rewriteGroup_fastCount (tables : s.panelTables) {g : Fin 32} {old d : GroupDef} (differ : old.horn ≠ d.horn) (h : Fin 4) :
    ((rewriteGroup g old d s).horn h).fastCount = (s.horn h).fastCount - (decide (old.horn = some h)).toNat * quickAmong s (windowsOf s g) +
      (decide (d.horn = some h)).toNat * quickAmong s (windowsOf s g) := by
  rw [rewriteGroup_eq, if_neg differ, each_moveHorn_fastCount differ, regrouped_quick tables, (regrouped_sequence g d s).horn]
  rfl

theorem rewriteGroup_horn_other {g : Fin 32} {old d : GroupDef} {h : Fin 4}
    (apart : old.horn = d.horn ∨ (old.horn ≠ some h ∧ d.horn ≠ some h)) : (rewriteGroup g old d s).horn h = s.horn h := by
  have before : (regrouped g d s).horn h = s.horn h := (regrouped_sequence g d s).horn h
  rw [rewriteGroup_eq]
  split
  · exact before
  · rename_i differ
    obtain ⟨left, entered⟩ := apart.resolve_left differ
    exact State.each_keeps (P := fun u => u.horn h = s.horn h)
      (fun w u same => (moveHorn_horn_other left entered w u).trans same) _ _ before

/-- Settles O32. -/
theorem groupEntryIsWrittenAndCleared : Obligations.GroupEntryIsWrittenAndCleared := by
  unfold Obligations.GroupEntryIsWrittenAndCleared
  intro src index g s ready canonical named v fast
  have quick : quickAmong s (windowsOf s g) = fast := List.countP_eq_length_filter
  refine ⟨fun entry d read => ?_, fun free => ⟨?_, fun rest length => ?_⟩⟩
  · have write : exec (.writeGroup src index entry) s = .next ((applyGroupWrite g d s).answered src (entryOk 0x02 .group index)) := by
      rw [exec_of_ready (c := .writeGroup src index entry) rfl ready]
      dsimp only
      rw [writeGroup_define named read, entryReply_accept]
    have applied := write
    unfold applyGroupWrite at applied
    refine ⟨fun undefined => ?_, fun old defined => ⟨fun configuring => ?_, fun service => ?_⟩⟩
    · rw [show (s.group g).defn = none from undefined] at applied
      exact applied
    · rw [show (s.group g).defn = some old from defined] at applied
      dsimp only at applied
      rw [if_pos configuring] at applied
      exact applied
    · rw [show (s.group g).defn = some old from defined] at applied
      dsimp only at applied
      rw [if_neg service] at applied
      have tables := canonical_panelTables canonical
      refine ⟨rewriteGroup g old d s, applied, rewriteGroup_panel g old d s, fun k other => ?_, fun w => rewriteGroup_cores g old d s w,
        fun off busy => ?_, fun kept => ?_, fun h differ from_h => ?_, fun h differ to_h => ?_, fun h apart => rewriteGroup_horn_other apart⟩
      · rw [rewriteGroup_group, regrouped_group_other d other]
      · rw [rewriteGroup_group, regrouped_group_disarmed off busy]; rfl
      · rw [rewriteGroup_group, regrouped_group_kept kept]
      · have apart : d.horn ≠ some h := fun to_h => differ (from_h.trans to_h.symm)
        rw [rewriteGroup_fastCount tables differ, decide_eq_true from_h, decide_eq_false apart, quick, Bool.toNat_true, Bool.toNat_false,
          Nat.one_mul, Nat.zero_mul, Nat.add_zero]
      · have apart : old.horn ≠ some h := fun from_h => differ (from_h.trans to_h.symm)
        rw [rewriteGroup_fastCount tables differ, decide_eq_true to_h, decide_eq_false apart, quick, Bool.toNat_true, Bool.toNat_false,
          Nat.one_mul, Nat.zero_mul, Nat.sub_zero]
  · rw [exec_of_ready (c := .clearGroup src index) rfl ready]
    dsimp only
    rw [clearGroup_named named, groupInUse_allows free, entryReply_accept]
  · rw [exec_of_ready (c := .writeGroup src index (0x00 :: rest)) rfl ready]
    dsimp only
    rw [writeGroup_undefine named (readGroup_no length), groupInUse_allows free, entryReply_accept]

/-! ### Windows -/

theorem putHorn_groups (x : Fin 4) (v : Horn) (s : State) : (putHorn x v s).ann.groups = s.ann.groups := by
  unfold putHorn; split <;> rfl

theorem hornExit_groups (x : Option (Fin 4)) (s : State) : (hornExit x s).ann.groups = s.ann.groups := by
  cases x with
  | none => rfl
  | some x => exact (putHorn_groups x _ s)

/-- A window written again in service, before its pattern is derived (R60). -/
def Window.rewritten (d : WindowDef) (v : Window) : Window :=
  { v with defn := some d, state := if v.state = .slow ∧ d.sequence = .autoReset then .dark else v.state }

theorem darkened_core (w j : Fin 192) (d : WindowDef) (s : State) : ((darkened w d s).window j).core = if j = w then
    { (s.window w).core with state := if (s.window w).state = .slow ∧ d.sequence = .autoReset then .dark else (s.window w).state }
    else (s.window j).core := by
  unfold darkened
  by_cases dark : (s.window w).state = .slow ∧ d.sequence = .autoReset
  · rw [if_pos dark, if_pos dark, (goDark_sequence w s).core, State.setWindow_window]
    split
    · rfl
    · rfl
  · rw [if_neg dark, if_neg dark]
    split
    · rename_i at_w; rw [at_w]; rfl
    · rfl

theorem rewriteWindow_core (w j : Fin 192) (old d : WindowDef) (s : State) : ((rewriteWindow w old d s).window j).core =
    if j = w then ((s.window w).rewritten d).core else (s.window j).core := by
  have rearms := rearmedFor_sequence w old d s
  rw [rewriteWindow_eq, (redisplayBoth_onlyShown _ w _).sequence.core, hornMoved_window, darkened_core]
  by_cases at_w : j = w
  · rw [if_pos at_w, if_pos at_w, redefined_window, if_pos rfl]
    have state : ((rearmedFor w old d s).window w).state = (s.window w).state := rearms.state w
    have count : ((rearmedFor w old d s).window w).count = (s.window w).count := rearms.count w
    unfold Window.core Window.rewritten
    dsimp only
    rw [state, count]
  · rw [if_neg at_w, if_neg at_w, redefined_window, if_neg at_w, rearms.core]

/-- The horns a window's rewrite finds before the entry into FAST moves. -/
theorem darkened_redefined_horn (w : Fin 192) (old d : WindowDef) (s : State) : (darkened w d (redefined w old d s)).ann.horns = s.ann.horns ∧
    ∀ k, ((darkened w d (redefined w old d s)).group k).defn = (s.group k).defn := by
  have rearms := rearmedFor_sequence w old d s
  have written : (redefined w old d s).ann.horns = s.ann.horns ∧ ∀ k, ((redefined w old d s).group k).defn = (s.group k).defn :=
    ⟨rearms.horns, fun k => rearms.group k⟩
  unfold darkened
  split
  · have dark := goDark_sequence w (redefined w old d s)
    exact ⟨dark.horns.trans written.1, fun k => (dark.group k).trans (written.2 k)⟩
  · exact written

theorem darkened_fast {w : Fin 192} {d : WindowDef} (s : State) : ((darkened w d s).window w).state = .fast ↔ (s.window w).state = .fast := by
  have core := darkened_core w w d s
  rw [if_pos rfl] at core
  have state : ((darkened w d s).window w).core.state = _ := congrArg Window.state core
  rw [show ((darkened w d s).window w).state = _ from state]
  dsimp only
  split
  · rename_i dark; rw [dark.1]; exact ⟨nofun, nofun⟩
  · exact Iff.rfl

theorem redefined_state (w : Fin 192) (old d : WindowDef) (s : State) : ((redefined w old d s).window w).state = (s.window w).state := by
  rw [redefined_window, if_pos rfl]
  exact (rearmedFor_sequence w old d s).state w

/-- A rewrite that moves no FAST window between groups leaves the horns. -/
theorem rewriteWindow_horns {w : Fin 192} {old d : WindowDef} (stays : (s.window w).state ≠ .fast ∨ old.group = d.group) :
    (rewriteWindow w old d s).ann.horns = s.ann.horns := by
  rw [rewriteWindow_eq, (redisplayBoth_onlyShown _ w _).horns]
  unfold hornMoved
  rw [if_neg]
  · exact (darkened_redefined_horn w old d s).1
  · rw [darkened_fast, redefined_state]
    rintro ⟨fast, differ⟩
    exact stays.elim (fun slower => slower fast) differ

theorem rewriteWindow_moves {w : Fin 192} {old d : WindowDef} {a b : Fin 4} (fast : (s.window w).state = .fast)
    (differ : old.group ≠ d.group) (left : hornOfGroup s old.group = some a) (entered : hornOfGroup s d.group = some b) (h : Fin 4) :
    (rewriteWindow w old d s).horn h = (hornEnter (some b) (hornExit (some a) s)).horn h := by
  obtain ⟨horns, defns⟩ := darkened_redefined_horn w old d s
  have horn (k : Fin 4) : (darkened w d (redefined w old d s)).horn k = s.horn k := by rw [State.horn, horns]; rfl
  rw [rewriteWindow_eq, (redisplayBoth_onlyShown _ w _).sequence.horn]
  unfold hornMoved
  rw [if_pos ⟨(darkened_fast _).mpr ((redefined_state w old d s).trans fast), differ⟩, hornOfGroup_congr (defns d.group),
    hornOfGroup_congr (defns old.group), left, entered, hornEnter_horn, hornEnter_horn, hornExit_horn, hornExit_horn, hornExit_horn,
    hornExit_horn, horn, horn, horn]

theorem hornMoved_group (w : Fin 192) (old d : WindowDef) (s : State) (g : Fin 32) : (hornMoved w old d s).group g = s.group g := by
  unfold hornMoved
  split
  · rw [hornEnter_group, hornExit_group]
  · rfl

/-- The group whose first-out mark a rewritten window gives up rearms (R60). -/
theorem rewriteWindow_rearms {w : Fin 192} {old d : WindowDef} (marked : (s.window w).mark = true)
    (leaves : old.group ≠ d.group ∨ d.eligible = false) : (rewriteWindow w old d s).group old.group = (s.group old.group).rearmed := by
  have rearmed : (rearmedFor w old d s).group old.group = (s.group old.group).rearmed := by
    unfold rearmedFor
    rw [if_pos ⟨marked, leaves⟩, rearm_group, if_pos rfl]
    rfl
  have written : (redefined w old d s).group old.group = (s.group old.group).rearmed := rearmed
  rw [rewriteWindow_eq, (redisplayBoth_onlyShown _ w _).group, hornMoved_group]
  unfold darkened
  split
  · unfold goDark
    have own : inGroup ((redefined w old d s).setWindow w { (redefined w old d s).window w with state := .dark }) d.group w = true := by
      refine (inGroup_iff _ _ _).mpr ⟨d, ?_, rfl⟩
      rw [State.setWindow_window_self, redefined_window, if_pos rfl]
    by_cases same : d.group = old.group
    · rw [reachedDark_stays own]
      · exact written
      · have none : ((redefined w old d s).group old.group).foWindow = none := by rw [written]; rfl
        rw [same]
        exact fun first => nomatch none.symm.trans first
    · rw [reachedDark_group_other own (fun eq => same eq.symm)]
      exact written
  · exact written

/-- Settles O31. -/
theorem windowEntryIsWrittenAndCleared : Obligations.WindowEntryIsWrittenAndCleared := by
  unfold Obligations.WindowEntryIsWrittenAndCleared
  intro src index w s ready named v frame rearmed
  have framed {t : State} (panel : s.onlyPanel t) (others : ∀ j, j ≠ w → (t.window j).core = (s.window j).core) : frame t := by
    refine ⟨panel, fun j away => ?_⟩
    obtain ⟨defn, count, state⟩ := Window.fields_of_core (others j away)
    exact ⟨defn, state, count⟩
  refine ⟨fun entry d read => ⟨fun configuring => ?_, fun service known => ?_⟩, ?_⟩
  · rw [exec_of_ready (c := .writeWindow src index entry) rfl ready]
    dsimp only
    rw [writeWindow_define named read (fun service => absurd configuring service), entryReply_accept]
    unfold applyWindowWrite
    rw [if_pos configuring]
  · refine ⟨applyWindowWrite w d s, ?_, ?_⟩
    · rw [exec_of_ready (c := .writeWindow src index entry) rfl ready]
      dsimp only
      rw [writeWindow_define named read (fun _ => known), entryReply_accept]
    have panel := applyWindowWrite_panel w d s
    unfold applyWindowWrite at panel ⊢
    dsimp only at panel ⊢
    rw [if_neg service] at panel ⊢
    cases defined : (s.window w).defn with
    | none =>
      rw [defined] at panel
      dsimp only at panel ⊢
      have here := redisplay_window w w (s.setWindow w { defn := some d, shown := (s.window w).shown })
      rw [if_pos rfl, State.setWindow_window_self] at here
      refine ⟨framed panel fun j away => ?_, fun _ => ?_, fun old hold => ?_⟩
      · rw [redisplay_window, if_neg away, State.setWindow_window_ne _ _ away]
      · rw [redisplay_groups, redisplay_horns, here]
        exact ⟨rfl, rfl, rfl, rfl, rfl, rfl⟩
      · cases hold
    | some old =>
      rw [defined] at panel
      dsimp only at panel ⊢
      have cores (j : Fin 192) := rewriteWindow_core w j old d s
      refine ⟨framed panel fun j away => by rw [cores, if_neg away], fun undefined => ?_, fun old' hold => ?_⟩
      · cases undefined
      · obtain rfl : old = old' := Option.some.inj hold
        have core := cores w
        rw [if_pos rfl] at core
        obtain ⟨defn, count, state⟩ := Window.fields_of_core core
        refine ⟨defn, count, state, fun marked leaves => rewriteWindow_rearms marked leaves, fun stays => rewriteWindow_horns stays,
          fun a b fast differ left entered apart => ⟨?_, ?_, ?_⟩⟩
        · rw [rewriteWindow_moves fast differ left entered, hornEnter_horn, if_neg apart, hornExit_horn, if_pos rfl]
        · rw [rewriteWindow_moves fast differ left entered, hornEnter_horn, if_pos rfl, hornExit_horn, if_neg (Ne.symm apart)]
        · rw [rewriteWindow_moves fast differ left entered, hornEnter_horn, if_pos rfl]
  · intro clears
    have cleared (free : s.mode = .configuring ∨ windowInUse s w = false) : clears (applyWindowClear w s) := by
      refine ⟨?_, fun rest length => ?_⟩
      · rw [exec_of_ready (c := .clearWindow src index) rfl ready]
        dsimp only
        rw [clearWindow_named named, windowInUse_allows free, entryReply_accept]
      · rw [exec_of_ready (c := .writeWindow src index (0x00 :: rest)) rfl ready]
        dsimp only
        rw [writeWindow_undefine named (readWindow_no length), windowInUse_allows free, entryReply_accept]
    refine ⟨fun undefined free => ?_, fun old defined => ⟨fun configuring => ?_, fun service unused => ⟨applyWindowClear w s, cleared (.inr unused), ?_⟩⟩⟩
    · have done := cleared free
      rw [applyWindowClear_undefined undefined] at done
      exact done
    · have done := cleared (.inl configuring)
      rw [applyWindowClear_configuring configuring (by rw [show (s.window w).defn = some old from defined]; nofun)] at done
      exact done
    · have panel := applyWindowClear_panel w s
      rw [applyWindowClear_service service defined] at panel ⊢
      have kept := unmarkedFor_sequence w old s
      have shown := redisplayBoth_onlyShown ((s.group old.group).foWindow.getD w) w
        ((hornLeft old (s.window w).state (unmarkedFor w old s)).setWindow w
          ((hornLeft old (s.window w).state (unmarkedFor w old s)).window w).undefine)
      have here : ((hornLeft old (s.window w).state (unmarkedFor w old s)).setWindow w
          ((hornLeft old (s.window w).state (unmarkedFor w old s)).window w).undefine).window w = ((unmarkedFor w old s).window w).undefine := by
        rw [State.setWindow_window_self, hornLeft_window]
      have group (g : Fin 32) : (hornLeft old (s.window w).state (unmarkedFor w old s)).group g = (unmarkedFor w old s).group g := by
        unfold hornLeft
        split
        · rw [hornExit_group]
        · rfl
      refine ⟨framed panel fun j away => ?_, ?_, ?_, ?_, ?_, fun marked => ?_, fun unmarked => ?_, fun slower => ?_, fun a fast left => ?_⟩
      · rw [shown.sequence.core, State.setWindow_window_ne _ _ away, hornLeft_window, kept.core]
      · rw [shown.sequence.defn, here]; rfl
      · rw [shown.sequence.state, here]; rfl
      · rw [shown.sequence.count, here]; exact kept.count w
      · rw [shown.mark, here]; rfl
      · refine (shown.group _).trans ((group old.group).trans ?_)
        unfold unmarkedFor
        rw [if_pos marked, rearm_group, if_pos rfl]
      · rw [shown.groups]
        have same : unmarkedFor w old s = s := if_neg (by rw [show (s.window w).mark = false from unmarked]; nofun)
        rw [same]
        unfold hornLeft
        split
        · exact hornExit_groups _ s
        · rfl
      · rw [shown.horns]
        unfold hornLeft
        rw [if_neg slower]
        exact kept.horns
      · have horn : hornOfGroup (unmarkedFor w old s) old.group = some a := (hornOfGroup_congr (kept.group old.group)).trans left
        rw [shown.sequence.horn, State.setWindow_horn]
        unfold hornLeft
        rw [if_pos fast, horn, hornExit_horn, if_pos rfl]
        exact congrArg (fun v : Horn => v.fastCount - 1) (kept.horn a)

end Sys2Proof.Machine

/-! What the listed entries of a table are, and what an iteration over distinct entries makes of each. -/

namespace Sys2Proof.Machine

variable {s t u : State}

/-! ### The entries that a table lists -/

theorem Table.mem_keys_filter {n : Nat} {α : Type} [DecidableEq α] {d : α} {tab : Table n α} {q : Fin n → Bool}
    (listed : ∀ i, q i = true → Table.get d tab i ≠ d) (i : Fin n) : i ∈ (Table.keys tab).filter q ↔ q i = true := by
  rw [List.mem_filter]
  exact ⟨fun h => h.2, fun h => ⟨Table.mem_keys_of_get_ne (listed i h), h⟩⟩

theorem Table.keys_ascend {n : Nat} {α : Type} [DecidableEq α] {d : α} {tab : Table n α} (canonical : Table.wf d tab = true) :
    (Table.keys tab).Pairwise (· < ·) := by
  unfold Table.keys
  rw [List.pairwise_map]
  exact ((Table.wf_iff d tab).mp canonical).1

/-- In a canonical table the entries that differ from the initial one and meet a test are listed in ascending order. -/
theorem Table.keys_filter_eq {n : Nat} {α : Type} [DecidableEq α] {d : α} {tab : Table n α} (canonical : Table.wf d tab = true) {q : Fin n → Bool}
    (listed : ∀ i, q i = true → Table.get d tab i ≠ d) : (Table.keys tab).filter q = (List.finRange n).filter q := by
  refine List.Pairwise.eq_of_mem_iff ((Table.keys_ascend canonical).filter q) ((List.pairwise_lt_finRange n).filter q) fun i => ?_
  rw [Table.mem_keys_filter listed, List.mem_filter, and_iff_right (List.mem_finRange i)]

theorem point_listed {p : Fin 1024} (defined : (s.point p).defn.isSome = true) : Table.get {} s.points p ≠ {} := by
  intro initial
  rw [State.point, initial] at defined
  cases defined

theorem mem_definedPoints (s : State) (p : Fin 1024) : p ∈ s.definedPoints ↔ (s.point p).defn.isSome = true :=
  Table.mem_keys_filter (fun _ => point_listed) p

theorem definedPoints_once (canonical : Table.wf {} s.points = true) : s.definedPoints.Nodup := (Table.keys_nodup canonical).filter _

theorem definedPoints_filter (canonical : Table.wf {} s.points = true) (q : Fin 1024 → Bool) :
    s.definedPoints.filter q = (List.finRange 1024).filter (fun p => (s.point p).defn.isSome && q p) := by
  unfold State.definedPoints
  rw [List.filter_filter, ← Table.keys_filter_eq canonical]
  · exact List.filter_congr fun p _ => Bool.and_comm _ _
  · intro p both
    rw [Bool.and_eq_true] at both
    exact point_listed both.1

theorem element_listed {e : Fin 64} (defined : (s.element e).defn.isSome = true) : Table.get {} s.elements e ≠ {} := by
  intro initial
  rw [State.element, initial] at defined
  cases defined

theorem mem_definedElements (s : State) (e : Fin 64) : e ∈ s.definedElements ↔ (s.element e).defn.isSome = true :=
  Table.mem_keys_filter (fun _ => element_listed) e

theorem definedElements_once (canonical : Table.wf {} s.elements = true) : s.definedElements.Nodup := (Table.keys_nodup canonical).filter _

theorem definedElements_eq (canonical : Table.wf {} s.elements = true) :
    s.definedElements = (List.finRange 64).filter (fun e => (s.element e).defn.isSome) :=
  Table.keys_filter_eq canonical fun _ => element_listed

/-! ### Iterations over distinct entries -/

/-- Updates of one entry each reach the entries listed, once. -/
theorem State.each_once {ι α : Type} [DecidableEq ι] {f : ι → State → State} {get : State → ι → α} {φ : α → α} {P : State → Prop}
    (keeps : ∀ i s, P s → P (f i s)) (updates : ∀ i j s, P s → get (f i s) j = if j = i then φ (get s i) else get s j) {is : List ι}
    (once : is.Nodup) (h : P s) (j : ι) : get (State.each is f s) j = if j ∈ is then φ (get s j) else get s j := by
  induction is generalizing s with
  | nil => rfl
  | cons i is ih =>
    obtain ⟨absent, once⟩ := List.nodup_cons.mp once
    rw [State.each_cons, ih once (keeps i s h), updates i j s h]
    by_cases at_i : j = i
    · subst at_i
      rw [if_neg absent, if_pos rfl, if_pos List.mem_cons_self]
    · rw [if_neg at_i]
      by_cases later : j ∈ is
      · rw [if_pos later, if_pos (List.mem_cons_of_mem i later)]
      · rw [if_neg later, if_neg fun here => (List.mem_cons.mp here).elim at_i later]

/-- Two operations that agree on the entries listed, in the states that an iteration passes. -/
theorem State.each_congr {ι : Type} {f g : ι → State → State} {P : State → Prop} {is : List ι} (keeps : ∀ i ∈ is, ∀ s, P s → P (f i s))
    (same : ∀ i ∈ is, ∀ s, P s → f i s = g i s) (h : P s) : State.each is f s = State.each is g s := by
  induction is generalizing s with
  | nil => rfl
  | cons i is ih =>
    rw [State.each_cons, State.each_cons, ← same i List.mem_cons_self s h]
    exact ih (fun j hj => keeps j (List.mem_cons_of_mem i hj)) (fun j hj => same j (List.mem_cons_of_mem i hj))
      (keeps i List.mem_cons_self s h)

end Sys2Proof.Machine

/-! Transitions and chatter decay, record by record (R4, R5, R8 to R16). -/

namespace Sys2Proof.Machine

variable {s t u : State} {p : Fin 1024}

/-! ### The parts of a condition change -/

theorem setPoint_again {x : Point} (written : t.points = (u.setPoint p x).points) : t.setPoint p x = t := by
  have points : (t.setPoint p x).points = t.points := by
    show Table.set {} t.points p x = t.points
    rw [written]
    exact Table.set_set {} u.points p x x
  calc t.setPoint p x = { t with points := (t.setPoint p x).points } := rfl
    _ = t := by rw [points]

theorem countable_iff (d : PointDef) : d.countable = true ↔ d.inhibited = false ∧ 2 ≤ d.chatterLimit := by
  unfold PointDef.countable
  rw [Bool.and_eq_true, decide_eq_true_iff, Bool.not_eq_true']

theorem conditionRecord_eq (c : Condition) : conditionRecord c = if c = .alarm then .pointAlarm else .pointNormal := by
  cases c <;> rfl

/-- A condition change of a point of this definition is counted for chatter (R11). -/
abbrev PointDef.counts (d : PointDef) (mode : Mode) : Prop := mode ≠ .configuring ∧ d.inhibited = false ∧ 2 ≤ d.chatterLimit

/-- A counted change takes the point to its limit (R12). -/
abbrev Point.onset (v : Point) (d : PointDef) (mode : Mode) (counted : Bool) : Prop :=
  counted = true ∧ d.counts mode ∧ v.suppressed = false ∧ d.chatterLimit ≤ min (v.chatter + 1) 15

/-- The point with the change counted (R11, R12). -/
def Point.counted (v : Point) (d : PointDef) (mode : Mode) (counted : Bool) : Point := { v with
  chatter := if counted = true ∧ d.counts mode then min (v.chatter + 1) 15 else v.chatter
  suppressed := v.suppressed || decide (v.onset d mode counted) }

theorem countable_of_counts {d : PointDef} {mode : Mode} (counts : d.counts mode) : ¬ (mode = .configuring ∨ d.countable = false) := by
  rintro (configuring | uncounted)
  · exact counts.1 configuring
  · rw [(countable_iff d).mpr counts.2] at uncounted
    cases uncounted

theorem uncountable_of_not_counts {d : PointDef} {mode : Mode} (idle : ¬ d.counts mode) : mode = .configuring ∨ d.countable = false := by
  by_contra both
  obtain ⟨service, countable⟩ := not_or.mp both
  exact idle ⟨service, (countable_iff d).mp (Bool.eq_true_of_not_eq_false countable)⟩

/-- The chatter count of a change, and the onset of suppression (R11, R12). -/
theorem countChatter_eq {d : PointDef} {st : Stamp} {counted : Bool} {w : Point} (here : t.point p = w)
    (written : t.points = (u.setPoint p w).points) : (if counted = true then countChatter p d st t else t) =
      if w.onset d t.mode counted then
        offer { kind := .chatterOn, cls := .alarm, time := st.time, subject := p.val, adjusted := st.adjusted, approx := st.approx }
          (t.setPoint p (w.counted d t.mode counted))
      else t.setPoint p (w.counted d t.mode counted) := by
  unfold Point.counted
  by_cases counts : counted = true ∧ d.counts t.mode
  · rw [if_pos counts.1, if_pos counts]
    unfold countChatter
    rw [if_neg (countable_of_counts counts.2), here]
    dsimp only
    by_cases reached : w.suppressed = false ∧ d.chatterLimit ≤ min (w.chatter + 1) 15
    · have onset : w.onset d t.mode counted := ⟨counts.1, counts.2, reached⟩
      rw [if_pos reached, if_pos onset, decide_eq_true onset, Bool.or_true]
    · have short : ¬ w.onset d t.mode counted := fun all => reached all.2.2
      rw [if_neg reached, if_neg short, decide_eq_false short, Bool.or_false]
  · have short : ¬ w.onset d t.mode counted := fun all => counts ⟨all.1, all.2.1⟩
    rw [if_neg counts, if_neg short, decide_eq_false short, Bool.or_false, setPoint_again written]
    split
    · rename_i change
      exact if_pos (uncountable_of_not_counts fun c => counts ⟨change, c⟩)
    · rfl

/-- The announced condition derived again after a transition, and its delivery (R8, R9). -/
theorem reannounce_capturing {d : PointDef} {x : Point} (here : t.point p = x) (defined : x.defn = some d) :
    reannounce .capturing p t = if t.mode = .configuring ∨ d.announce x x.announced = x.announced then t
      else if d.announce x x.announced = .alarm then
        activateAt d.window (some (p, x.lastEvent)) (t.setPoint p { x with announced := d.announce x x.announced })
      else clearAt d.window (t.setPoint p { x with announced := d.announce x x.announced }) := by
  have parts : reannounce .capturing p t = if t.mode = .configuring ∨ d.announce x x.announced = x.announced then t
      else deliverSource .capturing p d.window (d.announce x x.announced) (t.setPoint p { x with announced := d.announce x x.announced }) := by
    unfold reannounce
    rw [here]
    cases x
    cases defined
    rfl
  rw [parts]
  by_cases still : t.mode = .configuring ∨ d.announce x x.announced = x.announced
  · rw [if_pos still, if_pos still]
  · rw [if_neg still, if_neg still]
    unfold deliverSource
    cases announced : d.announce x x.announced with
    | alarm =>
      rw [if_pos rfl]
      dsimp only
      rw [State.setPoint_point_self]
    | normal => rw [if_neg nofun]

theorem offer_points (o : Offer) (s : State) : (offer o s).points = s.points := (offer_keepsPoints o s).2
theorem offer_mode (o : Offer) (s : State) : (offer o s).mode = s.mode := (offer_keepsPoints o s).1

theorem tripDeliver_points (p : Fin 1024) (s : State) : (tripDeliver p s).points = s.points := (tripDeliver_keeps p s).2
theorem tripDeliver_point (p j : Fin 1024) (s : State) : (tripDeliver p s).point j = s.point j := (tripDeliver_keeps p s).point j
theorem tripDeliver_mode (p : Fin 1024) (s : State) : (tripDeliver p s).mode = s.mode := (tripDeliver_keeps p s).1

theorem ite_offer_points {q : Prop} [Decidable q] (o : Offer) (s : State) : (if q then offer o s else s).points = s.points ∧
    (if q then offer o s else s).mode = s.mode := by
  split
  · exact ⟨offer_points o s, offer_mode o s⟩
  · exact ⟨rfl, rfl⟩

/-- A point that no element lists is delivered to none (R105). -/
theorem tripDeliver_unlisted (unlisted : ∀ e x, (s.element e).defn = some x → ∀ i ∈ x.inputs, i.point ≠ p) : tripDeliver p s = s := by
  have idle (e : Fin 64) : elementTakes p e s = s := by
    unfold elementTakes
    split
    · rename_i d defined
      refine if_neg fun lists => ?_
      obtain ⟨i, hi, named⟩ := List.any_eq_true.mp lists
      exact unlisted e d defined i hi (of_decide_eq_true named)
    · rfl
  exact State.each_keeps (P := fun u => u = s) (fun e u same => by rw [same]; exact idle e) _ _ rfl

/-! ### What becomes of a point -/

/-- What an announcement sees of a point: inhibition, suppression, quality and condition. -/
theorem announce_held_of_good (d : PointDef) {v : Point} (good : v.quality = .good) (a b : Condition) : d.announce v a = d.announce v b := by
  unfold PointDef.announce
  split
  · rfl
  split
  · rfl
  · rw [if_neg (by rw [good]; nofun), if_neg (by rw [good]; nofun)]

theorem Point.chattered_eq (mode : Mode) (d : PointDef) (v : Point) : v.chattered mode d =
    { v with chatter := if d.counts mode then min (v.chatter + 1) 15 else v.chatter
             suppressed := v.suppressed || decide (d.counts mode ∧ d.chatterLimit ≤ min (v.chatter + 1) 15) } := by
  unfold Point.chattered
  by_cases counts : d.counts mode
  · rw [if_neg (countable_of_counts counts), if_pos counts, show decide (d.counts mode ∧ d.chatterLimit ≤ min (v.chatter + 1) 15) =
      decide (d.chatterLimit ≤ min (v.chatter + 1) 15) from decide_eq_decide.mpr (and_iff_right counts)]
  · rw [if_pos (uncountable_of_not_counts counts), if_neg counts, decide_eq_false fun both => counts both.1, Bool.or_false]

/-! ### Decay -/

/-- A standing announcement offers nothing and changes points and the Annunciation Unit alone. -/
theorem reannounce_standing (p : Fin 1024) (s : State) :
    reannounce .standing p s = { s with points := (reannounce .standing p s).points, ann := (reannounce .standing p s).ann } := by
  unfold reannounce
  split
  · dsimp only
    split
    · rfl
    · rename_i d _ _
      have panel (c : Condition) (v : State) : v.onlyPanel (deliverSource .standing p d.window c v) := by
        unfold deliverSource
        cases c with
        | alarm => exact activateAt_none_panel _ v
        | normal => exact clearAt_panel _ v
      have only := panel (d.announce (s.point p) (s.point p).announced) (s.setPoint p { s.point p with
        announced := d.announce (s.point p) (s.point p).announced })
      unfold State.onlyPanel at only
      rw [only]
      rfl
  · rfl

/-- The record of a point released from suppression (R14). -/
def chatterOff (time : Nat) (p : Fin 1024) (c : Condition) : Offer :=
  { kind := .chatterOff, cls := .alarm, time := time, subject := p.val, value := c.code }

theorem decayPoint_touched (p : Fin 1024) (s : State) : decayPoint p s =
    { s with points := (decayPoint p s).points, ann := (decayPoint p s).ann, events := (decayPoint p s).events } := by
  unfold decayPoint
  dsimp only
  split
  · rfl
  split
  · have only := offer_touches (chatterOff s.time.station p (s.point p).condition)
      (s.setPoint p { s.point p with chatter := 0, suppressed := false })
    unfold State.onlyEvents at only
    rw [reannounce_standing, show offerNow _ _ _ _ _ _ = offer (chatterOff s.time.station p (s.point p).condition)
      (s.setPoint p { s.point p with chatter := 0, suppressed := false }) from rfl, only]
    rfl
  · rfl

theorem decayPoint_events (p : Fin 1024) (s : State) : (decayPoint p s).events =
    if (s.point p).suppressed = true ∧ (s.point p).chatter = 1 then
      (offer (chatterOff s.time.station p (s.point p).condition) s).events else s.events := by
  unfold decayPoint
  dsimp only
  by_cases zero : (s.point p).chatter = 0
  · rw [if_pos zero, if_neg fun both => by rw [zero] at both; exact nomatch both.2]
  · rw [if_neg zero]
    split
    · rw [reannounce_standing]
      exact offer_events_congr _ rfl rfl rfl rfl
    · rfl

/-- A pass of the decay over distinct points offers the records of those it releases, in their order. -/
theorem each_decayPoint_events {ps : List (Fin 1024)} (once : ps.Nodup) (same : ∀ q ∈ ps, t.point q = s.point q)
    (time : t.time = s.time) (mode : t.mode = u.mode) (settings : t.settings = u.settings) (clock : t.time = u.time)
    (events : t.events = u.events) : (State.each ps decayPoint t).events =
      (State.each (ps.filter fun q => decide ((s.point q).suppressed = true ∧ (s.point q).chatter = 1))
        (fun q => offer (chatterOff s.time.station q (s.point q).condition)) u).events := by
  induction ps generalizing t u with
  | nil => exact events
  | cons q ps ih =>
    obtain ⟨absent, once⟩ := List.nodup_cons.mp once
    have step := decayPoint_touched q t
    have others (j : Fin 1024) (hj : j ∈ ps) : (decayPoint q t).point j = s.point j := by
      rw [(decayPoint_turns q t).other (fun at_q => absent (at_q ▸ hj))]
      exact same j (List.mem_cons_of_mem q hj)
    have kept : (decayPoint q t).time = t.time ∧ (decayPoint q t).mode = t.mode ∧ (decayPoint q t).settings = t.settings := by
      rw [step]; exact ⟨rfl, rfl, rfl⟩
    have here := same q List.mem_cons_self
    have queue := decayPoint_events q t
    rw [here, time] at queue
    rw [State.each_cons, List.filter_cons]
    by_cases releases : (s.point q).suppressed = true ∧ (s.point q).chatter = 1
    · rw [if_pos (decide_eq_true releases), State.each_cons]
      have only := offer_touches (chatterOff s.time.station q (s.point q).condition) u
      unfold State.onlyEvents at only
      refine ih once others (kept.1.trans time) ?_ ?_ ?_ ?_
      · rw [kept.2.1, mode, only]
      · rw [kept.2.2, settings, only]
      · rw [kept.1, clock, only]
      · rw [queue, if_pos releases]
        exact offer_events_congr _ events mode settings clock
    · rw [if_neg (by rw [decide_eq_true_iff]; exact releases)]
      exact ih once others (kept.1.trans time) (kept.2.1.trans mode) (kept.2.2.trans settings) (kept.1.trans clock)
        (by rw [queue, if_neg releases]; exact events)

end Sys2Proof.Machine

/-! A transition moves its point and offers its records; a decay expiry lowers every chatter count (R5, R11 to R16). -/

namespace Sys2Proof.Machine

variable {s t u : State} {p : Fin 1024}

/-- A condition change, part by part: the delivery to the Trip Matrix, the point's record, the chatter count, the announcement. -/
theorem conditionChange_eq {d : PointDef} {w : Point} (here : u.point p = w) (defined : w.defn = some d) (c : Condition) (st : Stamp)
    (dated : w.lastEvent = st.time) (suppressed counted : Bool) : conditionChange p d c st suppressed counted u =
      let told := tripDeliver p (u.setPoint p { w with condition := c })
      let recorded := if w.quality = .good ∧ suppressed = false ∧ d.inhibited = false then
        offer { kind := if c = .alarm then .pointAlarm else .pointNormal, cls := d.cls, time := st.time, subject := p.val,
                adjusted := st.adjusted, approx := st.approx } told else told
      let x := Point.counted { w with condition := c } d u.mode counted
      let chattered := if w.onset d u.mode counted then
        offer { kind := .chatterOn, cls := .alarm, time := st.time, subject := p.val, adjusted := st.adjusted, approx := st.approx }
          (recorded.setPoint p x) else recorded.setPoint p x
      let a := d.announce x w.announced
      if u.mode = .configuring ∨ a = w.announced then chattered
      else if a = .alarm then activateAt d.window (some (p, st.time)) (chattered.setPoint p { x with announced := a })
      else clearAt d.window (chattered.setPoint p { x with announced := a }) := by
  lift_lets
  intro told recorded x chattered a
  have toldPoint : told.point p = { w with condition := c } := by rw [tripDeliver_point, State.setPoint_point_self]
  have toldMode : told.mode = u.mode := tripDeliver_mode p _
  have record : offerPointRecord p d c st suppressed told = recorded := by
    unfold offerPointRecord
    rw [toldPoint, conditionRecord_eq]
  have kept := ite_offer_points (q := w.quality = .good ∧ suppressed = false ∧ d.inhibited = false)
    { kind := if c = .alarm then .pointAlarm else .pointNormal, cls := d.cls, time := st.time, subject := p.val,
      adjusted := st.adjusted, approx := st.approx } told
  have written : recorded.points = (u.setPoint p { w with condition := c }).points := kept.1.trans (tripDeliver_points p _)
  have recordedMode : recorded.mode = u.mode := kept.2.trans toldMode
  have recordedPoint : recorded.point p = { w with condition := c } := by
    rw [State.point, written]
    exact State.setPoint_point_self u p _
  have chatter := countChatter_eq (d := d) (st := st) (counted := counted) recordedPoint written
  rw [recordedMode] at chatter
  have counting : (if counted = true then countChatter p d st recorded else recorded) = chattered := chatter
  have after := ite_offer_points (q := w.onset d u.mode counted)
    { kind := .chatterOn, cls := .alarm, time := st.time, subject := p.val, adjusted := st.adjusted, approx := st.approx } (recorded.setPoint p x)
  have chatteredPoint : chattered.point p = x := by
    rw [State.point, show chattered.points = (recorded.setPoint p x).points from after.1]
    exact State.setPoint_point_self recorded p x
  have chatteredMode : chattered.mode = u.mode := after.2.trans recordedMode
  unfold conditionChange
  rw [here]
  dsimp only
  rw [record, counting, reannounce_capturing chatteredPoint defined, chatteredMode, ← dated]
  rfl

theorem chattered_condition (mode : Mode) (d : PointDef) (v : Point) (c : Condition) :
    Point.chattered mode d { v with condition := c } = { v.chattered mode d with condition := c } := by
  rw [Point.chattered_eq, Point.chattered_eq]

theorem changed_eq (mode : Mode) {d : PointDef} {v : Point} (defined : v.defn = some d) (c : Condition) :
    v.changed mode d c true = if mode = .configuring then { v with condition := c } else
      { v.chattered mode d with condition := c, announced := d.announce { v.chattered mode d with condition := c } v.announced } := by
  have announced := Point.reannounced_of_defined (v := { v.chattered mode d with condition := c })
    ((Point.chattered_defn mode d v).trans defined) mode
  unfold Point.changed
  dsimp only
  rw [if_pos rfl, chattered_condition]
  refine announced.trans ?_
  rw [Point.chattered_announced]
  split
  · rename_i configuring
    unfold Point.chattered
    rw [if_pos (.inl configuring)]
  · rfl

theorem changed_uncounted (mode : Mode) {d : PointDef} {v : Point} (defined : v.defn = some d) (c : Condition) :
    v.changed mode d c false = if mode = .configuring then { v with condition := c } else
      { v with condition := c, announced := d.announce { v with condition := c } v.announced } := by
  unfold Point.changed
  dsimp only
  rw [if_neg (nofun : ¬ false = true)]
  exact Point.reannounced_of_defined (v := { v with condition := c }) (d := d) defined mode

/-- A GOOD MOMENTARY point that went to ALARM and back is announced as one that went back at once. -/
theorem changed_back (mode : Mode) {d : PointDef} {v : Point} (defined : v.defn = some d) (good : v.quality = .good) :
    (v.changed mode d .alarm true).changed mode d .normal false = if mode = .configuring then { v with condition := .normal } else
      { v.chattered mode d with
        condition := .normal, announced := d.announce { v.chattered mode d with condition := .normal } v.announced } := by
  rw [changed_eq mode defined]
  by_cases configuring : mode = .configuring
  · rw [if_pos configuring, changed_uncounted mode (d := d) (v := { v with condition := .alarm }) defined, if_pos configuring, if_pos configuring]
  · rw [if_neg configuring, if_neg configuring]
    have chatteredDefn : (v.chattered mode d).defn = some d := by rw [Point.chattered_eq]; exact defined
    rw [changed_uncounted mode (d := d) (v := { v.chattered mode d with
      condition := .alarm, announced := d.announce { v.chattered mode d with condition := .alarm } v.announced }) chatteredDefn,
      if_neg configuring]
    have chatteredGood : (v.chattered mode d).quality = .good := by rw [Point.chattered_eq]; exact good
    have announced := announce_held_of_good d (v := { v.chattered mode d with condition := .normal }) chatteredGood
      (d.announce { v.chattered mode d with condition := .alarm } v.announced) v.announced
    rw [← announced]
    rfl

theorem Point.decayed_undefined_or (mode : Mode) (v : Point) : v.decayed mode =
    if v.suppressed = true ∧ v.chatter = 1 then { v with chatter := 0, suppressed := false }.reannounced mode
    else { v with chatter := v.chatter - 1 } := by
  unfold Point.decayed
  by_cases zero : v.chatter = 0
  · have still : v.chatter - 1 = v.chatter := by rw [zero]
    rw [if_pos zero, still, if_neg fun both => by rw [zero] at both; exact nomatch both.2]
  · rw [if_neg zero]

/-- Settles O21. -/
theorem transitionMovesThePoint : Obligations.TransitionMovesThePoint := by
  unfold Obligations.TransitionMovesThePoint
  refine ⟨fun p d tr s defined moves => ?_, fun s high canonical due => ?_⟩
  · intro v t moved counts n changed stamped change
    have turns := applyTransition_turns p tr s
    have atMoved : (s.setPoint p moved).point p = moved := State.setPoint_point_self s p moved
    have movedDefn : moved.defn = some d := defined
    have maintainedIs (maintained : d.kind = .maintained) : applyTransition p tr s =
        if d.derive tr.contact = v.condition then s.setPoint p moved
        else conditionChange p d (d.derive tr.contact) tr.stamp v.suppressed true (s.setPoint p moved) := by
      unfold applyTransition
      rw [defined]
      dsimp only
      rw [if_neg moves]
      split
      · rfl
      · rename_i momentary; rw [maintained] at momentary; cases momentary
    have momentaryIs (momentary : d.kind = .momentary) : applyTransition p tr s =
        if tr.contact = d.polarity.alarmContact then
          conditionChange p d .normal tr.stamp v.suppressed false
            (conditionChange p d .alarm tr.stamp v.suppressed true (s.setPoint p moved))
        else s.setPoint p moved := by
      unfold applyTransition
      rw [defined]
      dsimp only
      rw [if_neg moves]
      split
      · rename_i maintained; rw [momentary] at maintained; cases maintained
      · rfl
    have changes (c : Condition) (counted : Bool) (u : State) (mode : u.mode = s.mode) (defn : (u.point p).defn = some d)
        (dated : (u.point p).lastEvent = tr.stamp.time) :
        conditionChange p d c tr.stamp v.suppressed counted u = change c counted u := by
      rw [conditionChange_eq rfl defn c tr.stamp dated, mode]
      rfl
    have becomes : v.transitioned s.mode tr = _ := Point.transitioned_of_defined defined s.mode tr
    rw [if_neg moves] at becomes
    have countedAs (c : Condition) : { moved.chattered s.mode d with condition := c } = changed c := by
      rw [Point.chattered_eq]
    have inConfiguring (configuring : s.mode = .configuring) (c : Condition) : { moved with condition := c } = changed c := by
      rw [← countedAs]
      unfold Point.chattered
      rw [if_pos (.inl configuring)]
    refine ⟨applyTransition_touches p tr s, fun q other => turns.other other, fun maintained same => ?_, fun maintained differs => ⟨?_, ?_⟩,
      fun momentary rest => ?_, fun momentary struck => ⟨?_, fun good => ?_⟩, tripDeliver_unlisted⟩
    · show applyTransition p tr s = _
      rw [maintainedIs maintained]
      exact if_pos same
    · show applyTransition p tr s = _
      rw [maintainedIs maintained]
      exact (if_neg differs).trans (changes _ _ _ rfl (by rw [atMoved]; exact defined) (by rw [atMoved]))
    · rw [maintained] at becomes
      dsimp only at becomes
      rw [if_neg differs] at becomes
      refine turns.point.trans (becomes.trans ((changed_eq s.mode (v := moved) movedDefn _).trans ?_))
      by_cases configuring : s.mode = .configuring
      · rw [if_pos configuring]
        exact (inConfiguring configuring _).trans (if_pos configuring).symm
      · rw [if_neg configuring, countedAs]
        refine Eq.trans ?_ (if_neg configuring).symm
        rw [← countedAs]
    · show applyTransition p tr s = _
      rw [momentaryIs momentary]
      exact if_neg rest
    · show applyTransition p tr s = _
      rw [momentaryIs momentary]
      have first := changes .alarm true (s.setPoint p moved) rfl (by rw [atMoved]; exact defined) (by rw [atMoved])
      refine (if_pos struck).trans ?_
      rw [← first]
      have turned := conditionChange_turns p d .alarm tr.stamp v.suppressed true (s.setPoint p moved)
      rw [atMoved, changed_eq _ movedDefn] at turned
      refine changes _ _ _ turned.1 ?_ ?_
      · rw [turned.point]
        split
        · exact defined
        · rw [Point.chattered_eq]; exact defined
      · rw [turned.point]
        split
        · rfl
        · rw [Point.chattered_eq]
    · rw [momentary] at becomes
      dsimp only at becomes
      rw [if_pos struck] at becomes
      refine turns.point.trans (becomes.trans ((changed_back s.mode (v := moved) movedDefn good).trans ?_))
      by_cases configuring : s.mode = .configuring
      · rw [if_pos configuring]
        exact (inConfiguring configuring _).trans (if_pos configuring).symm
      · rw [if_neg configuring, countedAs]
        refine Eq.trans ?_ (if_neg configuring).symm
        rw [← countedAs]
  · let start : State := { s with decay := some s.settings.chatterInterval }
    have tables : Table.wf {} s.points = true := by
      unfold State.canonical at canonical
      simp only [Bool.and_eq_true] at canonical
      tauto
    have once := definedPoints_once tables
    refine ⟨State.each s.definedPoints decayPoint start, ?_, ?_, ?_, fun p => ?_⟩
    · refine (running_high high _).trans (congrArg _ ?_)
      unfold chatterDecayExpiry
      rw [due]
      rfl
    · exact State.each_rel (R := fun s t : State => t = { s with points := t.points, ann := t.ann, events := t.events }) (fun _ => rfl)
        (fun h k => by rw [k, h]) decayPoint_touched s.definedPoints start
    · have offers := each_decayPoint_events (s := s) (t := start) (u := s) once (fun _ _ => rfl) rfl rfl rfl rfl rfl
      rw [offers, definedPoints_filter tables]
      have value (c : Condition) : c.code = if c = .alarm then 1 else 0 := by cases c <;> rfl
      unfold chatterOff
      simp only [value]
      refine congrArg (fun l => (State.each l _ s).events) (List.filter_congr fun q _ => ?_)
      rw [Bool.eq_iff_iff, Bool.and_eq_true, decide_eq_true_iff, decide_eq_true_iff, Option.isSome_iff_ne_none]
    · have after := State.each_once (s := start) (get := State.point) (φ := Point.decayed s.mode) (P := fun u => u.mode = s.mode)
        (fun q u mode => (decayPoint_turns q u).1.trans mode)
        (fun q j u mode => by
          have turns := (decayPoint_turns q u).2 j
          rw [mode] at turns
          exact turns) once rfl p
      have listed := mem_definedPoints s p
      refine ⟨fun undefined => ?_, fun d defined => ?_⟩
      · rw [if_neg fun here => by have := listed.mp here; rw [undefined] at this; cases this] at after
        exact after
      · rw [if_pos (listed.mpr (by rw [defined]; rfl)), Point.decayed_undefined_or] at after
        refine after.trans ?_
        show (if (s.point p).suppressed = true ∧ (s.point p).chatter = 1 then _ else _) = _
        refine ite_congr rfl (fun _ => ?_) fun _ => rfl
        exact Point.reannounced_of_defined (v := { s.point p with chatter := 0, suppressed := false }) defined s.mode

end Sys2Proof.Machine

/-! Written and cleared points (R18 to R21). -/

namespace Sys2Proof.Machine

variable {s t u : State} {p : Fin 1024}

/-! ### In CONFIGURING the Trip Matrix only computes -/

theorem elementTakes_configuring (p : Fin 1024) (e : Fin 64) (configuring : s.mode = .configuring) :
    elementTakes p e s = { s with elements := (elementTakes p e s).elements } := by
  unfold elementTakes
  split
  · split
    · dsimp only
      rw [if_pos (show (s.setElement e _).mode = .configuring from configuring)]
      rfl
    · rfl
  · rfl

theorem tripDeliver_configuring (p : Fin 1024) (configuring : s.mode = .configuring) :
    tripDeliver p s = { s with elements := (tripDeliver p s).elements } := by
  refine State.each_keeps (P := fun u : State => u = { s with elements := u.elements }) (fun e u only => ?_) _ s rfl
  have mode : u.mode = .configuring := by rw [only]; exact configuring
  rw [elementTakes_configuring p e mode, only]

/-! ### The parts of a write -/

/-- The dynamic fields that a write finds: those of the point, or the initial ones (R19, R20). -/
def Point.kept (v : Point) : Point := if v.defn = none then {} else v

theorem install_eq (d : PointDef) (v : Point) : v.install d =
    { v.kept with defn := some d, announced := .normal, chatter := 0, suppressed := false } := by
  unfold Point.install Point.kept
  cases v.defn with
  | none => rw [if_pos rfl]
  | some old => rw [if_neg nofun]

theorem heldAnnounced_eq (v : Point) : v.heldAnnounced = v.kept.announced := by
  unfold Point.heldAnnounced Point.kept
  cases v.defn with
  | none => rw [if_pos rfl]
  | some old => rw [if_neg nofun]

/-- The derivation of a written point's condition, with the record of a change (R19, R20). -/
theorem deriveWritten_eq {d : PointDef} {w : Point} (rested : w.suppressed = false) : deriveWritten p d (s.setPoint p w) =
    let x := { w with condition := d.derive w.contact }
    if x.condition = w.condition then s.setPoint p x
    else if w.quality = .good ∧ d.inhibited = false then
      offer { kind := if x.condition = .alarm then .pointAlarm else .pointNormal, cls := d.cls, time := s.time.station,
              subject := p.val } (tripDeliver p (s.setPoint p x))
    else tripDeliver p (s.setPoint p x) := by
  unfold deriveWritten
  dsimp only
  rw [State.setPoint_point_self]
  by_cases same : d.derive w.contact = w.condition
  · rw [if_pos same, if_pos same, same]
  · rw [if_neg same, if_neg same, State.setPoint_setPoint]
    have only := tripDeliver_touches p (s.setPoint p { w with condition := d.derive w.contact })
    unfold State.onlyElements at only
    have time : (tripDeliver p (s.setPoint p { w with condition := d.derive w.contact })).time = s.time := by rw [only]; rfl
    unfold offerPointRecord State.unstamped
    rw [tripDeliver_point, State.setPoint_point_self, time, conditionRecord_eq]
    simp only [rested, true_and]

theorem announceWritten_eq {d : PointDef} {x : Point} (held : Condition) (here : t.point p = x) : announceWritten p d held t =
    if d.announce x held = .alarm then activateAt d.window none (t.setPoint p { x with announced := d.announce x held })
    else t.setPoint p { x with announced := d.announce x held } := by
  unfold announceWritten
  dsimp only
  rw [here]
  cases d.announce x held with
  | alarm => rw [if_pos rfl]
  | normal => rw [if_neg nofun]

theorem removeContribution_eq (p : Fin 1024) (s : State) : removeContribution p s = match (s.point p).defn with
    | some old => if (s.point p).announced = .alarm then clearAt old.window s else s
    | none => s := by
  unfold removeContribution
  cases (s.point p).defn with
  | none => rfl
  | some old =>
    cases (s.point p).announced with
    | alarm => rfl
    | normal => rfl

theorem writePoint_define {k : Nat} {e : List Byte} {d : PointDef} (named : k = p.val) (read : readPoint e = some (some d))
    (known : s.mode ≠ .configuring → windowKnown s d.window = true ∧ pointPlaced s p = true)
    (room : windowFull s (fun w => pointNames s w p) d.window = false) : writePoint k e s = accept (applyPointWrite p d s) := by
  unfold writePoint
  rw [if_neg (not_not.mpr (readPoint_length (by rw [read]; nofun))), finOf_of named, read]
  dsimp only
  rw [if_neg, room]
  · rfl
  · rintro ⟨service, unknown | misplaced⟩
    · rw [(known service).1] at unknown; cases unknown
    · rw [(known service).2] at misplaced; cases misplaced

theorem clearPointAt_unlisted (unlisted : ∀ e, elementLists s p e = false) : clearPointAt p s = accept (applyPointClear p s) := by
  refine if_neg fun listed => ?_
  obtain ⟨e, -, lists⟩ := List.any_eq_true.mp listed
  rw [unlisted] at lists
  cases lists

/-- Settles O22. -/
theorem pointEntryIsWrittenAndCleared : Obligations.PointEntryIsWrittenAndCleared := by
  unfold Obligations.PointEntryIsWrittenAndCleared
  intro src index p s ready named v
  refine ⟨?_, ?_⟩
  · intro entry d read known room kept u a removed told derived put
    have installed : v.install d = { kept with defn := some d, announced := .normal, chatter := 0, suppressed := false } := install_eq d v
    have turns := applyPointWrite_turns p d s
    have becomes : Point.written s.mode d v = if s.mode = .configuring then u else { u with announced := d.announce u v.heldAnnounced } := by
      unfold Point.written
      rw [installed]
    refine ⟨applyPointWrite p d s, ?_, applyPointWrite_touches p d s, fun q other => turns.other other,
      fun configuring => ⟨?_, ?_⟩, fun service => ⟨?_, ?_⟩⟩
    · rw [exec_of_ready (c := .writePoint src index entry) rfl ready]
      dsimp only
      rw [writePoint_define named read known room, entryReply_accept]
    · exact turns.point.trans (becomes.trans (if_pos configuring))
    · have written : applyPointWrite p d s = if u.condition = kept.condition then s.setPoint p u else tripDeliver p (s.setPoint p u) := by
        rw [applyPointWrite_configuring configuring, show (s.point p).install d = _ from installed, deriveWritten_eq rfl]
        refine ite_congr rfl (fun _ => rfl) fun _ => ?_
        have mode : (tripDeliver p (s.setPoint p u)).mode = .configuring := (tripDeliver_mode p _).trans configuring
        split
        · exact offer_configuring mode
        · rfl
      refine ⟨?_, written⟩
      rw [written]
      split
      · rfl
      · rw [tripDeliver_configuring p (show (s.setPoint p u).mode = .configuring from configuring)]
        rfl
    · refine turns.point.trans (becomes.trans ((if_neg service).trans ?_))
      rw [heldAnnounced_eq]
      rfl
    · have removes : removeContribution p s = removed := removeContribution_eq p s
      have onlyAnn := removeContribution_touches p s
      have derives : deriveWritten p d (removed.setPoint p { kept with defn := some d, announced := .normal, chatter := 0, suppressed := false }) =
          derived := by
        have time : removed.time = s.time := by
          rw [← removes]
          unfold State.onlyAnnunciation at onlyAnn
          rw [onlyAnn]
        rw [deriveWritten_eq rfl, time]
      have derivedPoint : derived.point p = u := by
        have after := (setPoint_turns p { kept with defn := some d, announced := .normal, chatter := 0, suppressed := false }
          removed).trans (deriveWritten_turns p d _)
        rw [derives, State.setPoint_point_self] at after
        exact after.point
      rw [applyPointWrite_service service, show (s.point p).install d = _ from installed, removes, derives,
        announceWritten_eq _ derivedPoint, heldAnnounced_eq]
      rfl
  · intro unlisted cleared
    have clears : applyPointClear p s = cleared := by
      unfold applyPointClear
      rw [removeContribution_eq]
      refine congrArg (State.setPoint · p {}) ?_
      show _ = (match (s.point p).defn with
        | some d => if s.mode ≠ Mode.configuring ∧ (s.point p).announced = Condition.alarm then clearAt d.window s else s
        | none => s)
      by_cases configuring : s.mode = .configuring
      · rw [if_pos configuring]
        cases (s.point p).defn with
        | none => rfl
        | some d => exact (if_neg fun both => both.1 configuring).symm
      · rw [if_neg configuring]
        cases (s.point p).defn with
        | none => rfl
        | some d =>
          dsimp only
          by_cases alarm : (s.point p).announced = .alarm
          · rw [if_pos alarm, if_pos ⟨configuring, alarm⟩]
          · rw [if_neg alarm, if_neg fun both => alarm both.2]
    refine ⟨?_, fun entry read => ?_⟩
    · rw [exec_of_ready (c := .clearPoint src index) rfl ready]
      dsimp only
      unfold clearPoint
      rw [finOf_of named]
      dsimp only
      rw [clearPointAt_unlisted unlisted, entryReply_accept, clears]
    · rw [exec_of_ready (c := .writePoint src index entry) rfl ready]
      dsimp only
      unfold writePoint
      rw [if_neg (not_not.mpr (readPoint_length (by rw [read]; nofun))), finOf_of named, read]
      dsimp only
      rw [clearPointAt_unlisted unlisted, entryReply_accept, clears]

end Sys2Proof.Machine

/-! A report: its quality, its transitions, its module's floor (R34 to R37, R52). -/

namespace Sys2Proof.Machine

variable {s t u : State} {p : Fin 1024}

/-! ### The transitions of a report, on their point -/

/-- A transition of a defined point gives it the transition's contact, and its time where the contact moves. -/
theorem Point.transitioned_fields {v : Point} {d : PointDef} (defined : v.defn = some d) (mode : Mode) (tr : Transition) :
    (v.transitioned mode tr).defn = v.defn ∧ (v.transitioned mode tr).quality = v.quality ∧
      (v.transitioned mode tr).contact = tr.contact ∧
      (v.transitioned mode tr).lastEvent = if tr.contact = v.contact then v.lastEvent else tr.stamp.time := by
  rw [Point.transitioned_of_defined defined]
  by_cases still : tr.contact = v.contact
  · rw [if_pos still, if_pos still]
    exact ⟨rfl, rfl, still.symm, rfl⟩
  · rw [if_neg still, if_neg still]
    cases d.kind with
    | maintained =>
      dsimp only
      split
      · exact ⟨rfl, rfl, rfl, rfl⟩
      · rw [Point.changed_defn, Point.changed_quality, Point.changed_contact, Point.changed_lastEvent]
        exact ⟨rfl, rfl, rfl, rfl⟩
    | momentary =>
      dsimp only
      split
      · rw [Point.changed_defn, Point.changed_quality, Point.changed_contact, Point.changed_lastEvent, Point.changed_defn,
          Point.changed_quality, Point.changed_contact, Point.changed_lastEvent]
        exact ⟨rfl, rfl, rfl, rfl⟩
      · exact ⟨rfl, rfl, rfl, rfl⟩

/-- The transitions of a report, one after the other. -/
def Point.follows (mode : Mode) (trs : List Transition) (v : Point) : Point := trs.foldl (fun v tr => v.transitioned mode tr) v

theorem each_applyTransition (trs : List Transition) (s : State) :
    s.turns p ((s.point p).follows s.mode trs) (State.each trs (applyTransition p) s) := by
  induction trs generalizing s with
  | nil => exact .refl s p
  | cons tr trs ih =>
    have first := applyTransition_turns p tr s
    have rest := ih (applyTransition p tr s)
    rw [first.1, first.point] at rest
    exact first.trans rest

theorem follows_derived {v : Point} (derived : v.derived) (mode : Mode) (trs : List Transition) : (v.follows mode trs).derived := by
  induction trs generalizing v with
  | nil => exact derived
  | cons tr trs ih => exact ih (derived.transitioned mode tr)

/-- The pulse pairs of a report leave the contact as it was, each dated as the report (R36). -/
theorem follows_pulses {v : Point} {d : PointDef} (defined : v.defn = some d) (mode : Mode) (n : Nat) (st : Stamp) :
    let w := v.follows mode (List.replicate n
      [{ contact := !v.contact, stamp := st }, { contact := v.contact, stamp := st }]).flatten
    w.defn = v.defn ∧ w.quality = v.quality ∧ w.contact = v.contact ∧ w.lastEvent = if n = 0 then v.lastEvent else st.time := by
  induction n generalizing v with
  | zero => exact ⟨rfl, rfl, rfl, rfl⟩
  | succ n ih =>
    obtain ⟨defn, quality, contact, _⟩ := Point.transitioned_fields defined mode { contact := !v.contact, stamp := st }
    obtain ⟨defn', quality', contact', event'⟩ := Point.transitioned_fields (defn.trans defined) mode { contact := v.contact, stamp := st }
    have rest := ih (defn'.trans (defn.trans defined))
    dsimp only at rest contact contact' event' ⊢
    rw [contact'] at rest
    obtain ⟨d1, d2, d3, d4⟩ := rest
    refine ⟨d1.trans (defn'.trans defn), d2.trans (quality'.trans quality), d3, d4.trans ?_⟩
    rw [if_neg (Nat.succ_ne_zero n)]
    split
    · rw [event', contact]
      exact if_neg (by cases v.contact <;> nofun)
    · rfl

/-- A report's transitions give the point the reported contact, dated as the report where there is a transition (R36). -/
theorem follows_report {v : Point} {d : PointDef} (defined : v.defn = some d) (mode : Mode) (r : Report) (st : Stamp) :
    let w := v.follows mode (transitionsOf v.contact r st)
    w.defn = v.defn ∧ w.quality = v.quality ∧ w.contact = r.contact ∧
      w.lastEvent = if r.pulses = 0 ∧ r.contact = v.contact then v.lastEvent else st.time := by
  obtain ⟨defn, quality, contact, event⟩ := follows_pulses defined mode r.pulses { st with approx := true }
  unfold transitionsOf
  generalize hw : v.follows mode (List.replicate r.pulses [({ contact := !v.contact, stamp := { st with approx := true } } : Transition),
    { contact := v.contact, stamp := { st with approx := true } }]).flatten = w at defn quality contact event
  unfold Point.follows at hw ⊢
  rw [List.foldl_append, hw]
  by_cases still : r.contact = v.contact
  · rw [if_pos still]
    refine ⟨defn, quality, contact.trans still.symm, event.trans ?_⟩
    by_cases none : r.pulses = 0
    · rw [if_pos none, if_pos ⟨none, still⟩]
    · rw [if_neg none, if_neg fun both => none both.1]
  · rw [if_neg still, if_neg fun both => still both.2]
    obtain ⟨defn', quality', contact', event'⟩ := Point.transitioned_fields (defn.trans defined) mode { contact := r.contact, stamp := st }
    refine ⟨defn'.trans defn, quality'.trans quality, contact', event'.trans (if_neg ?_)⟩
    dsimp only
    rw [contact]
    exact still

/-! ### A delivered quality -/

theorem Point.qualified_fields {v : Point} {d : PointDef} (defined : v.defn = some d) (mode : Mode) (q : Quality) :
    v.qualified mode q = { v with quality := q, announced := (v.qualified mode q).announced } := by
  rw [Point.qualified_of_defined defined]
  split
  · rename_i same; rw [same]
  · exact (Point.reannounced_fields mode { v with quality := q })

theorem reannounce_standing_eq {d : PointDef} {x : Point} (here : t.point p = x) (defined : x.defn = some d) :
    reannounce .standing p t = if t.mode = .configuring ∨ d.announce x x.announced = x.announced then t
      else if d.announce x x.announced = .alarm then
        activateAt d.window none (t.setPoint p { x with announced := d.announce x x.announced })
      else clearAt d.window (t.setPoint p { x with announced := d.announce x x.announced }) := by
  have parts : reannounce .standing p t = if t.mode = .configuring ∨ d.announce x x.announced = x.announced then t
      else deliverSource .standing p d.window (d.announce x x.announced) (t.setPoint p { x with announced := d.announce x x.announced }) := by
    unfold reannounce
    rw [here]
    cases x
    cases defined
    rfl
  rw [parts]
  by_cases still : t.mode = .configuring ∨ d.announce x x.announced = x.announced
  · rw [if_pos still, if_pos still]
  · rw [if_neg still, if_neg still]
    unfold deliverSource
    cases d.announce x x.announced with
    | alarm => rw [if_pos rfl]
    | normal => rw [if_neg nofun]

theorem Quality.code_eq (q : Quality) : q.code = if q = .good then 0 else 1 := by cases q <;> rfl

/-- The delivery of a quality with its record, part by part (R6). -/
theorem deliverQuality_eq {d : PointDef} {v : Point} (here : s.point p = v) (defined : v.defn = some d) (q : Quality) (st : Stamp) :
    deliverQuality p q st true s = if q = v.quality then s else
      let x := { v with quality := q }
      let told := tripDeliver p (s.setPoint p x)
      let shown := if s.mode = .configuring ∨ d.announce x v.announced = v.announced then told
        else if d.announce x v.announced = .alarm then activateAt d.window none (told.setPoint p { x with announced := d.announce x v.announced })
        else clearAt d.window (told.setPoint p { x with announced := d.announce x v.announced })
      if d.inhibited then shown
      else offer { kind := .pointQuality, cls := .alarm, time := st.time, subject := p.val, value := if q = .good then 0 else 1,
                   adjusted := st.adjusted, approx := st.approx } shown := by
  have parts : deliverQuality p q st true s = if q = v.quality then s else
      let t := reannounce .standing p (tripDeliver p (s.setPoint p { v with quality := q }))
      if true && !d.inhibited then
        offer { kind := .pointQuality, cls := .alarm, time := st.time, subject := p.val, value := q.code, adjusted := st.adjusted,
                approx := st.approx } t
      else t := by
    unfold deliverQuality
    rw [here]
    cases v
    cases defined
    rfl
  have toldPoint : (tripDeliver p (s.setPoint p { v with quality := q })).point p = { v with quality := q } := by
    rw [tripDeliver_point, State.setPoint_point_self]
  have toldMode : (tripDeliver p (s.setPoint p { v with quality := q })).mode = s.mode := tripDeliver_mode p _
  rw [parts, reannounce_standing_eq (d := d) toldPoint defined, toldMode, Quality.code_eq]
  refine ite_congr rfl (fun _ => rfl) fun _ => ?_
  dsimp only
  cases d.inhibited with
  | false => rfl
  | true => rfl

end Sys2Proof.Machine

/-! One report, and a frame with one report in sequence (R32, R34 to R37). -/

namespace Sys2Proof.Machine

variable {s t u : State} {m : Fin 16} {p : Fin 1024}

/-! ### The point of a report -/

theorem reportPoint_iff (m : Fin 16) (r : Report) (s : State) (p : Fin 1024) : reportPoint s m r = some p ↔
    p.val = m.val * 64 + r.channel ∧ r.channel < 64 ∧ (s.point p).defn ≠ none ∧
    ∃ d, (s.inputModule m).defn = some d ∧ r.channel < d.channels := by
  have named (h : r.channel < 64) : p.val = m.val * 64 + r.channel ↔ pointOf m ⟨r.channel, h⟩ = p := by
    rw [eq_comm, Fin.ext_iff]
    rfl
  unfold reportPoint
  rcases Option.eq_none_or_eq_some (s.inputModule m).defn with off | ⟨d, on⟩
  · rw [off]
    exact ⟨nofun, fun ⟨_, _, _, _, on, _⟩ => nomatch on⟩
  · rw [on]
    dsimp only
    by_cases h : r.channel < 64
    · rw [named h, dif_pos h, Option.ite_none_right_eq_some]
      rw [Option.some.injEq, Option.isSome_iff_ne_none]
      constructor
      · rintro ⟨⟨below, defined⟩, rfl⟩
        exact ⟨rfl, h, defined, d, rfl, below⟩
      · rintro ⟨rfl, -, defined, e, same, below⟩
        rw [← Option.some.inj same] at below
        exact ⟨⟨below, defined⟩, rfl⟩
    · rw [dif_neg h]
      exact ⟨nofun, fun ⟨_, low, _⟩ => absurd low h⟩

/-- The point of a report goes by the definitions alone. -/
theorem reportPoint_congr {r : Report} (modules : (t.inputModule m).defn = (s.inputModule m).defn)
    (points : ∀ p, t.point p = s.point p) (h : reportPoint s m r = some p) : reportPoint t m r = some p := by
  rw [reportPoint_iff] at h ⊢
  rw [modules, points]
  exact h

theorem Quality.eq_or (q : Quality) : q = .good ∨ q = .bad := by
  cases q
  · exact .inl rfl
  · exact .inr rfl

/-! ### Taking one report -/

/-- A module with its floor raised to the time of a report (R52). -/
def State.raised (s : State) (m : Fin 16) (st : Stamp) : State := s.setInputModule m { s.inputModule m with floor := st.time }

theorem takeReport_bad {r : Report} (named : reportPoint s m r = some p) (bad : r.quality = .bad) (trx : Nat) :
    let st := stampReport trx r.age (s.inputModule m).floor
    takeReport m trx r s = deliverQuality p .bad st true (s.raised m st) := by
  unfold takeReport
  rw [named, bad]
  rfl

theorem takeReport_good {r : Report} (named : reportPoint s m r = some p) (good : r.quality = .good) (trx : Nat) :
    let st := stampReport trx r.age (s.inputModule m).floor
    takeReport m trx r s = State.each (transitionsOf (s.point p).contact r st) (applyTransition p)
      (deliverQuality p .good st true (s.raised m st)) := by
  unfold takeReport
  rw [named, good]
  rfl

/-- What a report makes of its point: the quality alone, or the quality and the transitions. -/
def Point.reported (mode : Mode) (r : Report) (st : Stamp) (v : Point) : Point :=
  if r.quality = .good then (v.qualified mode .good).follows mode (transitionsOf v.contact r st) else v.qualified mode .bad

theorem takeReport_turns {r : Report} (named : reportPoint s m r = some p) (trx : Nat) :
    let st := stampReport trx r.age (s.inputModule m).floor
    (s.raised m st).turns p ((s.point p).reported s.mode r st) (takeReport m trx r s) := by
  intro st
  have delivered (q : Quality) := deliverQuality_turns p q st true (s.raised m st)
  unfold Point.reported
  rcases Quality.eq_or r.quality with good | bad
  · rw [if_pos good, takeReport_good named good]
    have followed := each_applyTransition (p := p) (transitionsOf (s.point p).contact r st) (deliverQuality p .good st true (s.raised m st))
    rw [(delivered .good).1, (delivered .good).point] at followed
    exact (delivered .good).trans followed
  · rw [if_neg (by rw [bad]; nofun), takeReport_bad named bad]
    exact delivered .bad

theorem Point.reported_bad {v : Point} {d : PointDef} {r : Report} (defined : v.defn = some d) (bad : r.quality = .bad) (mode : Mode)
    (st : Stamp) : (v.reported mode r st).defn = some d ∧ (v.reported mode r st).quality = .bad ∧
      (v.reported mode r st).contact = v.contact ∧ (v.reported mode r st).condition = v.condition ∧
      (v.reported mode r st).lastEvent = v.lastEvent := by
  have eq : v.reported mode r st = v.qualified mode .bad := if_neg (by rw [bad]; nofun)
  rw [eq, Point.qualified_fields defined]
  exact ⟨defined, rfl, rfl, rfl, rfl⟩

theorem Point.reported_good {v : Point} {d : PointDef} {r : Report} (defined : v.defn = some d) (good : r.quality = .good) (mode : Mode)
    (st : Stamp) : (v.reported mode r st).defn = some d ∧ (v.reported mode r st).quality = .good ∧
      (v.reported mode r st).contact = r.contact ∧
      (v.derived → (v.reported mode r st).condition = d.derive r.contact) ∧
      (v.reported mode r st).lastEvent = if r.pulses = 0 ∧ r.contact = v.contact then v.lastEvent else st.time := by
  have eq : v.reported mode r st = (v.qualified mode .good).follows mode (transitionsOf v.contact r st) := if_pos good
  have fields := Point.qualified_fields defined mode .good
  have same : (v.qualified mode .good).contact = v.contact := by rw [fields]
  have event : (v.qualified mode .good).lastEvent = v.lastEvent := by rw [fields]
  have quality : (v.qualified mode .good).quality = .good := by rw [fields]
  have defined' : (v.qualified mode .good).defn = some d := by rw [fields]; exact defined
  have derived : v.derived → (v.qualified mode .good).derived := fun h => by rw [fields]; exact h
  have report := follows_report defined' mode r st
  rw [same, event, quality, defined', ← eq] at report
  obtain ⟨atDefn, atQuality, atContact, atEvent⟩ := report
  refine ⟨atDefn, atQuality, atContact, fun h => ?_, atEvent⟩
  rw [← atContact, eq]
  exact follows_derived (derived h) mode _ d (by rw [← eq]; exact atDefn)

/-! ### A frame with one report in sequence -/

theorem parseScan_accepted {h : Held} {d : ModuleDef} {seq : Nat} {rs : List Report} (source : moduleAt s h.frame.src = some m)
    (enabled : (s.inputModule m).defn = some d) (parsed : parseScan h.frame.payload = some (seq, rs)) (between : List (List TimeArrival)) :
    takeScan between h s = acceptScan m d between seq rs s := by
  unfold takeScan
  rw [source]
  dsimp only
  rw [parsed, enabled]

theorem acceptScan_live {d : ModuleDef} {last : Nat} (live : (s.inputModule m).state = .live)
    (known : (s.inputModule m).lastSeq = some last) (between : List (List TimeArrival)) (seq : Nat) (rs : List Report) :
    acceptScan m d between seq rs s =
      takeLive m between last seq rs (s.setInputModule m { s.inputModule m with supervision := some d.supervision }) := by
  unfold acceptScan
  rw [live]
  dsimp only
  rw [known]

theorem takeLive_next {last seq : Nat} (next : seq = (last + 1) % 256) (new : seq ≠ last) (between : List (List TimeArrival))
    (rs : List Report) (s : State) :
    takeLive m between last seq rs s = takeReports m between rs (setLastSeq m seq s) :=
  (if_neg new).trans (if_pos next)

theorem takeReports_one {between : List (List TimeArrival)} (quiet : between.headD [] = []) (r : Report) (s : State) :
    takeReports m between [r] s = takeReport m s.scanReceipt r s := by
  have eq : takeReports m between [r] s =
      takeReport m (State.each (between.headD []) timeArrives s).scanReceipt r (State.each (between.headD []) timeArrives s) := rfl
  rw [eq, quiet]
  rfl

theorem scanReceipt_eq {before after : List Held} {h : Held} (buffered : s.portA.buf = before ++ h :: after)
    (owned : Held.owned 0x11 h = true) (others : ∀ k ∈ before, Held.owned 0x11 k = false) :
    s.scanReceipt = h.trx.getD s.time.station := by
  unfold State.scanReceipt
  rw [(nextOwned_split (p := .A) (kind := kindScan) buffered owned others).1]

theorem scanFrame_split {before after : List Held} {h : Held} (buffered : s.portA.buf = before ++ h :: after)
    (owned : Held.owned 0x11 h = true) (others : ∀ k ∈ before, Held.owned 0x11 k = false) :
    scanFrame s = { givePlace .A (Held.owned kindScan) (takeScan s.arriving h s) with arriving := [] } := by
  unfold scanFrame
  rw [(nextOwned_split (p := .A) (kind := kindScan) buffered owned others).1]

theorem takeScan_inSequence {h : Held} {d : ModuleDef} {seq last : Nat} {r : Report} {between : List (List TimeArrival)}
    (source : moduleAt s h.frame.src = some m) (enabled : (s.inputModule m).defn = some d) (live : (s.inputModule m).state = .live)
    (known : (s.inputModule m).lastSeq = some last) (next : seq = (last + 1) % 256) (new : seq ≠ last)
    (parsed : parseScan h.frame.payload = some (seq, [r])) (quiet : between.headD [] = []) :
    takeScan between h s = takeReport m s.scanReceipt r
      (s.setInputModule m { s.inputModule m with supervision := some d.supervision, lastSeq := some seq }) := by
  rw [parseScan_accepted source enabled parsed, acceptScan_live live known, takeLive_next next new, takeReports_one quiet]
  unfold setLastSeq
  rw [State.setInputModule_inputModule_self, State.setInputModule_setInputModule]
  rfl

theorem PointDef.derive_eq (d : PointDef) (contact : Bool) :
    d.derive contact = if d.kind = .maintained ∧ contact = d.polarity.alarmContact then .alarm else .normal := by
  cases kind : d.kind with
  | maintained =>
    rw [PointDef.derive, kind]
    exact if_congr (and_iff_right rfl).symm rfl rfl
  | momentary =>
    rw [PointDef.derive, kind]
    exact (if_neg fun h => nomatch h.1).symm

/-- A given report, judged: its quality delivered with its record, then its transitions. -/
theorem takeReport_parts {r : Report} (named : reportPoint s m r = some p) (trx : Nat) :
    let v := s.point p
    let st := stampReport trx r.age (s.inputModule m).floor
    let judged := deliverQuality p r.quality st true (s.raised m st)
    (r.quality = .bad → takeReport m trx r s = judged) ∧
    (r.quality = .good → takeReport m trx r s = State.each (transitionsOf v.contact r st) (applyTransition p) judged) :=
  ⟨fun bad => by rw [takeReport_bad named bad, bad], fun good => by rw [takeReport_good named good, good]⟩

/-- Settles O18. -/
theorem goodReportSetsItsPoint : Obligations.GoodReportSetsItsPoint := by
  refine ⟨?_, reportPoint_iff, fun m trx r s => ⟨takeReport_ignored trx, ?_⟩⟩
  · intro before after h m d p pd seq last r s high buffered owned others source enabled live known next new parsed quiet named defined st
    generalize hu : s.setInputModule m { s.inputModule m with supervision := some d.supervision, lastSeq := some seq } = u
    have fed : u.inputModule m = { s.inputModule m with supervision := some d.supervision, lastSeq := some seq } := by
      rw [← hu, State.setInputModule_inputModule_self]
    have points (q) : u.point q = s.point q := by rw [← hu]; rfl
    have mode : u.mode = s.mode := by rw [← hu]; rfl
    have only : s.onlyModules u := by rw [← hu]; rfl
    have named' : reportPoint u m r = some p := reportPoint_congr (by rw [fed]) points named
    have stamp : stampReport s.scanReceipt r.age (u.inputModule m).floor = st := by
      rw [fed, scanReceipt_eq buffered owned others]
    have taken := takeScan_inSequence source enabled live known next new parsed quiet
    have turns := takeReport_turns named' s.scanReceipt
    have within := takeReport_stamped_touches s.scanReceipt named'
    have whole := only.trans (takeReport_touches m s.scanReceipt r u)
    have elsewhere (q : Fin 1024) (other : q ≠ p) : (takeReport m s.scanReceipt r u).point q = s.point q :=
      (turns.other other).trans (points q)
    have here := turns.point
    dsimp only at turns here
    rw [stamp, points, mode] at here
    rw [stamp] at within
    rw [hu] at taken
    refine ⟨_, (running_high high _).trans (congrArg _ (scanFrame_split buffered owned others)), ?_⟩
    rw [taken]
    generalize takeReport m s.scanReceipt r u = w at within whole elsewhere here
    have pieces (p : Fin 1024) : ({ givePlace .A (Held.owned kindScan) w with arriving := [] } : State).point p = w.point p := rfl
    have modules (n : Fin 16) : ({ givePlace .A (Held.owned kindScan) w with arriving := [] } : State).inputModule n = w.inputModule n :=
      rfl
    have frame : ({ ({ givePlace .A (Held.owned kindScan) w with arriving := [] } : State) with
        portA := s.portA, arriving := s.arriving } : State) = { w with portA := s.portA, arriving := s.arriving } := rfl
    rw [frame, pieces, modules]
    refine ⟨?_, ?_, fun n other => ?_, fun q other => ?_, ?_⟩
    · unfold State.onlyModules at whole ⊢
      rw [whole]
    · rw [within.inputModule_eq, State.setInputModule_inputModule_self, fed]
    · rw [modules, within.inputModule_eq, State.setInputModule_inputModule_ne _ _ other, ← hu,
        State.setInputModule_inputModule_ne _ _ other]
    · rw [pieces]
      exact elsewhere q other
    · rw [here]
      rcases Quality.eq_or r.quality with good | bad
      · obtain ⟨atDefn, atQuality, atContact, atCondition, atEvent⟩ := Point.reported_good defined good s.mode st
        refine ⟨atDefn, atQuality.trans good.symm, fun _ => ⟨atContact, fun derived => ?_, atEvent⟩, fun isBad => ?_⟩
        · exact (atCondition (derived p)).trans (PointDef.derive_eq pd r.contact)
        · exact nomatch good.symm.trans isBad
      · obtain ⟨atDefn, atQuality, atContact, atCondition, atEvent⟩ := Point.reported_bad defined bad s.mode st
        exact ⟨atDefn, atQuality.trans bad.symm, fun isGood => (nomatch isGood.symm.trans bad), fun _ => ⟨atContact, atCondition, atEvent⟩⟩
  · intro p pd named defined v st stamped x a told shown judged
    obtain ⟨bad, good⟩ := takeReport_parts named trx
    have delivered : deliverQuality p r.quality st true (s.raised m st) = judged :=
      deliverQuality_eq (s := s.raised m st) (v := v) rfl defined r.quality st
    refine ⟨((reportPoint_iff m r s p).mp named).1, fun isBad => ?_, fun isGood => ?_⟩
    · rw [← delivered]
      exact bad isBad
    · rw [← delivered]
      exact good isGood

end Sys2Proof.Machine

/-! SCAN frames: their module, their sequence, the TIME frames between reports (R29 to R35, R49). -/

namespace Sys2Proof.Machine

variable {s t u : State} {m : Fin 16}

/-! ### The module of a source address -/

theorem mem_enabledModules {d : ModuleDef} (enabled : (s.inputModule m).defn = some d) : m ∈ s.enabledModules := by
  refine List.mem_filter.mpr ⟨Table.mem_keys_of_get_ne (d := {}) fun initial => ?_, by rw [enabled]; rfl⟩
  have off : (s.inputModule m).defn = none := congrArg InputModule.defn initial
  rw [enabled] at off
  exact nomatch off

/-- A module holds an address. -/
def State.holds (s : State) (a : Byte) (m : Fin 16) : Prop := ∃ d, (s.inputModule m).defn = some d ∧ d.address = a.toNat

/-- The test by which `moduleAt` searches. -/
theorem moduleAt_test (s : State) (a : Byte) : ∃ q : Fin 16 → Bool, moduleAt s a = s.enabledModules.find? q ∧ ∀ m, q m = true ↔ s.holds a m := by
  refine ⟨_, rfl, fun m => ?_⟩
  unfold State.holds
  rcases Option.eq_none_or_eq_some (s.inputModule m).defn with off | ⟨d, on⟩
  · rw [off]
    exact ⟨nofun, fun ⟨_, on, _⟩ => nomatch on⟩
  · rw [on]
    exact decide_eq_true_iff.trans ⟨fun same => ⟨d, rfl, same⟩, fun ⟨e, is, same⟩ => Option.some.inj is ▸ same⟩

theorem moduleAt_holds {a : Byte} (found : moduleAt s a = some m) : s.holds a m := by
  obtain ⟨q, search, test⟩ := moduleAt_test s a
  exact (test m).mp (List.find?_some (search ▸ found))

theorem moduleAt_none (a : Byte) (s : State) : moduleAt s a = none ↔ ∀ m, ¬ s.holds a m := by
  obtain ⟨q, search, test⟩ := moduleAt_test s a
  rw [search, List.find?_eq_none]
  constructor
  · intro none m held
    obtain ⟨d, enabled, same⟩ := held
    exact none m (mem_enabledModules enabled) ((test m).mpr ⟨d, enabled, same⟩)
  · exact fun none m _ yes => none m ((test m).mp yes)

/-! ### A frame is taken whole -/

/-- The frame's place given up, and the TIME frames used up (R29, log entry 14). -/
def State.scanned (t : State) : State :=
  { t with arriving := [], portA := t.portA.withGiven t.settings.lowA (t.portA.buf.eraseP (Held.owned 0x11)) }

theorem exec_scanFrame {before after : List Held} {h : Held} (high : s.resetLow = false) (settled : s.flowSettled)
    (buffered : s.portA.buf = before ++ h :: after) (owned : Held.owned 0x11 h = true) (others : ∀ k ∈ before, Held.owned 0x11 k = false) :
    exec .scanFrame s = .next (takeScan s.arriving h s).scanned := by
  refine (running_high high _).trans (congrArg _ ((scanFrame_split buffered owned others).trans ?_))
  rw [givePlace_settled (p := .A) ((flowSettled_reports.takeScan s.arriving h settled).port .A)]
  rfl

/-! ### What the frame is -/

theorem takeScan_unknown {between : List (List TimeArrival)} {h : Held} (unknown : moduleAt s h.frame.src = none) :
    takeScan between h s = { s with unknownSource := saturate s.unknownSource } := by
  unfold takeScan
  rw [unknown]

theorem takeScan_malformed {between : List (List TimeArrival)} {h : Held} (source : moduleAt s h.frame.src = some m)
    (malformed : parseScan h.frame.payload = none) :
    takeScan between h s = s.setInputModule m { s.inputModule m with malformed := saturate (s.inputModule m).malformed } := by
  unfold takeScan
  rw [source]
  dsimp only
  rw [malformed]

theorem acceptScan_unseen {d : ModuleDef} (unseen : (s.inputModule m).state = .unseen) (between : List (List TimeArrival)) (seq : Nat)
    (rs : List Report) : acceptScan m d between seq rs s = takeOrdered m (orderReports rs) between
      (s.setInputModule m { s.inputModule m with supervision := some d.supervision, state := .live, lastSeq := some seq }) := by
  unfold acceptScan
  rw [unseen]
  dsimp only
  unfold setLastSeq
  rw [State.setInputModule_inputModule_self, State.setInputModule_setInputModule, State.setInputModule_inputModule_self,
    State.setInputModule_setInputModule]
  rfl

theorem clearAt_inputModule (w : Option (Fin 192)) (s : State) (m : Fin 16) : (clearAt w s).inputModule m = s.inputModule m := by
  have only := clearAt_touches w s
  unfold State.onlyAnnunciation at only
  rw [only]
  rfl

theorem offerNow_inputModule (k : RecordKind) (c : RecClass) (a v x : Nat) (s : State) (m : Fin 16) :
    (offerNow k c a v x s).inputModule m = s.inputModule m := by
  have only := offerNow_touches k c a v x s
  unfold State.onlyEvents at only
  rw [only]
  rfl

theorem acceptScan_silent {d : ModuleDef} (silent : (s.inputModule m).state = .silent) (between : List (List TimeArrival)) (seq : Nat)
    (rs : List Report) : acceptScan m d between seq rs s = takeOrdered m (orderReports rs) between
      ((offerNow .moduleLive .trip m.val 0 0 (clearAt d.window (s.setInputModule m
        { s.inputModule m with supervision := some d.supervision, state := .live }))).setInputModule m
          { s.inputModule m with supervision := some d.supervision, state := .live, lastSeq := some seq }) := by
  unfold acceptScan
  rw [silent]
  dsimp only
  unfold setLastSeq endSilence
  rw [offerNow_inputModule, clearAt_inputModule, State.setInputModule_inputModule_self, State.setInputModule_inputModule_self,
    State.setInputModule_setInputModule]
  rfl

theorem takeLive_again {last : Nat} (between : List (List TimeArrival)) (rs : List Report) (s : State) :
    takeLive m between last last rs s =
      s.setInputModule m { s.inputModule m with duplicates := saturate (s.inputModule m).duplicates } := if_pos rfl

theorem takeLive_gap {last seq : Nat} (gap : seq ≠ (last + 1) % 256) (new : seq ≠ last) (between : List (List TimeArrival))
    (rs : List Report) (s : State) : takeLive m between last seq rs s =
      takeReports m between rs (setLastSeq m seq (offerNow .moduleGap .alarm m.val 0 ((seq + 255 - last) % 256) s)) :=
  (if_neg new).trans (if_neg gap)

/-! ### An offer and the write of a module -/

theorem offerNow_setInputModule (k : RecordKind) (c : RecClass) (a v x : Nat) (s : State) (m : Fin 16) (w : InputModule) :
    offerNow k c a v x (s.setInputModule m w) = (offerNow k c a v x s).setInputModule m w := by
  have own := offerNow_touches k c a v x (s.setInputModule m w)
  have plain := offerNow_touches k c a v x s
  have events : (offerNow k c a v x (s.setInputModule m w)).events = (offerNow k c a v x s).events := by
    exact offer_events_congr _ rfl rfl rfl rfl
  have modules : (offerNow k c a v x s).modules = s.modules := by
    unfold State.onlyEvents at plain
    rw [plain]
  unfold State.onlyEvents at own plain
  rw [own, events]
  conv_rhs => rw [State.setInputModule, modules, plain]
  rfl

/-! ### TIME frames between reports -/

theorem timeArrives_within {a : TimeArrival} (room : u.portA.buf.length < 8) (named : a.dest.toNat = u.node ∨ a.dest = 255)
    (high : u.resetLow = false) :
    exec (.timeFrame a.dest a.src a.seq a.payload) { u with portA := { u.portA with rx := .withinFrame } } = .next (timeArrives a u) := by
  have accepted (v : State) (roomy : v.portA.buf.length < 8) (named : a.dest.toNat = v.node ∨ a.dest = 255) :
      timeArrives a v = acceptFrame .A (mkFrame a.dest a.src kindTime a.seq a.payload) (receiverFree .A v) := if_pos ⟨roomy, named⟩
  have arrives : timeFrame a.dest a.src a.seq a.payload { u with portA := { u.portA with rx := .withinFrame } } = timeArrives a u :=
    (if_pos rfl).trans ((accepted { u with portA := { u.portA with rx := .withinFrame } } room named).trans (accepted u room named).symm)
  rw [← arrives]
  exact running_high (s := { u with portA := { u.portA with rx := .withinFrame } }) high _

/-- A backward step lowers the receipt time of the frame that is being taken and clears every floor (R49). -/
theorem timeArrives_back {a : TimeArrival} {before after : List Held} {h : Held} (room : u.portA.buf.length < 8)
    (named : a.dest.toNat = u.node ∨ a.dest = 255) (buffered : u.portA.buf = before ++ h :: after) (owned : Held.owned 0x11 h = true)
    (others : ∀ k ∈ before, Held.owned 0x11 k = false) (six : a.payload.length = 6)
    (far : 10000 < u.time.station - natOfBytes a.payload) :
    (timeArrives a u).scanReceipt = min (h.trx.getD u.time.station) (natOfBytes a.payload) ∧
      ∀ m, ((timeArrives a u).inputModule m).floor = 0 := by
  have accepted : timeArrives a u = acceptFrame .A (mkFrame a.dest a.src kindTime a.seq a.payload) (receiverFree .A u) :=
    if_pos ⟨room, named⟩
  obtain ⟨v, w, only, -, buf, taken, gave, -, left⟩ :=
    (acceptFrame_time (s := receiverFree .A u) (f := mkFrame a.dest a.src kindTime a.seq a.payload) rfl named).place
  rw [← accepted] at gave left
  generalize (receiverFree .A u).place .A (mkFrame a.dest a.src kindTime a.seq a.payload)
    (decide ((mkFrame a.dest a.src kindTime a.seq a.payload).dest.toNat ≠ (receiverFree .A u).node)) = own at buf
  replace taken : TimeTaken a.payload v w := taken
  have station : v.time.station = u.time.station := by rw [only]; rfl
  have far' : 10000 < v.time.station - natOfBytes a.payload := station ▸ far
  obtain ⟨now, -, -, lowered, -⟩ := taken.back six far'
  have time : (timeArrives a u).time.station = natOfBytes a.payload := by rw [gave]; exact now
  refine ⟨?_, fun m => ?_⟩
  · have receipts : w.portA.buf = before.map (Held.lower (natOfBytes a.payload)) ++ h.lower (natOfBytes a.payload) ::
        (after ++ [own]).map (Held.lower (natOfBytes a.payload)) := by
      rw [lowered, buf]
      show ((u.portA.buf) ++ [own]).map _ = _
      rw [buffered, List.append_assoc, List.map_append]
      rfl
    have still : ∃ rest, (timeArrives a u).portA.buf = before.map (Held.lower (natOfBytes a.payload)) ++
        h.lower (natOfBytes a.payload) :: rest := by
      rw [left, receipts]
      split
      · refine ⟨((after ++ [own]).map (Held.lower (natOfBytes a.payload))).dropLast, ?_⟩
        rw [List.dropLast_append_of_ne_nil (List.cons_ne_nil _ _), List.dropLast_cons_of_ne_nil]
        exact mt List.map_eq_nil_iff.mp (List.append_ne_nil_of_right_ne_nil _ (List.cons_ne_nil _ _))
      · exact ⟨_, rfl⟩
    obtain ⟨rest, still⟩ := still
    have unowned (k : Held) (hk : k ∈ before.map (Held.lower (natOfBytes a.payload))) : Held.owned 0x11 k = false := by
      obtain ⟨x, hx, rfl⟩ := List.mem_map.mp hk
      exact others x hx
    rw [scanReceipt_eq still owned unowned, time]
    have before : natOfBytes a.payload ≤ u.time.station := by omega
    unfold Held.lower
    cases h.trx with
    | none => exact (min_eq_right before).symm
    | some x => rfl
  · rw [gave]
    exact taken.floors six far' m

/-! ### The payload -/

/-- Each four bytes of a payload's body are one report. -/
theorem reportsOf_parts (n : Nat) (body : List Byte) (whole : body.length = 4 * n) : (reportsOf body).length = n ∧
    ∀ (i : Nat) (r : Report), (reportsOf body)[i]? = some r →
      ∃ ch st hi lo : Byte, (body.drop (4 * i)).take 4 = [ch, st, hi, lo] ∧ r = reportOf ch st hi lo := by
  induction n generalizing body with
  | zero =>
    rw [List.eq_nil_of_length_eq_zero whole]
    exact ⟨rfl, fun i r hr => nomatch hr⟩
  | succ n ih =>
    match body, whole with
    | ch :: st :: hi :: lo :: rest, whole =>
      obtain ⟨count, parts⟩ := ih rest (by simpa [Nat.mul_succ] using whole)
      refine ⟨congrArg (· + 1) count, fun i r hr => ?_⟩
      cases i with
      | zero => exact ⟨ch, st, hi, lo, rfl, (Option.some.inj hr).symm⟩
      | succ i =>
        obtain ⟨a, b, c, d, bytes, eq⟩ := parts i r hr
        exact ⟨a, b, c, d, bytes, eq⟩

theorem parseScan_cons (b c : Byte) (body : List Byte) : parseScan (b :: c :: body) =
    if body.length = 4 * c.toNat ∧ c.toNat ≤ 48 then some (b.toNat, reportsOf body) else none := rfl

theorem natOfBytes_pair (hi lo : Byte) : natOfBytes [hi, lo] = hi.toNat * 256 + lo.toNat := by
  simp [natOfBytes]

/-- Settles O17. -/
theorem scanFrameMovesItsModule : Obligations.ScanFrameMovesItsModule := by
  refine ⟨fun a s => ⟨fun m => moduleAt_holds, ?_⟩, ?_, fun m u => ⟨fun _ => rfl, fun rs => takeOrdered_nil m rs u, fun r rs arrived between => rfl⟩,
    ?_, fun b c body => ⟨rfl, rfl, fun wrong => ?_, fun most whole => ?_⟩⟩
  · refine (moduleAt_none a s).trans ⟨fun none m d enabled same => none m ⟨d, enabled, same⟩, ?_⟩
    rintro none m ⟨d, enabled, same⟩
    exact none m d enabled same
  · intro before after h s high settled buffered owned others taken
    have row := exec_scanFrame high settled buffered owned others
    refine ⟨scanReceipt_eq buffered owned others, (nextOwned_split (p := .A) buffered owned others).2, fun unknown => ?_, ?_⟩
    · rw [row, takeScan_unknown unknown]
      rfl
    · intro m d source enabled v fed
      refine ⟨fun malformed => ?_, ?_⟩
      · rw [row, takeScan_malformed source malformed]
        rfl
      · intro seq rs parsed takes
        have accepted := parseScan_accepted source enabled parsed s.arriving
        rw [accepted] at row
        refine ⟨fun live known => ?_, fun last live known next new => ?_, fun last live known gap new => ?_, fun unseen => ?_, fun silent => ?_⟩
        · rw [row, acceptScan_live live known, takeLive_again, State.setInputModule_setInputModule, State.setInputModule_inputModule_self]
          rfl
        · refine row.trans (congrArg (fun w : State => Host.Outcome.next w.scanned) ?_)
          rw [acceptScan_live live known, takeLive_next next new]
          unfold setLastSeq takeReports
          rw [State.setInputModule_inputModule_self, State.setInputModule_setInputModule]
        · refine row.trans (congrArg (fun w : State => Host.Outcome.next w.scanned) ?_)
          rw [acceptScan_live live known, takeLive_gap gap new, offerNow_setInputModule]
          unfold setLastSeq takeReports
          rw [State.setInputModule_inputModule_self, State.setInputModule_setInputModule]
        · exact row.trans (congrArg (fun w : State => Host.Outcome.next w.scanned) (acceptScan_unseen unseen s.arriving seq rs))
        · exact row.trans (congrArg (fun w : State => Host.Outcome.next w.scanned) (acceptScan_silent silent s.arriving seq rs))
  · intro a before after h u high room named buffered owned others x
    exact ⟨timeArrives_within room named high, fun six far => timeArrives_back room named buffered owned others six far⟩
  · rw [parseScan_cons]
    exact if_neg fun both => by omega
  · obtain ⟨count, parts⟩ := reportsOf_parts c.toNat body whole
    refine ⟨reportsOf body, (parseScan_cons b c body).trans (if_pos ⟨whole, most⟩), count, fun i r hr => ?_⟩
    obtain ⟨ch, st, hi, lo, bytes, rfl⟩ := parts i r hr
    exact ⟨ch, st, hi, lo, bytes, rfl, rfl, rfl, rfl, natOfBytes_pair hi lo⟩

end Sys2Proof.Machine

/-! A module that falls silent, and its entry (R26 to R28, R39, R40). -/

namespace Sys2Proof.Machine

variable {s t u : State} {m : Fin 16} {p : Fin 1024}

/-! ### A point that goes BAD -/

/-- A point goes BAD, without a record (R7). -/
def State.bad (p : Fin 1024) (s : State) : State := tripDeliver p (s.setPoint p { s.point p with quality := .bad })

/-- A point that can go BAD: it is defined and GOOD. -/
def Point.spoils (v : Point) : Bool := v.defn.isSome && decide (v.quality = .good)

theorem Point.spoils_iff (v : Point) : v.spoils = true ↔ v.defn ≠ none ∧ v.quality = .good := by
  unfold Point.spoils
  rw [Bool.and_eq_true, Option.isSome_iff_ne_none, decide_eq_true_iff]

/-- The quality BAD of a point that is announced as it should be changes nothing else of the point (R8). -/
theorem PointDef.announce_bad {d : PointDef} {v : Point} (announced : v.announced = d.announce v v.announced) :
    d.announce { v with quality := .bad } v.announced = v.announced := by
  unfold PointDef.announce at announced ⊢
  dsimp only
  by_cases inhibited : d.inhibited = true
  · rw [if_pos inhibited] at announced ⊢
    exact announced.symm
  · rw [if_neg inhibited] at announced ⊢
    by_cases suppressed : v.suppressed = true
    · rw [if_pos suppressed] at announced ⊢
      exact announced.symm
    · rw [if_neg suppressed, if_pos rfl]

theorem deliverQuality_bad {v : Point} (here : s.point p = v) (announced : v.announcedIn s.mode) (st : Stamp) :
    deliverQuality p .bad st false s = if v.spoils then s.bad p else s := by
  rcases Option.eq_none_or_eq_some v.defn with undefined | ⟨d, defined⟩
  · rw [if_neg fun spoils => (v.spoils_iff.mp spoils).1 undefined]
    unfold deliverQuality
    rw [here, undefined]
  · rcases Quality.eq_or v.quality with good | isBad
    · have told : (s.bad p).point p = { v with quality := .bad } := by
        unfold State.bad
        rw [tripDeliver_point, State.setPoint_point_self, here]
      have mode : (s.bad p).mode = s.mode := tripDeliver_mode p _
      have standing : reannounce .standing p (s.bad p) = s.bad p := by
        rw [reannounce_standing_eq (d := d) told defined]
        refine if_pos ?_
        rw [mode]
        by_cases configuring : s.mode = .configuring
        · exact .inl configuring
        · exact .inr (PointDef.announce_bad ((announced d defined).2 configuring))
      have parts : deliverQuality p .bad st false s = if v.quality = .bad then s else reannounce .standing p (s.bad p) := by
        unfold deliverQuality State.bad
        rw [here, defined]
        exact if_congr eq_comm rfl rfl
      rw [parts, standing, if_neg (by rw [good]; nofun), if_pos (v.spoils_iff.mpr ⟨by rw [defined]; nofun, good⟩)]
    · rw [if_neg fun spoils => nomatch (v.spoils_iff.mp spoils).2.symm.trans isBad]
      unfold deliverQuality
      rw [here, defined]
      exact if_pos isBad.symm

/-! ### The points of a module go BAD -/

theorem State.bad_point (p j : Fin 1024) (s : State) : (s.bad p).point j = if j = p then { s.point p with quality := .bad } else s.point j := by
  unfold State.bad
  rw [tripDeliver_point, State.setPoint_point]

/-- A point with its quality BAD, where it is defined. -/
def Point.spoilt (v : Point) : Point := if v.spoils then { v with quality := .bad } else v

theorem Point.spoilt_eq (v : Point) : v.spoilt = if v.defn ≠ none then { v with quality := .bad } else v := by
  unfold Point.spoilt
  rcases Quality.eq_or v.quality with good | isBad
  · exact if_congr (v.spoils_iff.trans (and_iff_left good)) rfl rfl
  · rw [if_neg fun spoils => nomatch (v.spoils_iff.mp spoils).2.symm.trans isBad]
    split
    · cases v
      cases isBad
      rfl
    · rfl

theorem Point.spoilt_spoilt (v : Point) : v.spoilt.spoilt = v.spoilt := by
  conv_lhs => rw [Point.spoilt]
  refine if_neg fun spoils => ?_
  have both := v.spoilt.spoils_iff.mp spoils
  rw [Point.spoilt_eq] at both
  split at both
  · exact nomatch both.2
  · rename_i undefined
    exact undefined both.1

/-- A point goes BAD where it is GOOD and defined. -/
def State.spoil (p : Fin 1024) (s : State) : State := if (s.point p).spoils then s.bad p else s

theorem spoil_point (p j : Fin 1024) (s : State) : (s.spoil p).point j = if j = p then (s.point p).spoilt else s.point j := by
  unfold State.spoil Point.spoilt
  split
  · exact State.bad_point p j s
  · split
    · rename_i same; rw [same]
    · rfl

theorem modulePointsBad_eq (announced : s.announcedDerived) :
    modulePointsBad m s = State.each (s.definedPoints.filter fun p => decide (moduleOf p = m)) (fun p s => s.spoil p) s := by
  refine State.each_congr (P := fun u => u.allPoints Point.announcedIn) (fun p _ u hu => announced_points.deliverQuality p .bad _ false hu)
    (fun p _ u hu => ?_) (show s.allPoints Point.announcedIn from announced)
  exact deliverQuality_bad rfl (hu p) _

theorem modulePointsBad_point (announced : s.announcedDerived) (p : Fin 1024) : (modulePointsBad m s).point p =
    if moduleOf p = m ∧ (s.point p).defn ≠ none then { s.point p with quality := .bad } else s.point p := by
  rw [modulePointsBad_eq announced]
  refine (State.each_updates (get := State.point) (φ := Point.spoilt) spoil_point Point.spoilt_spoilt _ s p).trans ?_
  have listed : p ∈ s.definedPoints.filter (fun p => decide (moduleOf p = m)) ↔ moduleOf p = m ∧ (s.point p).defn ≠ none := by
    rw [List.mem_filter, mem_definedPoints, Option.isSome_iff_ne_none, decide_eq_true_iff, and_comm]
  by_cases among : moduleOf p = m ∧ (s.point p).defn ≠ none
  · rw [if_pos (listed.mpr among), if_pos among, Point.spoilt_eq, if_pos among.2]
  · rw [if_neg (mt listed.mp among), if_neg among]

/-- An iteration over distinct entries that does nothing at some of them passes these by. -/
theorem State.each_passes {ι : Type} {f g : ι → State → State} {q : State → ι → Bool} (acts : ∀ i u, f i u = if q u i then g i u else u)
    (others : ∀ i j u, j ≠ i → q (f i u) j = q u j) {is : List ι} (once : is.Nodup) (s : State) :
    State.each is f s = State.each (is.filter fun i => q s i) g s := by
  induction is generalizing s with
  | nil => rfl
  | cons i is ih =>
    obtain ⟨absent, once⟩ := List.nodup_cons.mp once
    have later : (is.filter fun j => q (f i s) j) = is.filter fun j => q s j :=
      List.filter_congr fun j hj => others i j s fun same => absent (same ▸ hj)
    rw [State.each_cons, ih once, later, List.filter_cons, acts]
    split
    · rfl
    · rfl

theorem modulePointsBad_ascending (announced : s.announcedDerived) (canonical : Table.wf {} s.points = true) :
    modulePointsBad m s = State.each ((List.finRange 1024).filter fun p =>
      decide (moduleOf p = m ∧ (s.point p).defn ≠ none ∧ (s.point p).quality = .good)) (fun p s => s.bad p) s := by
  have listed : (s.definedPoints.filter fun p => decide (moduleOf p = m)).Nodup := (definedPoints_once canonical).filter _
  have passed := State.each_passes (f := fun p s => s.spoil p) (g := fun p s => s.bad p) (q := fun u p => (u.point p).spoils)
    (fun _ _ => rfl) (fun i j u other => by rw [spoil_point, if_neg other]) listed s
  rw [modulePointsBad_eq announced, passed, definedPoints_filter canonical, List.filter_filter]
  generalize List.finRange 1024 = ps
  refine congrFun (congrFun (congrArg State.each (List.filter_congr fun p _ => ?_)) _) _
  rw [Bool.eq_iff_iff, Bool.and_eq_true, Bool.and_eq_true, Point.spoils_iff, decide_eq_true_iff, decide_eq_true_iff,
    Option.isSome_iff_ne_none]
  tauto

theorem canonical_points (canonical : s.canonical = true) : Table.wf {} s.points = true := by
  unfold State.canonical at canonical
  simp only [Bool.and_eq_true] at canonical
  tauto

/-- Where no element is defined the points alone change. -/
theorem modulePointsBad_alone (announced : s.announcedDerived) (none : ∀ e, (s.element e).defn = none) :
    modulePointsBad m s = { s with points := (modulePointsBad m s).points } := by
  rw [modulePointsBad_eq announced]
  refine State.each_keeps (P := fun u : State => u = { s with points := u.points }) (fun p u only => ?_) _ s rfl
  unfold State.spoil
  split
  · unfold State.bad
    rw [tripDeliver_unlisted fun e x defined => ?_, only]
    · rfl
    · rw [only] at defined
      exact nomatch (none e).symm.trans defined
  · exact only

/-- In CONFIGURING the points and the elements alone change. -/
theorem modulePointsBad_configuring (announced : s.announcedDerived) (configuring : s.mode = .configuring) :
    modulePointsBad m s = { s with points := (modulePointsBad m s).points, elements := (modulePointsBad m s).elements } := by
  rw [modulePointsBad_eq announced]
  refine State.each_keeps (P := fun u : State => u = { s with points := u.points, elements := u.elements }) (fun p u only => ?_) _ s rfl
  have mode : u.mode = .configuring := by rw [only]; exact configuring
  unfold State.spoil
  split
  · unfold State.bad
    rw [tripDeliver_configuring p (s := u.setPoint p { u.point p with quality := .bad }) mode, only]
    rfl
  · exact only

theorem modulePointsBad_inputModule (m n : Fin 16) (s : State) : (modulePointsBad m s).inputModule n = s.inputModule n :=
  (modulePointsBad_touches m s).inputModule_eq n

theorem State.onlyAnnunciation.inputModule_eq (only : s.onlyAnnunciation t) (n : Fin 16) : t.inputModule n = s.inputModule n := by
  unfold State.onlyAnnunciation at only
  rw [only]
  rfl

theorem State.onlyAnnunciation.point_eq (only : s.onlyAnnunciation t) (p : Fin 1024) : t.point p = s.point p := by
  unfold State.onlyAnnunciation at only
  rw [only]
  rfl

/-- Settles O19. -/
theorem moduleFallsSilent : Obligations.ModuleFallsSilent := by
  intro m d s high announced enabled speaks due silent bad u
  have fallen : supervisionExpiry m s = activateAt d.window none (offerNow .moduleSilent .trip m.val 0 0 u) := by
    unfold supervisionExpiry
    rw [enabled]
    exact if_pos ⟨by rw [due]; rfl, speaks⟩
  have announced' : silent.announcedDerived := announced
  have shown : u.onlyAnnunciation (activateAt d.window none (offerNow .moduleSilent .trip m.val 0 0 u)) :=
    (offerNow_touches _ _ _ _ _ _).ann.trans (activateAt_touches _ _ _)
  have modules (n : Fin 16) : u.inputModule n = silent.inputModule n := modulePointsBad_inputModule m n silent
  have own := setInputModule_touches m { s.inputModule m with state := .silent, supervision := none } s
  refine ⟨_, (running_high high _).trans (congrArg _ fallen), rfl, ?_, ?_, fun n other => ?_, fun p => ?_, fun canonical => ?_, fun none => ?_⟩
  · exact own.trans ((modulePointsBad_touches m silent).modules.trans shown.channels.elements.points.modules)
  · rw [shown.inputModule_eq, modules]
    exact State.setInputModule_inputModule_self _ _ _
  · rw [shown.inputModule_eq, modules]
    exact State.setInputModule_inputModule_ne _ _ other
  · rw [shown.point_eq]
    exact modulePointsBad_point announced' p
  · exact modulePointsBad_ascending announced' (canonical_points (s := s) canonical)
  · have alone : u = { silent with points := u.points } := modulePointsBad_alone announced' none
    have tables : u.modules = silent.modules := by rw [alone]
    unfold State.onlyAnnunciation at shown
    have modulesOf : (activateAt d.window Option.none (offerNow .moduleSilent .trip m.val 0 0 u)).modules = silent.modules := by
      rw [shown]; exact tables
    have pointsOf : (activateAt d.window Option.none (offerNow .moduleSilent .trip m.val 0 0 u)).points = u.points := by
      rw [shown]
    rw [modulesOf, pointsOf]
    exact alone

/-! ### Module entries -/

section
variable {k : Nat}

theorem writeModule_define {e : List Byte} {d : ModuleDef} (configuring : s.mode = .configuring) (named : k = m.val)
    (read : readModule e = some (some d)) (free : moduleAddressTaken s m d.address = false)
    (room : windowFull s (fun w => moduleNames s w m) d.window = false) : writeModule k e s = accept (applyModuleWrite m d s) := by
  unfold writeModule
  rw [if_neg (not_not.mpr (readModule_length (by rw [read]; nofun))), if_neg (not_not.mpr configuring), finOf_of named, read]
  dsimp only
  rw [free, room]
  rfl

theorem writeModule_undefine {e : List Byte} (configuring : s.mode = .configuring) (named : k = m.val) (read : readModule e = some none) :
    writeModule k e s = accept (applyModuleClear m s) := by
  unfold writeModule
  rw [if_neg (not_not.mpr (readModule_length (by rw [read]; nofun))), if_neg (not_not.mpr configuring), finOf_of named, read]

theorem clearModule_named (configuring : s.mode = .configuring) (named : k = m.val) : clearModule k s = accept (applyModuleClear m s) := by
  unfold clearModule
  rw [if_neg (not_not.mpr configuring), finOf_of named]

end

/-- A module without its entry (R28). -/
def InputModule.disabled (v : InputModule) : InputModule := { v with defn := none, state := .unseen, lastSeq := none, supervision := none }

theorem applyModuleClear_eq {old : ModuleDef} (enabled : (s.inputModule m).defn = some old) :
    applyModuleClear m s = clearSilence (s.inputModule m) (modulePointsBad m (s.setInputModule m (s.inputModule m).disabled)) := by
  unfold applyModuleClear
  dsimp only
  rw [enabled]
  rfl

theorem applyModuleClear_none (off : (s.inputModule m).defn = none) : applyModuleClear m s = s := by
  unfold applyModuleClear
  dsimp only
  rw [off]

theorem applyModuleWrite_new (off : (s.inputModule m).defn = none) (d : ModuleDef) :
    applyModuleWrite m d s = s.setInputModule m ((s.inputModule m).enabled d) := by
  unfold applyModuleWrite
  rw [off]

theorem applyModuleWrite_same {old d : ModuleDef} (enabled : (s.inputModule m).defn = some old) (same : old.address = d.address) :
    applyModuleWrite m d s = rewriteModule m old d s := by
  unfold applyModuleWrite
  rw [enabled]
  exact if_pos same

theorem applyModuleWrite_other {old d : ModuleDef} (enabled : (s.inputModule m).defn = some old) (other : old.address ≠ d.address) :
    applyModuleWrite m d s = (applyModuleClear m s).setInputModule m (((applyModuleClear m s).inputModule m).enabled d) := by
  unfold applyModuleWrite
  rw [enabled]
  exact if_neg other

theorem clearSilence_eq {v : InputModule} {old : ModuleDef} (enabled : v.defn = some old) (s : State) :
    clearSilence v s = if v.state = .silent then clearAt old.window s else s := by
  obtain ⟨defn, state, _, _, _, _, _, _⟩ := v
  cases enabled
  cases state with
  | unseen => rfl
  | live => rfl
  | silent => rfl

/-- What a clear of an enabled module's entry leaves of modules and points (R28). -/
theorem applyModuleClear_parts {old : ModuleDef} (announced : s.announcedDerived) (enabled : (s.inputModule m).defn = some old) :
    (∀ n, n ≠ m → (applyModuleClear m s).inputModule n = s.inputModule n) ∧
      (applyModuleClear m s).inputModule m = (s.inputModule m).disabled ∧
      ∀ p, (applyModuleClear m s).point p =
        if moduleOf p = m ∧ (s.point p).defn ≠ none then { s.point p with quality := .bad } else s.point p := by
  rw [applyModuleClear_eq enabled]
  have shown := clearSilence_touches (s.inputModule m) (modulePointsBad m (s.setInputModule m (s.inputModule m).disabled))
  refine ⟨fun n other => ?_, ?_, fun p => ?_⟩
  · rw [shown.inputModule_eq, modulePointsBad_inputModule]
    exact State.setInputModule_inputModule_ne _ _ other
  · rw [shown.inputModule_eq, modulePointsBad_inputModule]
    exact State.setInputModule_inputModule_self _ _ _
  · rw [shown.point_eq]
    exact modulePointsBad_point (s := s.setInputModule m (s.inputModule m).disabled) announced p

theorem clearAt_count (name : Option (Fin 192)) (w : Fin 192) (s : State) :
    ((clearAt name s).window w).count = (s.window w).count - (if name = some w then 1 else 0) := by
  cases name with
  | none => rfl
  | some j =>
    have counted := clearSource_counts j s
    by_cases same : j = w
    · subst same
      rw [if_pos rfl]
      exact counted.1
    · rw [if_neg fun eq => same (Option.some.inj eq)]
      exact congrArg Window.count (counted.2.2 w fun eq => same eq.symm)

theorem applyModuleClear_count {old : ModuleDef} (announced : s.announcedDerived) (configuring : s.mode = .configuring)
    (enabled : (s.inputModule m).defn = some old) (w : Fin 192) : ((applyModuleClear m s).window w).count =
      (s.window w).count - (if (s.inputModule m).state = .silent ∧ old.window = some w then 1 else 0) := by
  have windows : (modulePointsBad m (s.setInputModule m (s.inputModule m).disabled)).window w = s.window w := by
    rw [modulePointsBad_configuring (s := s.setInputModule m (s.inputModule m).disabled) announced configuring]
    rfl
  rw [applyModuleClear_eq enabled, clearSilence_eq enabled]
  by_cases silent : (s.inputModule m).state = .silent
  · rw [if_pos silent, clearAt_count, windows]
    exact congrArg _ (if_congr (and_iff_right silent).symm rfl rfl)
  · rw [if_neg silent, windows, if_neg fun both => silent both.1]
    rfl

/-- Settles O20. -/
theorem moduleEntryIsWrittenAndCleared : Obligations.ModuleEntryIsWrittenAndCleared := by
  intro src index m s ready configuring announced named v
  refine ⟨fun entry d read free room => ?_, ?_⟩
  · have row : exec (.writeModule src index entry) s = .next ((applyModuleWrite m d s).answered src (entryOk 0x02 .module index)) := by
      rw [exec_of_ready (c := .writeModule src index entry) rfl ready]
      dsimp only
      rw [writeModule_define configuring named read free room, entryReply_accept]
    refine ⟨fun off => ?_, fun old enabled same speaks => ?_, fun old enabled same silent => ?_, fun old enabled other => ?_⟩
    · rw [row, applyModuleWrite_new off]
      rfl
    · rw [row, applyModuleWrite_same enabled same]
      unfold rewriteModule
      dsimp only
      rw [if_neg speaks, if_neg fun both => speaks both.1]
    · rw [row, applyModuleWrite_same enabled same]
      unfold rewriteModule
      dsimp only
      rw [if_pos silent]
      by_cases kept : old.window = d.window
      · rw [if_pos kept, if_neg fun both => both.2 kept]
      · rw [if_neg kept, if_pos ⟨silent, kept⟩]
    · obtain ⟨others, own, points⟩ := applyModuleClear_parts announced enabled
      refine ⟨_, row, applyModuleWrite_touches m d s, ?_⟩
      rw [applyModuleWrite_other enabled other, own]
      refine ⟨fun n away => ?_, State.setInputModule_inputModule_self _ _ _, points⟩
      exact (State.setInputModule_inputModule_ne _ _ away).trans (others n away)
  · intro clears
    have row : clears (applyModuleClear m s) := by
      refine ⟨?_, fun rest length => ?_⟩
      · rw [exec_of_ready (c := .clearModule src index) rfl ready]
        dsimp only
        rw [clearModule_named configuring named, entryReply_accept]
      · rw [exec_of_ready (c := .writeModule src index (0x00 :: rest)) rfl ready]
        dsimp only
        rw [writeModule_undefine configuring named (readModule_no length), entryReply_accept]
    refine ⟨fun off => ?_, fun old enabled => ?_⟩
    · rw [applyModuleClear_none off] at row
      exact row
    · obtain ⟨others, own, points⟩ := applyModuleClear_parts announced enabled
      exact ⟨_, row, applyModuleClear_touches m s, others, own, points, applyModuleClear_count announced configuring enabled⟩

end Sys2Proof.Machine

/-! The moves of an element (R105 to R119). -/

namespace Sys2Proof.Machine

variable {s t u : State} {e : Fin 64} {d : ElementDef} {k : Taking}

/-! ### One element moves -/

/-- Among the elements, at most `e` changes. -/
def State.shifts (s : State) (e : Fin 64) (t : State) : Prop := s.onlyElements t ∧ ∀ j, j ≠ e → t.element j = s.element j

theorem State.shifts.refl (s : State) (e : Fin 64) : s.shifts e s := ⟨.refl s, fun _ _ => rfl⟩

theorem State.shifts.trans (h : s.shifts e t) (k : t.shifts e u) : s.shifts e u :=
  ⟨h.1.trans k.1, fun j other => (k.2 j other).trans (h.2 j other)⟩

theorem setElement_shifts (e : Fin 64) (v : Element) (s : State) : s.shifts e (s.setElement e v) :=
  ⟨rfl, fun _ other => State.setElement_element_ne s v other⟩

theorem State.onlyChannels.elements_eq (only : s.onlyChannels t) : t.elements = s.elements := by
  unfold State.onlyChannels at only
  rw [only]

theorem State.onlyChannels.element_eq (only : s.onlyChannels t) (j : Fin 64) : t.element j = s.element j := by
  unfold State.element
  rw [only.elements_eq]

theorem State.onlyElements.point_eq (only : s.onlyElements t) (p : Fin 1024) : t.point p = s.point p := by
  unfold State.onlyElements at only
  rw [only]
  rfl

/-! ### What follows a move -/

/-- The records of a move, offered in order (R114). -/
def recordsOf (e : Fin 64) (sum : Nat) (records : List RecordKind) (s : State) : State :=
  State.each records (fun k s => offerNow k .trip e.val sum 0 s) s

/-- A change of output delivered to each target in list order (R113). -/
def targetsTake (taking : Taking) (d : ElementDef) (changes : Option Bool) (s : State) : State :=
  match changes with
  | some asserted => State.each d.targets (deliverDemand taking asserted) s
  | none => s

theorem recordsOf_touches (e : Fin 64) (sum : Nat) (records : List RecordKind) (s : State) : s.onlyEvents (recordsOf e sum records s) :=
  State.each_rel State.onlyEvents.refl State.onlyEvents.trans (fun _ _ => offerNow_touches _ _ _ _ _ _) _ s

theorem targetsTake_touches (taking : Taking) (d : ElementDef) (changes : Option Bool) (s : State) :
    s.onlyChannels (targetsTake taking d changes s) := by
  cases changes with
  | none => exact .refl s
  | some asserted => exact State.each_rel State.onlyChannels.refl State.onlyChannels.trans (fun c s => deliverDemand_touches taking asserted c s) _ s

/-- The output before and after a move, where it changes. -/
def Move.changes (mv : Move) (el : Element) : Option Bool :=
  if el.state.asserted = mv.state.asserted then none else some mv.state.asserted

theorem performMove_eq (taking : Taking) (e : Fin 64) (d : ElementDef) (mv : Move) (s : State) :
    performMove taking e d mv s = targetsTake taking d (mv.changes (s.element e)) (recordsOf e (s.element e).sum mv.records
      (s.setElement e { s.element e with state := mv.state, timer := mv.timer })) := by
  unfold performMove Move.changes
  by_cases same : (s.element e).state.asserted = mv.state.asserted
  · rw [if_pos same, if_pos same]
    rfl
  · rw [if_neg same, if_neg same]
    rfl

theorem performMove_channels (taking : Taking) (e : Fin 64) (d : ElementDef) (mv : Move) (s : State) :
    (s.setElement e { s.element e with state := mv.state, timer := mv.timer }).onlyChannels (performMove taking e d mv s) := by
  rw [performMove_eq]
  exact (recordsOf_touches _ _ _ _).ann.channels.trans (targetsTake_touches _ _ _ _)

theorem performMove_element (taking : Taking) (e : Fin 64) (d : ElementDef) (mv : Move) (s : State) :
    (performMove taking e d mv s).element e = { s.element e with state := mv.state, timer := mv.timer } :=
  ((performMove_channels taking e d mv s).element_eq e).trans (State.setElement_element_self _ _ _)

theorem performMove_shifts (taking : Taking) (e : Fin 64) (d : ElementDef) (mv : Move) (s : State) :
    s.shifts e (performMove taking e d mv s) :=
  ⟨performMove_touches taking e d mv s, fun _ other =>
    ((performMove_channels taking e d mv s).element_eq _).trans (State.setElement_element_ne _ _ other)⟩

theorem evaluateOnce_move {mv : Move} (defined : (s.element e).defn = some d) (move : (s.element e).nextMove d = some mv) (taking : Taking) :
    evaluateOnce taking e s = performMove taking e d mv s := by
  unfold evaluateOnce
  rw [defined]
  dsimp only
  rw [move]

theorem evaluateOnce_none (rests : ∀ d, (s.element e).defn = some d → (s.element e).nextMove d = none) (taking : Taking) :
    evaluateOnce taking e s = s := by
  unfold evaluateOnce
  rcases Option.eq_none_or_eq_some (s.element e).defn with undefined | ⟨d, defined⟩
  · rw [undefined]
  · rw [defined]
    dsimp only
    rw [rests d defined]

theorem evaluateElement_move {mv : Move} (defined : (s.element e).defn = some d) (move : (s.element e).nextMove d = some mv) (taking : Taking) :
    evaluateElement taking e s = moveAndInstall taking e d mv s := by
  unfold evaluateElement
  rw [defined]
  dsimp only
  rw [move]

theorem evaluateElement_none (rests : ∀ d, (s.element e).defn = some d → (s.element e).nextMove d = none) (taking : Taking) :
    evaluateElement taking e s = s := by
  unfold evaluateElement
  rcases Option.eq_none_or_eq_some (s.element e).defn with undefined | ⟨d, defined⟩
  · rw [undefined]
  · rw [defined]
    dsimp only
    rw [rests d defined]

/-- An evaluation moves an element or leaves it as it is. -/
theorem moves_or_rests (e : Fin 64) (s : State) : (∃ d mv, (s.element e).defn = some d ∧ (s.element e).nextMove d = some mv) ∨
    ∀ d, (s.element e).defn = some d → (s.element e).nextMove d = none := by
  rcases Option.eq_none_or_eq_some (s.element e).defn with undefined | ⟨d, defined⟩
  · exact .inr fun d defined => nomatch undefined.symm.trans defined
  · rcases Option.eq_none_or_eq_some ((s.element e).nextMove d) with rests | ⟨mv, move⟩
    · refine .inr fun x is => ?_
      rw [← Option.some.inj (defined.symm.trans is)]
      exact rests
    · exact .inl ⟨d, mv, defined, move⟩

theorem evaluateOnce_shifts (taking : Taking) (e : Fin 64) (s : State) : s.shifts e (evaluateOnce taking e s) ∧
    (evaluateOnce taking e s).element e = { s.element e with
      state := ((evaluateOnce taking e s).element e).state, timer := ((evaluateOnce taking e s).element e).timer } := by
  rcases moves_or_rests e s with ⟨d, mv, defined, move⟩ | rests
  · rw [evaluateOnce_move defined move]
    refine ⟨performMove_shifts taking e d mv s, ?_⟩
    rw [performMove_element]
  · rw [evaluateOnce_none rests]
    exact ⟨.refl s e, rfl⟩

theorem moveAndInstall_stays {mv : Move} (stays : mv.state ≠ .idle ∨ (s.element e).pending = .none) (taking : Taking) (d : ElementDef) :
    moveAndInstall taking e d mv s = performMove taking e d mv s := by
  unfold moveAndInstall
  dsimp only
  split
  · rename_i idle
    have empty : ((performMove taking e d mv s).element e).pending = .none := by
      rw [performMove_element]
      exact stays.resolve_left (not_not.mpr idle)
    unfold installPending
    rw [empty]
  · rfl

theorem moveAndInstall_clears {mv : Move} (idle : mv.state = .idle) (clear : (s.element e).pending = .clear) (taking : Taking) (d : ElementDef) :
    moveAndInstall taking e d mv s = (performMove taking e d mv s).setElement e {} := by
  unfold moveAndInstall
  dsimp only
  rw [if_pos idle]
  have held : ((performMove taking e d mv s).element e).pending = .clear := by rw [performMove_element]; exact clear
  unfold installPending
  rw [held]
  rfl

theorem installDefinition_eq (e : Fin 64) (x : ElementDef) (s : State) :
    installDefinition e x s = s.setElement e ((s.element e).installed s x) := rfl

theorem Element.installed_congr {x : ElementDef} (el : Element) (points : ∀ p, t.point p = s.point p) : el.installed t x = el.installed s x := by
  unfold Element.installed
  dsimp only
  have same : (fun i : ElementInput => computeInput x.policy i (t.point i.point) (inheritedHeld el.defn el i)) =
      fun i => computeInput x.policy i (s.point i.point) (inheritedHeld el.defn el i) := funext fun i => by rw [points]
  rw [same]

theorem moveAndInstall_installs {mv : Move} {x : ElementDef} (idle : mv.state = .idle) (pending : (s.element e).pending = .definition x)
    (taking : Taking) (d : ElementDef) : moveAndInstall taking e d mv s =
      evaluateOnce taking e ((performMove taking e d mv s).setElement e
        (({ s.element e with state := mv.state, timer := mv.timer } : Element).installed s x)) := by
  unfold moveAndInstall
  dsimp only
  rw [if_pos idle]
  have held : ((performMove taking e d mv s).element e).pending = .definition x := by rw [performMove_element]; exact pending
  unfold installPending
  rw [held]
  dsimp only
  rw [installDefinition_eq, performMove_element, Element.installed_congr _ (performMove_touches taking e d mv s).point_eq]

theorem evaluateElement_once (empty : (s.element e).pending = .none) (taking : Taking) : evaluateElement taking e s = evaluateOnce taking e s := by
  rcases moves_or_rests e s with ⟨d, mv, defined, move⟩ | rests
  · rw [evaluateElement_move defined move, evaluateOnce_move defined move, moveAndInstall_stays (.inr empty)]
  · rw [evaluateElement_none rests, evaluateOnce_none rests]

theorem moveAndInstall_shifts (taking : Taking) (e : Fin 64) (d : ElementDef) (mv : Move) (s : State) :
    s.shifts e (moveAndInstall taking e d mv s) := by
  by_cases idle : mv.state = .idle
  · cases pending : (s.element e).pending with
    | none =>
      rw [moveAndInstall_stays (.inr pending)]
      exact performMove_shifts taking e d mv s
    | definition x =>
      rw [moveAndInstall_installs idle pending]
      exact (performMove_shifts taking e d mv s).trans ((setElement_shifts e _ _).trans (evaluateOnce_shifts taking e _).1)
    | clear =>
      rw [moveAndInstall_clears idle pending]
      exact (performMove_shifts taking e d mv s).trans (setElement_shifts e _ _)
  · rw [moveAndInstall_stays (.inl idle)]
    exact performMove_shifts taking e d mv s

theorem evaluateElement_shifts (taking : Taking) (e : Fin 64) (s : State) : s.shifts e (evaluateElement taking e s) := by
  rcases moves_or_rests e s with ⟨d, mv, defined, move⟩ | rests
  · rw [evaluateElement_move defined move]
    exact moveAndInstall_shifts taking e d mv s
  · rw [evaluateElement_none rests]
    exact .refl s e

/-! ### A delivery -/

theorem elementTakes_listed {p : Fin 1024} (defined : (s.element e).defn = some d) (lists : d.lists p = true) : elementTakes p e s =
    if s.mode = .configuring then s.setElement e ((s.element e).refresh d p (s.point p))
    else evaluateElement .moves e (s.setElement e ((s.element e).refresh d p (s.point p))) := by
  unfold elementTakes
  rw [defined]
  exact if_pos lists

theorem elementTakes_unlisted {p : Fin 1024} (defined : (s.element e).defn = some d) (lists : d.lists p = false) : elementTakes p e s = s := by
  unfold elementTakes
  rw [defined]
  exact if_neg (by rw [lists]; nofun)

theorem elementTakes_shifts (p : Fin 1024) (e : Fin 64) (s : State) : s.shifts e (elementTakes p e s) := by
  rcases Option.eq_none_or_eq_some (s.element e).defn with undefined | ⟨d, defined⟩
  · unfold elementTakes
    rw [undefined]
    exact .refl s e
  · cases lists : d.lists p with
    | true =>
      rw [elementTakes_listed defined lists]
      split
      · exact setElement_shifts e _ s
      · exact (setElement_shifts e _ s).trans (evaluateElement_shifts .moves e _)
    | false =>
      rw [elementTakes_unlisted defined lists]
      exact .refl s e

/-- An iteration over distinct entries, each step of which acts at one entry as it first stood, passes by those at which it does nothing. -/
theorem State.each_selected {ι α : Type} {f g : ι → State → State} {q : ι → Bool} {get : State → ι → α} {P : State → Prop}
    (keeps : ∀ i u, P u → P (f i u)) (others : ∀ i j u, j ≠ i → get (f i u) j = get u j) {is : List ι} (once : is.Nodup) {s t : State}
    (acts : ∀ i ∈ is, ∀ u, P u → get u i = get s i → f i u = if q i then g i u else u) (start : ∀ i ∈ is, get t i = get s i) (h : P t) :
    State.each is f t = State.each (is.filter q) g t := by
  induction is generalizing t with
  | nil => rfl
  | cons i is ih =>
    obtain ⟨absent, once⟩ := List.nodup_cons.mp once
    have here := acts i List.mem_cons_self t h (start i List.mem_cons_self)
    have rest := ih once (fun j hj => acts j (List.mem_cons_of_mem i hj)) (fun j hj =>
      (others i j t fun same => absent (same ▸ hj)).trans (start j (List.mem_cons_of_mem i hj))) (keeps i t h)
    rw [State.each_cons, rest, here, List.filter_cons]
    split
    · rfl
    · rfl

end Sys2Proof.Machine

/-! The Trip Matrix: evaluations, expiries, entries and forces (R105 to R119). -/

namespace Sys2Proof.Machine

variable {s t u : State} {e : Fin 64} {d : ElementDef} {k : Taking}

/-! ### Evaluations -/

/-- What an evaluation that makes a move leaves: the move, its records and the change of output, then what was pending (R106, R118). -/
def Moved (taking : Taking) (e : Fin 64) (d : ElementDef) (s : State) (state : ElementState) (timer : Option Nat) (records : List RecordKind)
    (changes : Option Bool) : Prop :=
  let el := s.element e
  let w := targetsTake taking d changes (recordsOf e el.sum records (s.setElement e { el with state := state, timer := timer }))
  w.element e = { el with state := state, timer := timer } ∧
    (state ≠ .idle ∨ el.pending = .none → evaluateElement taking e s = w) ∧
    (state = .idle → el.pending = .clear → evaluateElement taking e s = w.setElement e {}) ∧
    ∀ x, state = .idle → el.pending = .definition x →
      evaluateElement taking e s = evaluateElement taking e (w.setElement e (({ el with state := .idle, timer := timer } : Element).installed s x))

theorem evaluateElement_moved {mv : Move} {changes : Option Bool} (defined : (s.element e).defn = some d)
    (move : (s.element e).nextMove d = some mv) (output : mv.changes (s.element e) = changes) (taking : Taking) :
    Moved taking e d s mv.state mv.timer mv.records changes := by
  have performed := performMove_eq taking e d mv s
  rw [output] at performed
  have evaluated := evaluateElement_move defined move taking
  unfold Moved
  rw [evaluated]
  dsimp only
  rw [← performed]
  refine ⟨performMove_element taking e d mv s, fun stays => moveAndInstall_stays stays taking d, fun idle clear =>
    moveAndInstall_clears idle clear taking d, fun x idle pending => ?_⟩
  have empty (w : State) (v : Element) : ((w.setElement e (v.installed s x)).element e).pending = .none := by
    rw [State.setElement_element_self]
    rfl
  rw [moveAndInstall_installs idle pending, evaluateElement_once (empty _ _), idle]

theorem Element.nextMove_picked {el : Element} (picked : el.picked d = true) : el.nextMove d = pickedMove d.mode d.delay el.state := if_pos picked

theorem Element.nextMove_dropped {el : Element} (picked : el.picked d = false) (dropped : el.dropped d = true) :
    el.nextMove d = droppedMove d.mode d.delay el.state := (if_neg (by rw [picked]; nofun)).trans (if_pos dropped)

/-- The moves of a picked element out of IDLE to OPERATED (R107 to R109). -/
theorem pickedMove_operates {mode : DelayMode} {n : Nat} (at_once : mode = .instant ∨ mode = .offDelay ∨ (mode = .onDelay ∧ n = 0)) :
    pickedMove mode n .idle = some { state := .operated, timer := none, records := [.elementPickup, .elementOperate] } := by
  rcases at_once with rfl | rfl | ⟨rfl, rfl⟩
  · rfl
  · rfl
  · rfl

/-- The moves of a dropped element out of OPERATED to IDLE (R107 to R109). -/
theorem droppedMove_releases {mode : DelayMode} {n : Nat} (at_once : mode = .instant ∨ mode = .onDelay ∨ (mode = .offDelay ∧ n = 0)) :
    droppedMove mode n .operated = some { state := .idle, timer := none, records := [.elementRelease] } := by
  rcases at_once with rfl | rfl | ⟨rfl, rfl⟩
  · rfl
  · rfl
  · rfl

theorem pickedMove_rests (mode : DelayMode) (n : Nat) {st : ElementState} (other : st = .timing ∨ st = .operated ∨ st = .spent) :
    pickedMove mode n st = none := by
  rcases other with rfl | rfl | rfl
  · cases mode <;> rfl
  · cases mode <;> rfl
  · cases mode <;> rfl

theorem droppedMove_rests {mode : DelayMode} (n : Nat) {st : ElementState}
    (other : st = .idle ∨ st = .holding ∨ (st = .operated ∧ mode = .pulse)) : droppedMove mode n st = none := by
  rcases other with rfl | rfl | ⟨rfl, rfl⟩
  · cases mode <;> rfl
  · cases mode <;> rfl
  · rfl

theorem Move.changes_eq (mv : Move) {el : Element} {st : ElementState} (state : el.state = st) :
    mv.changes el = if st.asserted = mv.state.asserted then none else some mv.state.asserted := by
  rw [Move.changes, state]

theorem canonical_elements (canonical : s.canonical = true) : Table.wf {} s.elements = true := by
  unfold State.canonical at canonical
  simp only [Bool.and_eq_true] at canonical
  tauto

/-- Settles O36. -/
theorem evaluationMovesByTheDelayMode : Obligations.EvaluationMovesByTheDelayMode := by
  refine ⟨?_, ?_⟩
  · intro p s canonical v listing
    have tables := canonical_elements canonical
    have selected (q : Fin 64 → Bool) (g : Fin 64 → State → State)
        (acts : ∀ e, (s.element e).defn.isSome = true → ∀ u : State, u.mode = s.mode ∧ u.points = s.points → u.element e = s.element e →
          elementTakes p e u = if q e then g e u else u) (defined : ∀ e, q e = true → (s.element e).defn.isSome = true) :
        tripDeliver p s = State.each ((List.finRange 64).filter q) g s := by
      have all := State.each_selected (P := fun u => u.mode = s.mode ∧ u.points = s.points) (get := State.element) (s := s) (t := s)
        (f := elementTakes p) (g := g) (q := q) (fun e u h => ?_) (fun i j u other => (elementTakes_shifts p i u).2 j other)
        (definedElements_once tables) (fun e he u h here => acts e ((mem_definedElements s e).mp he) u h here) (fun _ _ => rfl) ⟨rfl, rfl⟩
      · refine all.trans ?_
        rw [definedElements_eq tables, List.filter_filter]
        refine congrFun (congrFun (congrArg State.each (List.filter_congr fun e _ => ?_)) _) _
        cases chosen : q e with
        | true => rw [defined e chosen]; rfl
        | false => rfl
      · have keeps := (tripDeliver_keeps p u)
        have only := elementTakes_touches p e u
        unfold State.onlyElements at only
        rw [only]
        exact h
    refine selected _ _ (fun e isDefined u same here => ?_) fun e chosen => ?_
    · obtain ⟨d, defined⟩ := Option.isSome_iff_exists.mp isDefined
      have points : u.point p = s.point p := by unfold State.point; rw [same.2]
      dsimp only
      rw [defined]
      dsimp only
      cases lists : d.lists p with
      | true =>
        rw [elementTakes_listed (here ▸ defined) lists, same.1, points]
        exact (if_pos lists).symm
      | false =>
        rw [elementTakes_unlisted (here ▸ defined) lists]
        exact (if_neg (by rw [show d.inputs.any _ = false from lists]; nofun)).symm
    · rcases Option.eq_none_or_eq_some (s.element e).defn with undefined | ⟨d, defined⟩
      · rw [undefined] at chosen
        exact nomatch chosen
      · rw [defined]
        rfl
  · intro taking e d s defined el t moved
    refine ⟨fun picked => ?_, fun picked dropped => ?_⟩
    · have next : el.nextMove d = pickedMove d.mode d.delay el.state := Element.nextMove_picked picked
      refine ⟨fun idle at_once => ?_, fun idle mode late => ?_, fun idle mode => ?_, fun holding mode => ?_, fun other => ?_⟩
      · rw [idle, pickedMove_operates at_once] at next
        exact evaluateElement_moved defined next (Move.changes_eq _ idle) taking
      · rw [idle, mode] at next
        exact evaluateElement_moved defined (next.trans (if_pos late)) (Move.changes_eq _ idle) taking
      · rw [idle, mode] at next
        exact evaluateElement_moved defined next (Move.changes_eq _ idle) taking
      · rw [holding, mode] at next
        exact evaluateElement_moved defined next (Move.changes_eq _ holding) taking
      · exact evaluateElement_of_no_move defined (next.trans (pickedMove_rests d.mode d.delay other))
    · have next : el.nextMove d = droppedMove d.mode d.delay el.state := Element.nextMove_dropped picked dropped
      refine ⟨fun timing mode => ?_, fun operated at_once => ?_, fun operated mode late => ?_, fun spent mode => ?_, fun other => ?_⟩
      · rw [timing, mode] at next
        exact evaluateElement_moved defined next (Move.changes_eq _ timing) taking
      · rw [operated, droppedMove_releases at_once] at next
        exact evaluateElement_moved defined next (Move.changes_eq _ operated) taking
      · rw [operated, mode] at next
        exact evaluateElement_moved defined (next.trans (if_pos late)) (Move.changes_eq _ operated) taking
      · rw [spent, mode] at next
        exact evaluateElement_moved defined next (Move.changes_eq _ spent) taking
      · exact evaluateElement_of_no_move defined (next.trans (droppedMove_rests d.delay other))

/-! ### Expiries -/

theorem elementDelayExpiry_move {mv : Move} (due : (s.element e).timer = some 0) (defined : (s.element e).defn = some d)
    (move : expiryMove d.mode ((s.element e).dropped d || decide ((s.element e).pending ≠ .none)) (s.element e).state = some mv) :
    elementDelayExpiry e s = moveAndInstall .moves e d mv (s.setElement e { s.element e with timer := none }) := by
  have isDue : Timer.due (s.element e).timer = true := by rw [due]; rfl
  have kept : ({ s.element e with timer := none } : Element).defn = some d := defined
  replace move : expiryMove d.mode (({ s.element e with timer := none } : Element).dropped d ||
    decide (({ s.element e with timer := none } : Element).pending ≠ .none)) ({ s.element e with timer := none } : Element).state = some mv := move
  unfold elementDelayExpiry
  rw [if_pos isDue]
  generalize ({ s.element e with timer := none } : Element) = v at kept move ⊢
  dsimp only
  rw [State.setElement_element_self, kept]
  dsimp only
  rw [move]

theorem performMove_stopped (mv : Move) (s : State) : performMove .moves e d mv (s.setElement e { s.element e with timer := none }) =
    targetsTake .moves d (mv.changes (s.element e)) (recordsOf e (s.element e).sum mv.records
      (s.setElement e { s.element e with state := mv.state, timer := mv.timer })) := by
  rw [performMove_eq, State.setElement_element_self, State.setElement_setElement]
  rfl

/-- An element that reaches IDLE, or has nothing pending, has nothing pending after (R118). -/
theorem moveAndInstall_settles {mv : Move} (settles : mv.state = .idle ∨ (s.element e).pending = .none) (taking : Taking) (d : ElementDef) :
    ((moveAndInstall taking e d mv s).element e).pending = .none ∧
      (∀ x, (s.element e).pending = .definition x → ((moveAndInstall taking e d mv s).element e).defn = some x) ∧
      ((s.element e).pending = .clear → (moveAndInstall taking e d mv s).element e = {}) := by
  cases pending : (s.element e).pending with
  | none =>
    rw [moveAndInstall_stays (.inr pending), performMove_element]
    exact ⟨pending, nofun, nofun⟩
  | definition x =>
    have idle := settles.resolve_right (by rw [pending]; nofun)
    rw [moveAndInstall_installs idle pending, (evaluateOnce_shifts taking e _).2, State.setElement_element_self]
    refine ⟨rfl, fun y same => ?_, nofun⟩
    cases same
    rfl
  | clear =>
    have idle := settles.resolve_right (by rw [pending]; nofun)
    rw [moveAndInstall_clears idle pending, State.setElement_element_self]
    exact ⟨rfl, nofun, fun _ => rfl⟩

/-- Settles O37. -/
theorem elementDelayExpires : Obligations.ElementDelayExpires := by
  intro e d s high due defined el moved
  have row {mv : Move} (move : expiryMove d.mode (el.dropped d || decide (el.pending ≠ .none)) el.state = some mv) :
      exec (.elementDelayExpiry e) s = .next (moveAndInstall .moves e d mv (s.setElement e { el with timer := none })) :=
    (running_high high _).trans (congrArg _ (elementDelayExpiry_move due defined move))
  have stopped := State.setElement_element_self s e { el with timer := none }
  have plain {mv : Move} {record : RecordKind} {b : Bool} (stays : mv.state ≠ .idle ∨ el.pending = .none)
      (move : expiryMove d.mode (el.dropped d || decide (el.pending ≠ .none)) el.state = some mv) (timer : mv.timer = none)
      (records : mv.records = [record]) (output : mv.changes el = some b) :
      exec (.elementDelayExpiry e) s = .next (moved mv.state record b) := by
    rw [row move, moveAndInstall_stays (by rw [stopped]; exact stays), performMove_stopped, output, records, timer]
    rfl
  refine ⟨fun mode timing => ?_, fun mode holding empty => ?_, fun mode operated empty dropped => ?_, fun mode operated empty risen => ?_,
    fun rests => ?_⟩
  · exact plain (mv := { state := .operated, timer := none, records := [.elementOperate] }) (.inl nofun) (by rw [mode, timing]; rfl) rfl rfl (Move.changes_eq _ timing)
  · exact plain (mv := { state := .idle, timer := none, records := [.elementRelease] }) (.inr empty) (by rw [mode, holding]; rfl) rfl rfl (Move.changes_eq _ holding)
  · exact plain (mv := { state := .idle, timer := none, records := [.elementRelease] }) (.inr empty) (by rw [mode, operated, dropped]; rfl) rfl rfl (Move.changes_eq _ operated)
  · exact plain (mv := { state := .spent, timer := none, records := [.elementRelease] }) (.inr empty)
      (by rw [mode, operated, risen, empty]; rfl) rfl rfl (Move.changes_eq _ operated)
  · have found : ∃ mv, expiryMove d.mode (el.dropped d || decide (el.pending ≠ .none)) el.state = some mv ∧
        (mv.state = .idle ∨ el.pending = .none) := by
      rcases rests with ⟨mode, holding⟩ | ⟨mode, operated⟩
      · rw [mode, holding]
        exact ⟨_, rfl, .inl rfl⟩
      · rw [mode, operated]
        by_cases empty : el.pending = .none
        · exact ⟨_, rfl, .inr empty⟩
        · refine ⟨_, rfl, .inl ?_⟩
          rw [decide_eq_true empty, Bool.or_true]
          rfl
    obtain ⟨mv, move, settles⟩ := found
    have settled := moveAndInstall_settles (s := s.setElement e { el with timer := none }) (mv := mv) (by rw [stopped]; exact settles) .moves d
    rw [stopped] at settled
    have shifts := (setElement_shifts e { el with timer := none } s).trans (moveAndInstall_shifts .moves e d mv _)
    exact ⟨_, row move, shifts.1, shifts.2, settled.1, settled.2.1, settled.2.2⟩

/-! ### Entries -/

theorem busy_iff (st : ElementState) : st.busy = true ↔ st = .timing ∨ st = .operated ∨ st = .holding := by
  cases st <;> decide

theorem readElement_nonempty {entry : List Byte} (read : readElement entry ≠ .refused .length) : ¬ entry.length < 1 := by
  cases entry with
  | nil => exact absurd rfl read
  | cons b rest => exact Nat.not_lt.mpr (Nat.le_add_left 1 rest.length)

section
variable {n : Nat} {entry : List Byte}

theorem writeElement_define (free : s.frozen = false) (named : n = e.val) (read : readElement entry = .define d)
    (known : s.mode ≠ .configuring → elementKnown s d = true) : writeElement n entry s = accept (applyElementWrite e d s) := by
  unfold writeElement
  rw [if_neg (readElement_nonempty (by rw [read]; nofun)), free, if_neg nofun, finOf_of named, read]
  exact if_neg fun both => by rw [known both.1] at both; exact nomatch both.2

theorem writeElement_undefine (free : s.frozen = false) (named : n = e.val) (read : readElement entry = .undefine) :
    writeElement n entry s = accept (applyElementClear e s) := by
  unfold writeElement
  rw [if_neg (readElement_nonempty (by rw [read]; nofun)), free, if_neg nofun, finOf_of named, read]

theorem clearElement_named (free : s.frozen = false) (named : n = e.val) : clearElement n s = accept (applyElementClear e s) := by
  unfold clearElement
  rw [free, if_neg nofun, finOf_of named]

end

theorem applyElementClear_eq (e : Fin 64) (s : State) : applyElementClear e s =
    if (s.element e).state = .timing ∨ (s.element e).state = .operated ∨ (s.element e).state = .holding
    then s.setElement e { s.element e with pending := .clear } else s.setElement e {} :=
  if_congr (busy_iff _) rfl rfl

/-- An element at rest with a definition installed, part by part (R103, R116). -/
theorem installed_eq (s : State) (e : Fin 64) (d : ElementDef) :
    let el := s.element e
    let contrib := d.inputs.map (fun i => contribution d.policy i (s.point i.point) (inheritedHeld el.defn el i))
    installDefinition e d (s.setElement e { el with state := .idle }) = s.setElement e { el with
      defn := some d, pending := .none, state := .idle, sum := voteSum d.inputs contrib, contrib := contrib
      held := d.inputs.map (fun i => (computeInput d.policy i (s.point i.point) (inheritedHeld el.defn el i)).2) } := by
  intro el contrib
  rw [installDefinition_eq, State.setElement_element_self, State.setElement_setElement]
  unfold Element.installed
  dsimp only
  rw [List.map_map, List.map_map]
  rfl

theorem applyElementWrite_idle (rests : ¬ ((s.element e).state = .timing ∨ (s.element e).state = .operated ∨ (s.element e).state = .holding)) :
    applyElementWrite e d s = if s.mode = .configuring then installDefinition e d (s.setElement e { s.element e with state := .idle })
      else evaluateElement .moves e (installDefinition e d (s.setElement e { s.element e with state := .idle })) :=
  if_neg (mt (busy_iff _).mp rests)

theorem inheritedHeld_none {old : ElementDef} {el : Element} {i : ElementInput}
    (none : ∀ j ∈ old.inputs, j.point ≠ i.point ∨ j.sense ≠ i.sense) : inheritedHeld (some old) el i = false := by
  have missing : (el.inputStates old).find? (fun x => decide (x.1.point = i.point ∧ x.1.sense = i.sense)) = Option.none := by
    rw [List.find?_eq_none]
    rintro ⟨j, y⟩ listed found
    have both := of_decide_eq_true found
    exact (none j (List.of_mem_zip listed).1).elim (fun other => other both.1) fun other => other both.2
  unfold inheritedHeld
  dsimp only
  rw [missing]

/-- The equal input of the definition replaced hands its held contribution on; there is one such input (R103). -/
theorem inheritedHeld_of {old : ElementDef} {el : Element} {i j : ElementInput} {n : Nat} {c h : Bool}
    (distinct : (old.inputs.map (fun k => (k.point, k.sense))).Nodup) (input : old.inputs[n]? = some j) (contrib : el.contrib[n]? = some c)
    (held : el.held[n]? = some h) (point : j.point = i.point) (sense : j.sense = i.sense) : inheritedHeld (some old) el i = h := by
  have states : (el.inputStates old)[n]? = some (j, c, h) := by
    unfold Element.inputStates
    rw [List.getElem?_zip_eq_some, List.getElem?_zip_eq_some]
    exact ⟨input, contrib, held⟩
  have found : (el.inputStates old).find? (fun x => decide (x.1.point = i.point ∧ x.1.sense = i.sense)) = some (j, c, h) := by
    have some : ((el.inputStates old).find? (fun x => decide (x.1.point = i.point ∧ x.1.sense = i.sense))).isSome = true :=
      List.find?_isSome.mpr ⟨(j, c, h), List.mem_of_getElem? states, decide_eq_true ⟨point, sense⟩⟩
    obtain ⟨⟨j', c', h'⟩, hit⟩ := Option.isSome_iff_exists.mp some
    have fits : decide (j'.point = i.point ∧ j'.sense = i.sense) = true :=
      List.find?_some (p := fun x : ElementInput × Bool × Bool => decide (x.1.point = i.point ∧ x.1.sense = i.sense)) hit
    obtain ⟨point', sense'⟩ := of_decide_eq_true fits
    obtain ⟨m, at_m⟩ := List.getElem?_of_mem (List.mem_of_find?_eq_some hit)
    have input' : old.inputs[m]? = Option.some j' := by
      unfold Element.inputStates at at_m
      rw [List.getElem?_zip_eq_some] at at_m
      exact at_m.1
    have places (l : Nat) (x : ElementInput) (at_l : old.inputs[l]? = Option.some x) (p : x.point = i.point) (q : x.sense = i.sense) :
        (old.inputs.map (fun k => (k.point, k.sense)))[l]? = Option.some (i.point, i.sense) := by
      rw [List.getElem?_map, at_l, ← p, ← q]
      rfl
    have same : m = n := by
      have first := places m j' input' point' sense'
      have second := places n j input point sense
      exact (List.getElem?_inj (List.getElem?_eq_some_iff.mp first).1 distinct).mp (first.trans second.symm)
    rw [hit, ← states, ← same, at_m]
  unfold inheritedHeld
  dsimp only
  rw [found]

/-- Settles O38. -/
theorem elementEntryIsWrittenAndCleared : Obligations.ElementEntryIsWrittenAndCleared := by
  refine ⟨?_, fun policy i v start => rfl, fun i el => ⟨rfl, fun old => ⟨inheritedHeld_none, fun n j c h => inheritedHeld_of⟩⟩⟩
  intro src index e s ready free named el busy
  refine ⟨fun entry d read known => ?_, ?_⟩
  · have row : exec (.writeElement src index entry) s = .next ((applyElementWrite e d s).answered src (entryOk 0x02 .element index)) := by
      rw [exec_of_ready (c := .writeElement src index entry) rfl ready]
      dsimp only
      rw [writeElement_define free named read known, entryReply_accept]
    refine ⟨fun isBusy => ?_, ?_⟩
    · rw [row]
      exact congrArg (fun u : State => Host.Outcome.next (u.answered src (entryOk 0x02 .element index))) (if_pos ((busy_iff _).mpr isBusy))
    · intro rests contrib u
      have installed : installDefinition e d (s.setElement e { s.element e with state := .idle }) = u := installed_eq s e d
      rw [row, applyElementWrite_idle rests, installed]
      exact ⟨fun configuring => by rw [if_pos configuring], fun service => by rw [if_neg service]⟩
  · intro cleared
    have applied : applyElementClear e s = cleared := applyElementClear_eq e s
    refine ⟨?_, ?_⟩
    · rw [exec_of_ready (c := .writeElement src index [0x00]) rfl ready]
      dsimp only
      rw [writeElement_undefine free named rfl, entryReply_accept, applied]
    · rw [exec_of_ready (c := .clearElement src index) rfl ready]
      dsimp only
      rw [clearElement_named free named, entryReply_accept, applied]

/-! ### Forces -/

theorem forceCommand_named {element : Byte} (test : s.mode = .test) (named : element.toNat = e.val) (defined : (s.element e).defn ≠ none) (on : Bool) :
    forceCommand on element s = accept (forceElement .moves on e s) := by
  unfold forceCommand
  rw [if_neg (not_not.mpr test), finOf_of named]
  exact if_neg defined

/-- Settles O39. -/
theorem forcedElementIsEvaluated : Obligations.ForcedElementIsEvaluated := by
  intro src element e s ready named
  refine ⟨?_, fun other => ⟨?_, ?_⟩⟩
  · intro test defined put
    refine ⟨?_, ?_, fun on => ?_⟩
    · rw [exec_of_ready (c := .forceElementOn src element) rfl ready]
      dsimp only
      rw [forceCommand_named test named defined, replied_accept]
      rfl
    · rw [exec_of_ready (c := .forceElementOff src element) rfl ready]
      dsimp only
      rw [forceCommand_named test named defined, replied_accept]
      rfl
    · have forced : put on = if (s.element e).forced = on then s
          else evaluateElement .moves e (s.setElement e { s.element e with forced := on }) := rfl
      rw [forced]
      split
      · rename_i already
        exact ⟨.refl s, fun _ _ => rfl, fun _ => ⟨already, rfl, rfl⟩⟩
      · have shifts := (setElement_shifts e { s.element e with forced := on } s).trans (evaluateElement_shifts .moves e _)
        refine ⟨shifts.1, shifts.2, fun empty => ?_⟩
        rw [evaluateElement_once (by rw [State.setElement_element_self]; exact empty), (evaluateOnce_shifts .moves e _).2,
          State.setElement_element_self]
        exact ⟨rfl, rfl, rfl⟩
  · rw [exec_of_ready (c := .forceElementOn src element) rfl ready]
    exact congrArg Host.Outcome.next (congrArg (fun a : Answer => a.replied src 0x31) (if_pos other))
  · rw [exec_of_ready (c := .forceElementOff src element) rfl ready]
    exact congrArg Host.Outcome.next (congrArg (fun a : Answer => a.replied src 0x31) (if_pos other))

end Sys2Proof.Machine

/-! What a standing activation and a clear make of the Annunciation Unit goes by the Annunciation Unit and the mode alone. -/

namespace Sys2Proof.Machine

variable {s t u : State}

/-- The Annunciation Units and the modes are the same. -/
def State.samePanel (s t : State) : Prop := t.ann = s.ann ∧ t.mode = s.mode

namespace State.samePanel

variable (h : s.samePanel t)

include h

theorem window (w : Fin 192) : t.window w = s.window w := by unfold State.window; rw [h.1]
theorem group (g : Fin 32) : t.group g = s.group g := by unfold State.group; rw [h.1]
theorem horn (j : Fin 4) : t.horn j = s.horn j := by unfold State.horn; rw [h.1]
theorem driver (d : Fin 6) : t.driver d = s.driver d := by unfold State.driver; rw [h.1]

theorem setWindow (w : Fin 192) (v : Window) : (s.setWindow w v).samePanel (t.setWindow w v) := by
  unfold State.setWindow State.samePanel
  rw [h.1]
  exact ⟨rfl, h.2⟩

theorem setGroup (g : Fin 32) (v : Group) : (s.setGroup g v).samePanel (t.setGroup g v) := by
  unfold State.setGroup State.samePanel
  rw [h.1]
  exact ⟨rfl, h.2⟩

theorem setHorn (j : Fin 4) (v : Horn) : (s.setHorn j v).samePanel (t.setHorn j v) := by
  unfold State.setHorn State.samePanel
  rw [h.1]
  exact ⟨rfl, h.2⟩

theorem phaseOnWait : (Machine.phaseOnWait s).samePanel (Machine.phaseOnWait t) := by
  unfold Machine.phaseOnWait State.samePanel
  rw [h.1]
  exact ⟨rfl, h.2⟩

theorem joinDriver (d : Fin 6) : (Machine.joinDriver d s).samePanel (Machine.joinDriver d t) := by
  unfold Machine.joinDriver
  rw [h.driver, h.1]
  split
  · exact ⟨rfl, h.2⟩
  · exact h

theorem derivedPattern (w : Fin 192) : Machine.derivedPattern t w = Machine.derivedPattern s w := by
  unfold Machine.derivedPattern
  rw [h.1, h.2, h.window]

theorem redisplay (w : Fin 192) : (Machine.redisplay w s).samePanel (Machine.redisplay w t) := by
  unfold Machine.redisplay
  rw [h.derivedPattern, h.window]
  split
  · exact h
  · exact (h.setWindow w _).joinDriver _

theorem redisplayBoth (v w : Fin 192) : (Machine.redisplayBoth v w s).samePanel (Machine.redisplayBoth v w t) := by
  unfold Machine.redisplayBoth
  split
  · exact (h.redisplay v).redisplay w
  · exact (h.redisplay w).redisplay v

theorem putHorn (j : Fin 4) (v : Horn) : (Machine.putHorn j v s).samePanel (Machine.putHorn j v t) := by
  unfold Machine.putHorn
  rw [h.horn]
  split
  · exact h.setHorn j v
  · exact (h.setHorn j v).phaseOnWait

theorem hornEnter (j : Option (Fin 4)) : (Machine.hornEnter j s).samePanel (Machine.hornEnter j t) := by
  cases j with
  | none => exact h
  | some j =>
    have entered := h.putHorn j { s.horn j with state := .sounding, fastCount := (s.horn j).fastCount + 1 }
    unfold Machine.hornEnter
    dsimp only
    rw [h.horn]
    exact entered

theorem hornOfWindow (w : Fin 192) : Machine.hornOfWindow t w = Machine.hornOfWindow s w := by
  unfold Machine.hornOfWindow
  rw [h.window]
  cases (s.window w).defn with
  | none => rfl
  | some d =>
    dsimp only
    unfold hornOfGroup
    rw [h.group]

theorem setMark (w : Fin 192) (m : Bool) : (Machine.setMark w m s).samePanel (Machine.setMark w m t) := by
  unfold Machine.setMark
  rw [h.window]
  exact h.setWindow w _

theorem unmark (w : Option (Fin 192)) : (Machine.unmark w s).samePanel (Machine.unmark w t) := by
  cases w with
  | none => exact h
  | some w => exact h.setMark w false

theorem rearm (g : Fin 32) : (Machine.rearm g s).samePanel (Machine.rearm g t) := by
  have unmarked := h.unmark (s.group g).foWindow
  unfold Machine.rearm
  dsimp only
  rw [h.group, unmarked.group]
  exact unmarked.setGroup g _

theorem reachedDark (w : Fin 192) : (Machine.reachedDark w s).samePanel (Machine.reachedDark w t) := by
  unfold Machine.reachedDark
  rw [h.window]
  cases (s.window w).defn with
  | none => exact h
  | some d =>
    dsimp only
    rw [h.group]
    split
    · exact h.rearm d.group
    · exact h

theorem goDark (w : Fin 192) : (Machine.goDark w s).samePanel (Machine.goDark w t) := by
  unfold Machine.goDark
  rw [h.window]
  exact (h.setWindow w _).reachedDark w

theorem enterFast (w : Fin 192) : (Machine.enterFast w s).samePanel (Machine.enterFast w t) := by
  unfold Machine.enterFast
  rw [h.window, h.hornOfWindow]
  split
  · exact h
  · exact (h.setWindow w _).hornEnter _

theorem countActivation (w : Fin 192) : (Machine.countActivation w s).samePanel (Machine.countActivation w t) := by
  unfold Machine.countActivation
  rw [h.window]
  exact h.setWindow w _

theorem countClear (w : Fin 192) : (Machine.countClear w s).samePanel (Machine.countClear w t) := by
  unfold Machine.countClear
  rw [h.window]
  exact h.setWindow w _

theorem sequenceRuns (w : Fin 192) : Machine.sequenceRuns t w = Machine.sequenceRuns s w := by
  unfold Machine.sequenceRuns
  rw [h.2, h.window]

theorem firstOutOr (w : Fin 192) : Machine.firstOutOr w t = Machine.firstOutOr w s := by
  unfold Machine.firstOutOr
  rw [h.window]
  cases (s.window w).defn with
  | none => rfl
  | some d =>
    dsimp only
    rw [h.group]

theorem activate (w : Fin 192) : (Machine.activate w none s).samePanel (Machine.activate w none t) := by
  cases runs : Machine.sequenceRuns s w with
  | false =>
    rw [activate_of_rest runs, activate_of_rest ((h.sequenceRuns w).trans runs)]
    exact (h.countActivation w).redisplay w
  | true =>
    rw [activate_of_runs runs, activate_of_runs ((h.sequenceRuns w).trans runs), h.firstOutOr]
    exact ((h.countActivation w).enterFast w).redisplayBoth _ w

theorem clearSource (w : Fin 192) : (Machine.clearSource w s).samePanel (Machine.clearSource w t) := by
  have counted := h.countClear w
  unfold Machine.clearSource
  dsimp only
  rw [counted.sequenceRuns, counted.window]
  split
  · cases ((Machine.countClear w s).window w).defn with
    | none => exact counted.redisplay w
    | some d =>
      dsimp only
      cases d.sequence with
      | manualReset => exact (counted.setWindow w _).redisplay w
      | autoReset => exact (counted.goDark w).redisplay w
  · exact counted.redisplay w

theorem activateAt (w : Option (Fin 192)) : (Machine.activateAt w none s).samePanel (Machine.activateAt w none t) := by
  cases w with
  | none => exact h
  | some w => exact h.activate w

theorem clearAt (w : Option (Fin 192)) : (Machine.clearAt w s).samePanel (Machine.clearAt w t) := by
  cases w with
  | none => exact h
  | some w => exact h.clearSource w

end State.samePanel

end Sys2Proof.Machine

/-! A channel's demand, state and confirmation, its module and its line (R131 to R135, R140, R141). -/

namespace Sys2Proof.Machine

variable {s t u : State} {c : Fin 16} {v w : Channel}

/-! ### A change of one channel -/

/-- One channel's entry, the TRIP waiting list, the Annunciation Unit and the event queue may differ, and the lines. -/
structure ChannelMoves (c : Fin 16) (s t : State) (v : Channel) (waiting : List (Fin 8)) (ann : Annunciator) (events : EventQueue) : Prop where
  only : s.onlyChannels t
  own : t.channel c = v
  others : ∀ j, j ≠ c → t.channel j = s.channel j
  outputs : t.trip.outputs = s.trip.outputs
  waits : t.trip.waiting = waiting
  panel : t.ann = ann
  queue : t.events = events

theorem setChannel_moves (c : Fin 16) (v : Channel) (s : State) : ChannelMoves c s (s.setChannel c v) v s.trip.waiting s.ann s.events :=
  ⟨rfl, State.setChannel_channel_self _ _ _, fun _ other => State.setChannel_channel_ne _ _ other, rfl, rfl, rfl, rfl⟩

section
variable {waiting : List (Fin 8)} {ann : Annunciator} {events : EventQueue}

theorem ChannelMoves.mode (h : ChannelMoves c s t v waiting ann events) : t.mode = s.mode := by
  have only := h.only
  unfold State.onlyChannels at only
  rw [only]

theorem ChannelMoves.settings (h : ChannelMoves c s t v waiting ann events) : t.settings = s.settings := by
  have only := h.only
  unfold State.onlyChannels at only
  rw [only]

theorem ChannelMoves.time (h : ChannelMoves c s t v waiting ann events) : t.time = s.time := by
  have only := h.only
  unfold State.onlyChannels at only
  rw [only]

theorem ChannelMoves.outputModule (h : ChannelMoves c s t v waiting ann events) (k : Fin 8) : t.outputModule k = s.outputModule k := by
  unfold State.outputModule
  rw [h.outputs]

/-- A record of the channel. -/
theorem ChannelMoves.record (h : ChannelMoves c s t v waiting ann s.events) (kind : RecordKind) :
    ChannelMoves c s (channelRecord kind c t) v waiting ann (offerNow kind .trip c.val 0 0 s).events := by
  have touches := offerNow_touches kind .trip c.val 0 0 t
  have queue : (offerNow kind .trip c.val 0 0 t).events = (offerNow kind .trip c.val 0 0 s).events := by
    unfold offerNow
    rw [h.time]
    exact offer_events_congr _ h.queue h.mode h.settings h.time
  refine ⟨h.only.trans touches.ann.channels, ?_, fun j other => ?_, ?_, ?_, ?_, queue⟩
  · rw [← h.own]; unfold channelRecord State.onlyEvents at *; rw [touches]; rfl
  · rw [← h.others j other]; unfold channelRecord State.onlyEvents at *; rw [touches]; rfl
  · rw [← h.outputs]; unfold channelRecord State.onlyEvents at *; rw [touches]
  · rw [← h.waits]; unfold channelRecord State.onlyEvents at *; rw [touches]
  · rw [← h.panel]; unfold channelRecord State.onlyEvents at *; rw [touches]

/-- A standing delivery to a window. -/
theorem ChannelMoves.window {f : State → State} (h : ChannelMoves c s t v waiting s.ann events) (panel : t.onlyPanel (f t))
    (reads : (f s).samePanel (f t)) : ChannelMoves c s (f t) v waiting (f s).ann events := by
  unfold State.onlyPanel at panel
  refine ⟨h.only.trans ?_, ?_, fun j other => ?_, ?_, ?_, reads.1, ?_⟩
  · unfold State.onlyChannels; rw [panel]
  · rw [panel]; exact h.own
  · rw [panel]; exact h.others j other
  · rw [panel]; exact h.outputs
  · rw [panel]; exact h.waits
  · rw [panel]; exact h.queue

theorem ChannelMoves.activated (h : ChannelMoves c s t v waiting s.ann events) (w : Option (Fin 192)) :
    ChannelMoves c s (activateAt w none t) v waiting (activateAt w none s).ann events :=
  h.window (f := activateAt w none) (activateAt_none_panel w t) (State.samePanel.activateAt ⟨h.panel, h.mode⟩ w)

theorem ChannelMoves.cleared (h : ChannelMoves c s t v waiting s.ann events) (w : Option (Fin 192)) :
    ChannelMoves c s (clearAt w t) v waiting (clearAt w s).ann events :=
  h.window (f := clearAt w) (clearAt_panel w t) (State.samePanel.clearAt ⟨h.panel, h.mode⟩ w)

theorem ChannelMoves.judged (h : ChannelMoves c s t v waiting ann events) (l : Fin 2) : ChannelMoves c s (judgeLine l t) v waiting ann events := by
  have line : judgeLine l t = { t with trip := { t.trip with bkt0 := (judgeLine l t).trip.bkt0, bkt1 := (judgeLine l t).trip.bkt1 } } := by
    unfold judgeLine
    split
    · rfl
    · rfl
  rw [line]
  refine ⟨h.only.trans ?_, h.own, h.others, h.outputs, h.waits, h.panel, h.queue⟩
  rfl

/-- A module of a defined channel joins the TRIP waiting list (R135). -/
theorem ChannelMoves.joined {d : ChannelDef} (h : ChannelMoves c s t v s.trip.waiting ann events) (defined : v.defn = some d) :
    ChannelMoves c s (joinTrip d.outputModule t) v (if (s.outputModule d.outputModule).address.isSome ∧ d.outputModule ∉ s.trip.waiting
      then s.trip.waiting ++ [d.outputModule] else s.trip.waiting) ann events := by
  have hosts : hostedBy t d.outputModule ≠ [] := (hostedBy_ne_nil t _).mpr ⟨c, d, by rw [h.own]; exact defined, rfl⟩
  refine ⟨h.only.trans (joinTrip_touches _ _), ?_, fun j other => ?_, ?_, ?_, ?_, ?_⟩
  · rw [joinTrip_channel]; exact h.own
  · rw [joinTrip_channel]; exact h.others j other
  · rw [← h.outputs]; unfold joinTrip; split <;> rfl
  · rw [joinTrip_waiting, h.outputModule, h.waits]
    exact if_congr (by tauto) rfl rfl
  · rw [joinTrip_ann]; exact h.panel
  · rw [joinTrip_events]; exact h.queue

/-- The output of a defined channel changes (R132). -/
theorem ChannelMoves.output {d : ChannelDef} (h : ChannelMoves c s t v s.trip.waiting s.ann events) (defined : v.defn = some d) (asserted : Bool) :
    ChannelMoves c s (outputChanged c asserted t) v (if (s.outputModule d.outputModule).address.isSome ∧ d.outputModule ∉ s.trip.waiting
      then s.trip.waiting ++ [d.outputModule] else s.trip.waiting)
      (if asserted then activateAt d.window none s else clearAt d.window s).ann events := by
  have parts : outputChanged c asserted t = judgeLine (halfOf c) (if asserted then activateAt d.window none (joinTrip d.outputModule t)
      else clearAt d.window (joinTrip d.outputModule t)) := by
    unfold outputChanged
    rw [h.own, defined]
  rw [parts]
  cases asserted with
  | true => exact ((h.joined defined).activated d.window).judged _
  | false => exact ((h.joined defined).cleared d.window).judged _

end

/-! ### Demand -/

theorem deliverDemand_counts (asserted : Bool) (c : Fin 16) (s : State) : deliverDemand .countsOnly asserted c s = s.setChannel c { s.channel c with
    demand := if asserted then (s.channel c).demand + 1 else (s.channel c).demand - 1 } := by
  unfold deliverDemand
  exact if_pos (.inl rfl)

theorem deliverDemand_gain {d : ChannelDef} (defined : (s.channel c).defn = some d) : deliverDemand .moves true c s =
    if (s.channel c).demand = 0 then gainDemand c (s.setChannel c { s.channel c with demand := (s.channel c).demand + 1 })
    else s.setChannel c { s.channel c with demand := (s.channel c).demand + 1 } := by
  have named : ((s.setChannel c { s.channel c with demand := (s.channel c).demand + 1 }).channel c).defn ≠ none := by
    rw [State.setChannel_channel_self]
    dsimp only
    rw [defined]
    nofun
  refine (if_neg fun none => none.elim nofun named).trans ?_
  by_cases zero : (s.channel c).demand = 0
  · rw [if_pos zero]
    exact if_pos ⟨rfl, zero⟩
  · rw [if_neg zero]
    exact (if_neg fun both => zero both.2).trans (if_neg fun both => both.1 rfl)

theorem deliverDemand_loss {d : ChannelDef} (defined : (s.channel c).defn = some d) : deliverDemand .moves false c s =
    if (s.channel c).demand = 1 then loseDemand c (s.setChannel c { s.channel c with demand := (s.channel c).demand - 1 })
    else s.setChannel c { s.channel c with demand := (s.channel c).demand - 1 } := by
  have named : ((s.setChannel c { s.channel c with demand := (s.channel c).demand - 1 }).channel c).defn ≠ none := by
    rw [State.setChannel_channel_self]
    dsimp only
    rw [defined]
    nofun
  refine (if_neg fun none => none.elim nofun named).trans ((if_neg fun both => nomatch both.1).trans ?_)
  by_cases one : (s.channel c).demand = 1
  · rw [if_pos one]
    exact if_pos ⟨nofun, one⟩
  · rw [if_neg one]
    exact if_neg fun both => one both.2

theorem gainDemand_normal (normal : (s.channel c).state = .normal) : gainDemand c s =
    outputChanged c true (channelRecord .channelTrip c (s.setChannel c { s.channel c with state := .tripped })) := by
  unfold gainDemand
  rw [normal]

theorem gainDemand_locked (locked : (s.channel c).state = .locked) : gainDemand c s =
    channelRecord .channelTrip c (s.setChannel c { s.channel c with state := .tripped }) := by
  unfold gainDemand
  rw [locked]

theorem loseDemand_tripped {d : ChannelDef} (tripped : (s.channel c).state = .tripped) (defined : (s.channel c).defn = some d) : loseDemand c s =
    if d.lockout then channelRecord .channelLockout c (s.setChannel c { s.channel c with state := .locked })
    else outputChanged c false (channelRecord .channelNormal c (s.setChannel c { s.channel c with state := .normal })) := by
  unfold loseDemand
  rw [tripped, defined]

/-- Settles O41. -/
theorem channelFollowsItsDemand : Obligations.ChannelFollowsItsDemand := by
  refine ⟨deliverDemand_counts, ?_, ?_⟩
  · intro c d s defined v joined becomes gain loss
    have counted (n : Nat) : (s.setChannel c { v with demand := n }).channel c = { v with demand := n } := State.setChannel_channel_self _ _ _
    have again (n : Nat) (st : ChannelState) : (s.setChannel c { v with demand := n }).setChannel c
        { (s.setChannel c { v with demand := n }).channel c with state := st } = s.setChannel c { v with demand := n, state := st } := by
      rw [counted, State.setChannel_setChannel]
    have gained := deliverDemand_gain defined
    have lost := deliverDemand_loss defined
    have plain (w : Channel) : becomes (s.setChannel c w) w none s.trip.waiting s.ann := by
      have moves := setChannel_moves c w s
      exact ⟨moves.only, moves.own, moves.others, rfl, rfl, rfl, rfl⟩
    have recorded {t : State} {w : Channel} {k : RecordKind} {waiting : List (Fin 8)} {ann : Annunciator}
        (moves : ChannelMoves c s t w waiting ann (offerNow k .trip c.val 0 0 s).events) : becomes t w (some k) waiting ann :=
      ⟨moves.only, moves.own, moves.others, moves.outputs, moves.waits, moves.panel, moves.queue⟩
    refine ⟨fun some => ?_, fun zero normal => ?_, fun zero locked => ?_, fun more => ?_, fun one tripped lockout => ?_, fun one tripped free => ?_⟩
    · rw [if_neg (Nat.ne_of_gt some)] at gained
      rw [show gain = _ from gained]
      exact plain _
    · rw [if_pos zero, show (s.channel c).demand + 1 = 1 from congrArg (· + 1) zero, gainDemand_normal (by rw [counted]; exact normal), again] at gained
      rw [show gain = _ from gained]
      exact recorded (((setChannel_moves c { v with demand := 1, state := .tripped } s).record .channelTrip).output defined true)
    · rw [if_pos zero, show (s.channel c).demand + 1 = 1 from congrArg (· + 1) zero, gainDemand_locked (by rw [counted]; exact locked), again] at gained
      rw [show gain = _ from gained]
      exact recorded ((setChannel_moves c { v with demand := 1, state := .tripped } s).record .channelTrip)
    · rw [if_neg (Nat.ne_of_gt more)] at lost
      rw [show loss = _ from lost]
      exact plain _
    · rw [if_pos one, show (s.channel c).demand - 1 = 0 from congrArg (· - 1) one, loseDemand_tripped (d := d) (by rw [counted]; exact tripped)
        (by rw [counted]; exact defined), again, again, if_pos lockout] at lost
      rw [show loss = _ from lost]
      exact recorded ((setChannel_moves c { v with demand := 0, state := .locked } s).record .channelLockout)
    · rw [if_pos one, show (s.channel c).demand - 1 = 0 from congrArg (· - 1) one, loseDemand_tripped (d := d) (by rw [counted]; exact tripped)
        (by rw [counted]; exact defined), again, again, if_neg (by rw [free]; nofun)] at lost
      rw [show loss = _ from lost]
      exact recorded (((setChannel_moves c { v with demand := 0, state := .normal } s).record .channelNormal).output defined false)
  · intro src channel c d s ready named defined
    have row : exec (.lockoutReset src channel) s = .next ((resetLockout c s).replied src 0x30) := by
      rw [exec_of_ready (c := .lockoutReset src channel) rfl ready]
      dsimp only
      unfold lockoutReset
      rw [finOf_of named]
      dsimp only
      rw [if_neg (by rw [defined]; nofun)]
    refine ⟨fun normal => ?_, fun tripped => ?_, fun locked => ?_⟩
    · rw [row]
      unfold resetLockout
      rw [normal]
      rfl
    · rw [row]
      unfold resetLockout
      rw [tripped]
      rfl
    · have moves := ((setChannel_moves c { s.channel c with state := .normal } s).record .channelNormal).output defined false
      refine ⟨_, ?_, moves.only, moves.own, moves.others, moves.outputs, moves.queue, moves.panel, moves.waits⟩
      rw [row]
      unfold resetLockout
      rw [locked]
      rfl

end Sys2Proof.Machine

/-! The confirmations of a channel, and the lists of awaited outputs (R136 to R141). -/

namespace Sys2Proof.Machine

variable {s t u : State} {c : Fin 16} {k : Fin 8}

/-! ### Backup lines -/

theorem lineCondition_iff (s : State) (l : Fin 2) : lineCondition s l = true ↔ s.mode = .run ∧ ∃ j : Fin 16, halfOf j = l ∧
    (s.channel j).state.asserted = true ∧ (s.channel j).confirmation = .missing := by
  unfold lineCondition
  rw [Bool.and_eq_true, decide_eq_true_iff, List.any_eq_true]
  refine and_congr_right fun _ => ⟨fun ⟨j, _, holds⟩ => ⟨j, ?_⟩, fun ⟨j, half, asserted, missing⟩ => ⟨j, ?_, ?_⟩⟩
  · rw [Bool.and_eq_true, Bool.and_eq_true, decide_eq_true_iff, decide_eq_true_iff, and_assoc] at holds
    exact holds
  · refine Table.mem_keys_of_get_ne (d := {}) fun initial => ?_
    have state : (s.channel j).state = .normal := congrArg Channel.state initial
    rw [state] at asserted
    exact nomatch asserted
  · rw [Bool.and_eq_true, Bool.and_eq_true, decide_eq_true_iff, decide_eq_true_iff, and_assoc]
    exact ⟨half, asserted, missing⟩

theorem State.onlyAnnunciation.line (only : s.onlyAnnunciation t) (l : Fin 2) : t.bktDrivenLow l = s.bktDrivenLow l := by
  unfold State.onlyAnnunciation at only
  rw [only]
  rfl

/-- A line judged, and the other as it was (R141). -/
theorem judgeLine_lines {l : Fin 2} (mode : u.mode = s.mode) (lines : ∀ j, u.bktDrivenLow j = s.bktDrivenLow j) :
    ((judgeLine l u).bktDrivenLow l = true ↔ s.mode = .run ∧ ∃ j : Fin 16, halfOf j = l ∧
      ((judgeLine l u).channel j).state.asserted = true ∧ ((judgeLine l u).channel j).confirmation = .missing) ∧
    ∀ j, j ≠ l → (judgeLine l u).bktDrivenLow j = s.bktDrivenLow j := by
  refine ⟨?_, fun j other => ?_⟩
  · rw [judgeLine_line, if_pos rfl, lineCondition_iff, mode]
    simp only [judgeLine_channel]
  · rw [judgeLine_line, if_neg other]
    exact lines j

/-! ### MISSING and CONFIRMED -/

theorem becomeMissing_eq (fresh : (s.channel c).confirmation ≠ .missing) : becomeMissing c s = judgeLine (halfOf c)
    (activateAt s.settings.systemWindow none (channelRecord .confirmMissing c (s.setChannel c { s.channel c with confirmation := .missing }))) := by
  have settings : (channelRecord .confirmMissing c (s.setChannel c { s.channel c with confirmation := .missing })).settings = s.settings :=
    ((setChannel_moves c { s.channel c with confirmation := .missing } s).record .confirmMissing).settings
  rw [← settings]
  exact if_neg fresh

theorem becomeMissing_again (missing : (s.channel c).confirmation = .missing) : becomeMissing c s = s := if_pos missing

theorem becomeConfirmed_restored (missing : (s.channel c).confirmation = .missing) (byMatch : Bool) : becomeConfirmed byMatch c s =
    judgeLine (halfOf c) (clearAt s.settings.systemWindow
      (if byMatch then channelRecord .confirmRestored c (s.setChannel c { s.channel c with confirmation := .confirmed })
       else s.setChannel c { s.channel c with confirmation := .confirmed })) := by
  cases byMatch with
  | true =>
    have settings : (channelRecord .confirmRestored c (s.setChannel c { s.channel c with confirmation := .confirmed })).settings = s.settings :=
      ((setChannel_moves c { s.channel c with confirmation := .confirmed } s).record .confirmRestored).settings
    rw [← settings]
    exact if_pos missing
  | false => exact if_pos missing

theorem becomeConfirmed_plain (fresh : (s.channel c).confirmation ≠ .missing) (byMatch : Bool) : becomeConfirmed byMatch c s =
    s.setChannel c { s.channel c with confirmation := .confirmed } := if_neg fresh

theorem becomeMissing_moves (fresh : (s.channel c).confirmation ≠ .missing) : ChannelMoves c s (becomeMissing c s)
    { s.channel c with confirmation := .missing } s.trip.waiting (activateAt s.settings.systemWindow none s).ann
    (offerNow .confirmMissing .trip c.val 0 0 s).events := by
  rw [becomeMissing_eq fresh]
  exact (((setChannel_moves c _ s).record .confirmMissing).activated _).judged _

theorem becomeConfirmed_moves (missing : (s.channel c).confirmation = .missing) (byMatch : Bool) : ChannelMoves c s (becomeConfirmed byMatch c s)
    { s.channel c with confirmation := .confirmed } s.trip.waiting (clearAt s.settings.systemWindow s).ann
    (if byMatch then (offerNow .confirmRestored .trip c.val 0 0 s).events else s.events) := by
  rw [becomeConfirmed_restored missing]
  cases byMatch with
  | true => exact (((setChannel_moves c _ s).record .confirmRestored).cleared _).judged _
  | false => exact ((setChannel_moves c _ s).cleared _).judged _

theorem channelRecord_line (kind : RecordKind) (c : Fin 16) (s : State) (l : Fin 2) : (channelRecord kind c s).bktDrivenLow l = s.bktDrivenLow l :=
  (channelRecord_touches kind c s).ann.line l

theorem becomeMissing_lines (fresh : (s.channel c).confirmation ≠ .missing) :
    ((becomeMissing c s).bktDrivenLow (halfOf c) = true ↔ s.mode = .run ∧ ∃ j : Fin 16, halfOf j = halfOf c ∧
      ((becomeMissing c s).channel j).state.asserted = true ∧ ((becomeMissing c s).channel j).confirmation = .missing) ∧
    ∀ l, l ≠ halfOf c → (becomeMissing c s).bktDrivenLow l = s.bktDrivenLow l := by
  rw [becomeMissing_eq fresh]
  have moves := ((setChannel_moves c { s.channel c with confirmation := .missing } s).record .confirmMissing).activated s.settings.systemWindow
  exact judgeLine_lines moves.mode fun l => ((activateAt_touches _ _ _).line l).trans (channelRecord_line _ _ _ l)

theorem becomeConfirmed_lines (missing : (s.channel c).confirmation = .missing) (byMatch : Bool) :
    ((becomeConfirmed byMatch c s).bktDrivenLow (halfOf c) = true ↔ s.mode = .run ∧ ∃ j : Fin 16, halfOf j = halfOf c ∧
      ((becomeConfirmed byMatch c s).channel j).state.asserted = true ∧ ((becomeConfirmed byMatch c s).channel j).confirmation = .missing) ∧
    ∀ l, l ≠ halfOf c → (becomeConfirmed byMatch c s).bktDrivenLow l = s.bktDrivenLow l := by
  rw [becomeConfirmed_restored missing]
  have plain := setChannel_moves c { s.channel c with confirmation := .confirmed } s
  cases byMatch with
  | true =>
    exact judgeLine_lines ((plain.record .confirmRestored).cleared s.settings.systemWindow).mode fun l =>
      ((clearAt_touches _ _).line l).trans (channelRecord_line _ _ _ l)
  | false => exact judgeLine_lines (plain.cleared s.settings.systemWindow).mode fun l => (clearAt_touches _ _).line l

/-! ### Confirmations change nothing else of the Channel Unit -/

/-- The output modules and the TRIP waiting list are the same, and nothing beyond the Channel Unit and its deliveries differs. -/
def State.confirms (s t : State) : Prop := s.onlyChannels t ∧ t.trip.outputs = s.trip.outputs ∧ t.trip.waiting = s.trip.waiting

theorem State.confirms.refl (s : State) : s.confirms s := ⟨.refl s, rfl, rfl⟩

theorem State.confirms.trans (h : s.confirms t) (k : t.confirms u) : s.confirms u :=
  ⟨h.1.trans k.1, k.2.1.trans h.2.1, k.2.2.trans h.2.2⟩

theorem ChannelMoves.confirms {v : Channel} {ann : Annunciator} {events : EventQueue}
    (h : ChannelMoves c s t v s.trip.waiting ann events) : s.confirms t := ⟨h.only, h.outputs, h.waits⟩

/-- An operation on one channel: `φ` of its entry, nothing else of any channel or module. -/
structure ActsOn (c : Fin 16) (φ : Channel → Channel) (s t : State) : Prop where
  confirms : s.confirms t
  own : t.channel c = φ (s.channel c)
  others : ∀ j, j ≠ c → t.channel j = s.channel j

theorem ChannelMoves.acts {φ : Channel → Channel} {ann : Annunciator} {events : EventQueue}
    (h : ChannelMoves c s t (φ (s.channel c)) s.trip.waiting ann events) : ActsOn c φ s t := ⟨h.confirms, h.own, h.others⟩

theorem becomeMissing_acts (c : Fin 16) (s : State) : ActsOn c (fun v => { v with confirmation := .missing }) s (becomeMissing c s) := by
  by_cases missing : (s.channel c).confirmation = .missing
  · rw [becomeMissing_again missing]
    refine ⟨.refl s, ?_, fun _ _ => rfl⟩
    generalize s.channel c = v at missing ⊢
    cases v
    cases missing
    rfl
  · exact (becomeMissing_moves missing).acts

theorem becomeConfirmed_acts (byMatch : Bool) (c : Fin 16) (s : State) :
    ActsOn c (fun v => { v with confirmation := .confirmed }) s (becomeConfirmed byMatch c s) := by
  by_cases missing : (s.channel c).confirmation = .missing
  · exact (becomeConfirmed_moves missing byMatch).acts
  · rw [becomeConfirmed_plain missing]
    exact (setChannel_moves c _ s).acts

/-! ### The channel of an output -/

/-- A channel is defined as output `o` of module `k`. -/
def Channel.feeds (k : Fin 8) (o : Fin 16) (v : Channel) : Bool :=
  match v.defn with
  | some d => decide (d.outputModule = k ∧ d.output = o)
  | none => false

theorem Channel.feeds_iff (k : Fin 8) (o : Fin 16) (v : Channel) :
    v.feeds k o = true ↔ ∃ d, v.defn = some d ∧ d.outputModule = k ∧ d.output = o := by
  unfold Channel.feeds
  cases v.defn with
  | none => exact ⟨nofun, fun ⟨_, no, _⟩ => nomatch no⟩
  | some d => exact decide_eq_true_iff.trans ⟨fun both => ⟨d, rfl, both⟩, fun ⟨_, same, both⟩ => Option.some.inj same ▸ both⟩

/-- The channel of an output, searched by rising number. -/
def State.servedBy (s : State) (k : Fin 8) (o : Fin 16) : Option (Fin 16) := (List.finRange 16).find? fun c => (s.channel c).feeds k o

/-- No output is two channels' (R129). -/
def State.outputsApart (s : State) : Prop := ∀ (b c : Fin 16) (x y : ChannelDef), (s.channel b).defn = some x → (s.channel c).defn = some y →
  x.outputModule = y.outputModule → x.output = y.output → b = c

theorem State.outputsApart.feeds (apart : s.outputsApart) {o : Fin 16} {b c : Fin 16} (hb : (s.channel b).feeds k o = true)
    (hc : (s.channel c).feeds k o = true) : b = c := by
  obtain ⟨x, hx, modX, outX⟩ := (Channel.feeds_iff k o _).mp hb
  obtain ⟨y, hy, modY, outY⟩ := (Channel.feeds_iff k o _).mp hc
  exact apart b c x y hx hy (modX.trans modY.symm) (outX.trans outY.symm)

theorem find?_some_iff_of_unique {α : Type} {q : α → Bool} {l : List α} (once : ∀ a b, q a = true → q b = true → a = b)
    (listed : ∀ a, q a = true → a ∈ l) (a : α) : l.find? q = some a ↔ q a = true := by
  constructor
  · exact fun found => List.find?_some found
  · intro holds
    obtain ⟨b, found⟩ := Option.isSome_iff_exists.mp (List.find?_isSome.mpr ⟨a, listed a holds, holds⟩)
    rw [found, once b a (List.find?_some found) holds]

theorem servedBy_iff (apart : s.outputsApart) (k : Fin 8) (o c : Fin 16) : s.servedBy k o = some c ↔ (s.channel c).feeds k o = true :=
  find?_some_iff_of_unique (q := fun c => (s.channel c).feeds k o) (fun _ _ hb hc => apart.feeds hb hc) (fun _ _ => List.mem_finRange _) c

theorem channelAt_iff (apart : s.outputsApart) (k : Fin 8) (o c : Fin 16) : channelAt s k o = some c ↔ (s.channel c).feeds k o = true := by
  refine find?_some_iff_of_unique (q := fun c => (s.channel c).feeds k o) (fun _ _ hb hc => apart.feeds hb hc) (fun b hb => ?_) c
  obtain ⟨d, defined, -⟩ := (Channel.feeds_iff k o _).mp hb
  rw [mem_definedChannels, defined]
  rfl

theorem channelAt_eq (apart : s.outputsApart) (same : ∀ c, (t.channel c).defn = (s.channel c).defn) (k : Fin 8) (o : Fin 16) :
    channelAt t k o = s.servedBy k o := by
  have apart' : t.outputsApart := fun b c x y => by rw [same, same]; exact apart b c x y
  have feeds (c : Fin 16) : (t.channel c).feeds k o = (s.channel c).feeds k o := by unfold Channel.feeds; rw [same]
  refine Option.ext fun c => ?_
  rw [channelAt_iff apart', servedBy_iff apart, feeds]

/-! ### A list of outputs, taken one by one -/

section
variable {β : Type} {pairs : List (Fin 16 × β)} {f : Fin 16 × β → State → State} {act : Fin 16 × β → Fin 16 → State → State}
  {φ : Fin 16 × β → Channel → Channel}

/-- Each listed output's channel takes its act. -/
def served (s : State) (k : Fin 8) (act : Fin 16 × β → Fin 16 → State → State) (x : Fin 16 × β) (u : State) : State :=
  match s.servedBy k x.1 with
  | some c => act x c u
  | none => u

theorem served_confirms (acts : ∀ x c u, ActsOn c (φ x) u (act x c u)) (x : Fin 16 × β) (u : State) : u.confirms (served s k act x u) := by
  unfold served
  cases s.servedBy k x.1 with
  | none => exact .refl u
  | some c => exact (acts x c u).confirms

theorem served_channel (acts : ∀ x c u, ActsOn c (φ x) u (act x c u)) (x : Fin 16 × β) (u : State) (c : Fin 16) :
    (served s k act x u).channel c = if s.servedBy k x.1 = some c then φ x (u.channel c) else u.channel c := by
  unfold served
  cases s.servedBy k x.1 with
  | none => exact (if_neg nofun).symm
  | some b =>
    by_cases same : c = b
    · rw [same, if_pos rfl]
      exact (acts x b u).own
    · rw [if_neg fun eq => same (Option.some.inj eq).symm]
      exact (acts x b u).others c same

/-- The model searches the channel of each output as the definitions stand at its turn, and these stay. -/
theorem each_served (apart : s.outputsApart) (acts : ∀ x c u, ActsOn c (φ x) u (act x c u)) (defn : ∀ x v, (φ x v).defn = v.defn)
    (searches : ∀ x u, f x u = (channelAt u k x.1).elim u fun c => act x c u) (start : ∀ c, (t.channel c).defn = (s.channel c).defn) :
    State.each pairs f t = State.each pairs (served s k act) t := by
  have same (x : Fin 16 × β) (u : State) (hu : ∀ c, (u.channel c).defn = (s.channel c).defn) : f x u = served s k act x u := by
    rw [searches, channelAt_eq apart hu]
    unfold served
    cases s.servedBy k x.1 with
    | none => rfl
    | some c => rfl
  refine State.each_congr (P := fun u => ∀ c, (u.channel c).defn = (s.channel c).defn) (fun x _ u hu c => ?_) (fun x _ u hu => same x u hu) start
  rw [same x u hu, served_channel acts]
  split
  · exact (defn x _).trans (hu c)
  · exact hu c

theorem each_served_confirms (acts : ∀ x c u, ActsOn c (φ x) u (act x c u)) (t : State) : t.confirms (State.each pairs (served s k act) t) :=
  State.each_rel State.confirms.refl State.confirms.trans (served_confirms acts) _ t

theorem each_served_unlisted (acts : ∀ x c u, ActsOn c (φ x) u (act x c u)) (c : Fin 16) (unlisted : ∀ x ∈ pairs, s.servedBy k x.1 ≠ some c) :
    (State.each pairs (served s k act) t).channel c = t.channel c := by
  induction pairs generalizing t with
  | nil => rfl
  | cons x pairs ih =>
    rw [State.each_cons, ih fun y hy => unlisted y (List.mem_cons_of_mem x hy), served_channel acts, if_neg (unlisted x List.mem_cons_self)]

theorem each_served_listed (acts : ∀ x c u, ActsOn c (φ x) u (act x c u)) (once : (pairs.map fun x => x.1).Nodup) {c : Fin 16}
    (single : ∀ o p, s.servedBy k o = some c → s.servedBy k p = some c → o = p) {x : Fin 16 × β} (listed : x ∈ pairs)
    (serves : s.servedBy k x.1 = some c) : (State.each pairs (served s k act) t).channel c = φ x (t.channel c) := by
  induction pairs generalizing t with
  | nil => exact nomatch listed
  | cons y pairs ih =>
    rw [List.map_cons, List.nodup_cons] at once
    obtain ⟨absent, once⟩ := once
    rw [State.each_cons]
    rcases List.mem_cons.mp listed with rfl | later
    · rw [each_served_unlisted acts c fun z hz also => absent ?_, served_channel acts, if_pos serves]
      rw [single _ _ serves also]
      exact List.mem_map_of_mem (f := fun x => x.1) hz
    · rw [ih once later, served_channel acts, if_neg fun also => absent ?_]
      rw [single _ _ also serves]
      exact List.mem_map_of_mem (f := fun x => x.1) later

end

theorem servedBy_single (apart : s.outputsApart) {c : Fin 16} (o p : Fin 16) (ho : s.servedBy k o = some c) (hp : s.servedBy k p = some c) : o = p := by
  obtain ⟨d, defined, -, out⟩ := (Channel.feeds_iff k o _).mp ((servedBy_iff apart k o c).mp ho)
  obtain ⟨e, same, -, also⟩ := (Channel.feeds_iff k p _).mp ((servedBy_iff apart k p c).mp hp)
  rw [← out, ← also, Option.some.inj (defined.symm.trans same)]

theorem servedBy_of {d : ChannelDef} (apart : s.outputsApart) (defined : (s.channel c).defn = some d) (hosted : d.outputModule = k) :
    s.servedBy k d.output = some c := (servedBy_iff apart k d.output c).mpr ((Channel.feeds_iff _ _ _).mpr ⟨d, defined, hosted, rfl⟩)

end Sys2Proof.Machine

/-! TRIP frames, CONFIRM frames and the confirm deadline (R136 to R141). -/

namespace Sys2Proof.Machine

variable {s t u : State} {c : Fin 16} {k : Fin 8}

/-! ### The expiry of a deadline (R139) -/

/-- A channel that awaits its confirmation misses it. -/
def Channel.missed (v : Channel) : Channel := if v.confirmation = .awaiting then { v with confirmation := .missing } else v

/-- A channel that awaits its confirmation becomes MISSING. -/
def expireAt (_ : Fin 16 × Bool) (c : Fin 16) (s : State) : State := if (s.channel c).confirmation = .awaiting then becomeMissing c s else s

theorem expireAt_acts (x : Fin 16 × Bool) (c : Fin 16) (s : State) : ActsOn c Channel.missed s (expireAt x c s) := by
  unfold expireAt
  by_cases waits : (s.channel c).confirmation = .awaiting
  · rw [if_pos waits]
    have acts := becomeMissing_acts c s
    refine ⟨acts.confirms, acts.own.trans (if_pos waits).symm, acts.others⟩
  · rw [if_neg waits]
    exact ⟨.refl s, (if_neg waits).symm, fun _ _ => rfl⟩

theorem Channel.missed_defn (v : Channel) : v.missed.defn = v.defn := by
  unfold Channel.missed
  split
  · rfl
  · rfl

theorem expireChannel_searches (k : Fin 8) (x : Fin 16 × Bool) (u : State) :
    expireChannel k x u = (channelAt u k x.1).elim u fun c => expireAt x c u := by
  unfold expireChannel
  cases channelAt u k x.1 with
  | none => rfl
  | some c => rfl

theorem deadlineExpiry_eq (apart : s.outputsApart) (due : (s.outputModule k).deadline = .running 0) : deadlineExpiry k s =
    State.each (s.outputModule k).awaited (served s k expireAt) (s.setOutputModule k { s.outputModule k with deadline := .passed }) :=
  (if_pos due).trans (each_served apart (φ := fun _ => Channel.missed) expireAt_acts (fun _ => Channel.missed_defn) (expireChannel_searches k)
    fun _ => rfl)

/-- A module's entry put, before its channels are judged. -/
theorem setOutputModule_then {v : OutputModule} (after : (s.setOutputModule k v).confirms t) : s.onlyChannels t ∧ t.trip.waiting = s.trip.waiting ∧
    t.outputModule k = v ∧ ∀ j, j ≠ k → t.outputModule j = s.outputModule j := by
  obtain ⟨only, outputs, waits⟩ := after
  have modules (j : Fin 8) : t.outputModule j = (s.setOutputModule k v).outputModule j := by unfold State.outputModule; rw [outputs]
  refine ⟨(setOutputModule_touches k v s).trans only, waits, ?_, fun j other => ?_⟩
  · rw [modules, State.setOutputModule_outputModule_self]
  · rw [modules, State.setOutputModule_outputModule_ne _ _ other]

/-- Settles O44. -/
theorem deadlineExpiryMissesTheAwaited : Obligations.DeadlineExpiryMissesTheAwaited := by
  refine ⟨?_, ?_⟩
  · intro k s high sound due
    obtain ⟨apart, once⟩ := sound
    have acts := expireAt_acts
    obtain ⟨only, waits, own, others⟩ := setOutputModule_then (each_served_confirms (s := s) (k := k) (φ := fun _ => Channel.missed)
      (pairs := (s.outputModule k).awaited) acts (s.setOutputModule k { s.outputModule k with deadline := .passed }))
    refine ⟨_, (running_high high _).trans (congrArg _ (deadlineExpiry_eq apart due)), rfl, only, waits, own, others, ?_⟩
    intro c x
    have channel (b : Fin 16) : (s.setOutputModule k { s.outputModule k with deadline := .passed }).channel b = s.channel b := rfl
    refine ⟨fun d value defined hosted listed waiting => ?_, fun unlisted => ?_⟩
    · rw [each_served_listed (φ := fun _ => Channel.missed) acts (once k) (servedBy_single apart) listed (servedBy_of apart defined hosted), channel]
      exact if_pos waiting
    · by_cases found : ∃ y ∈ (s.outputModule k).awaited, s.servedBy k y.1 = some c
      · obtain ⟨⟨o, value⟩, listed, serves⟩ := found
        rw [each_served_listed (φ := fun _ => Channel.missed) acts (once k) (servedBy_single apart) listed serves, channel]
        obtain ⟨d, defined, hosted, rfl⟩ := (Channel.feeds_iff k o _).mp ((servedBy_iff apart k o c).mp serves)
        exact if_neg fun waiting => unlisted d value defined hosted waiting listed
      · exact each_served_unlisted (φ := fun _ => Channel.missed) acts c fun y hy serves => found ⟨y, hy, serves⟩
  · intro c s becomes
    refine ⟨fun fresh => ?_, fun missing => ⟨becomeMissing_again missing, ?_, ?_⟩, fun fresh m => becomeConfirmed_plain fresh m⟩
    · have moves := becomeMissing_moves fresh
      obtain ⟨line, other⟩ := becomeMissing_lines fresh
      exact ⟨moves.only, moves.own, moves.others, moves.outputs, moves.waits, moves.queue, moves.panel, line, other⟩
    · have moves := becomeConfirmed_moves missing true
      obtain ⟨line, other⟩ := becomeConfirmed_lines missing true
      exact ⟨moves.only, moves.own, moves.others, moves.outputs, moves.waits, moves.queue, moves.panel, line, other⟩
    · have moves := becomeConfirmed_moves missing false
      obtain ⟨line, other⟩ := becomeConfirmed_lines missing false
      exact ⟨moves.only, moves.own, moves.others, moves.outputs, moves.waits, moves.queue, moves.panel, line, other⟩

/-! ### CONFIRM frames (R137, R138) -/

/-- A channel judged by what its module reports. -/
def Channel.judgedBy (pairs : List (Byte × Byte)) (x : Fin 16 × Bool) (v : Channel) : Channel :=
  { v with confirmation := if reported pairs x.1 = some x.2 then .confirmed else .missing }

def confirmAt (pairs : List (Byte × Byte)) (x : Fin 16 × Bool) (c : Fin 16) (s : State) : State :=
  if reported pairs x.1 = some x.2 then becomeConfirmed true c s else becomeMissing c s

theorem confirmAt_acts (pairs : List (Byte × Byte)) (x : Fin 16 × Bool) (c : Fin 16) (s : State) :
    ActsOn c (Channel.judgedBy pairs x) s (confirmAt pairs x c s) := by
  unfold confirmAt Channel.judgedBy
  split
  · exact becomeConfirmed_acts true c s
  · exact becomeMissing_acts c s

theorem judgeConfirm_searches (k : Fin 8) (pairs : List (Byte × Byte)) (x : Fin 16 × Bool) (u : State) :
    judgeConfirm k pairs x u = (channelAt u k x.1).elim u fun c => confirmAt pairs x c u := by
  unfold judgeConfirm
  cases channelAt u k x.1 with
  | none => rfl
  | some c => rfl

theorem matchConfirm_matching {seq : Nat} (apart : s.outputsApart) (awaited : (s.outputModule k).awaitedSeq = some seq)
    (pairs : List (Byte × Byte)) : matchConfirm k seq pairs s = State.each (s.outputModule k).awaited (served s k (confirmAt pairs))
      (s.setOutputModule k { s.outputModule k with awaitedSeq := none, awaited := [], deadline := .stopped }) :=
  (if_pos awaited).trans (each_served apart (confirmAt_acts pairs) (fun _ _ => rfl) (judgeConfirm_searches k pairs) fun _ => rfl)

theorem matchConfirm_stray {seq : Nat} (other : (s.outputModule k).awaitedSeq ≠ some seq) (pairs : List (Byte × Byte)) :
    matchConfirm k seq pairs s = s.setOutputModule k { s.outputModule k with stray := saturate (s.outputModule k).stray } := if_neg other

theorem handleConfirm_parsed {f : Frame} {seq : Nat} {pairs : List (Byte × Byte)} (source : outputModuleAt s f.src = some k)
    (parsed : parseConfirm f.payload = some (seq, pairs)) : handleConfirm f s = matchConfirm k seq pairs s := by
  unfold handleConfirm
  rw [source]
  dsimp only
  rw [parsed]

theorem handleConfirm_malformed {f : Frame} (source : outputModuleAt s f.src = some k) (malformed : parseConfirm f.payload = none) :
    handleConfirm f s = s.setOutputModule k { s.outputModule k with malformed := saturate (s.outputModule k).malformed } := by
  unfold handleConfirm
  rw [source]
  dsimp only
  rw [malformed]

theorem handleConfirm_unknown {f : Frame} (unknown : outputModuleAt s f.src = none) :
    handleConfirm f s = { s with unknownConfirms := saturate s.unknownConfirms } := by
  unfold handleConfirm
  rw [unknown]
  rfl

theorem exec_confirmFrame {before after : List Held} {h : Held} (high : s.resetLow = false) (settled : s.flowSettled)
    (buffered : s.portB.buf = before ++ h :: after) (owned : Held.owned 0x62 h = true) (others : ∀ k ∈ before, Held.owned 0x62 k = false)
    (kept : (handleConfirm h.frame s).portA = s.portA ∧ (handleConfirm h.frame s).portB = s.portB ∧
      (handleConfirm h.frame s).settings = s.settings) : exec .confirmFrame s =
      .next { handleConfirm h.frame s with
        portB := (handleConfirm h.frame s).portB.withGiven (handleConfirm h.frame s).settings.lowB (before ++ after) } := by
  have taken : confirmFrame s = givePlace .B (Held.owned kindConfirm) (handleConfirm h.frame s) := by
    unfold confirmFrame
    rw [(nextOwned_split (p := .B) (kind := kindConfirm) buffered owned others).1]
  refine (running_high high _).trans (congrArg _ (taken.trans ?_))
  exact givePlace_B (settled.of_same kept.1 kept.2.1 kept.2.2) (kept.2.1 ▸ buffered) owned others

/-! ### The payload of a CONFIRM frame -/

/-- A pair of a payload's body, by its place. -/
def pairAt (body : List Byte) (i : Nat) : Byte × Byte := (body.getD (2 * i) 0, body.getD (2 * i + 1) 0)

theorem confirmPairs_eq (n : Nat) (body : List Byte) (whole : body.length = 2 * n) : confirmPairs body = (List.range n).map (pairAt body) := by
  induction n generalizing body with
  | zero =>
    rw [List.eq_nil_of_length_eq_zero whole]
    rfl
  | succ n ih =>
    match body, whole with
    | o :: v :: rest, whole =>
      have shorter : rest.length = 2 * n := by simpa [Nat.mul_succ] using whole
      have shifted : (pairAt (o :: v :: rest)) ∘ Nat.succ = pairAt rest := rfl
      rw [List.range_succ_eq_map, List.map_cons, List.map_map, shifted, ← ih rest shorter]
      rfl

theorem parseConfirm_cons (b c : Byte) (body : List Byte) : parseConfirm (b :: c :: body) =
    if body.length = 2 * c.toNat ∧ c.toNat ≤ 16 ∧ (confirmPairs body).all (fun p => p.2 == 0x00 || p.2 == 0x01)
    then some (b.toNat, confirmPairs body) else none := rfl

theorem twoValues_iff (v : Byte) : (v == 0x00 || v == 0x01) = true ↔ v.toNat ≤ 1 := by
  rw [Bool.or_eq_true, beq_iff_eq, beq_iff_eq]
  constructor
  · rintro (rfl | rfl)
    · decide
    · decide
  · intro small
    have cases : v.toNat = 0 ∨ v.toNat = 1 := by omega
    exact cases.imp BitVec.eq_of_toNat_eq BitVec.eq_of_toNat_eq

theorem all_pairs_iff (n : Nat) (body : List Byte) : ((List.range n).map (pairAt body)).all (fun p => p.2 == 0x00 || p.2 == 0x01) = true ↔
    ∀ i < n, (pairAt body i).2.toNat ≤ 1 := by
  rw [List.all_map, List.all_eq_true]
  refine forall_congr' fun i => ?_
  rw [List.mem_range]
  exact imp_congr_right fun _ => twoValues_iff _

theorem reported_none {pairs : List (Byte × Byte)} {o : Fin 16} (none : ∀ x ∈ pairs, x.1.toNat ≠ o.val) : reported pairs o = Option.none := by
  have missing : pairs.reverse.find? (fun p => decide (p.1.toNat = o.val)) = Option.none :=
    List.find?_eq_none.mpr fun x hx found => none x (List.mem_reverse.mp hx) (of_decide_eq_true found)
  unfold reported
  rw [missing]

theorem reported_last {before after : List (Byte × Byte)} {n v : Byte} {o : Fin 16} (names : n.toNat = o.val)
    (last : ∀ x ∈ after, x.1.toNat ≠ o.val) : reported (before ++ (n, v) :: after) o = some (decide (v = 0x01)) := by
  have missing : after.reverse.find? (fun p => decide (p.1.toNat = o.val)) = none :=
    List.find?_eq_none.mpr fun x hx found => last x (List.mem_reverse.mp hx) (of_decide_eq_true found)
  have found : (before ++ (n, v) :: after).reverse.find? (fun p => decide (p.1.toNat = o.val)) = some (n, v) := by
    rw [List.reverse_append, List.reverse_cons, List.find?_append, List.find?_append, missing]
    simp [names]
  unfold reported
  rw [found]
  rfl

theorem outputModuleAt_iff (a : Byte) (s : State) : (∀ k, outputModuleAt s a = some k → (s.outputModule k).address = some a.toNat) ∧
    (outputModuleAt s a = none ↔ ∀ k, (s.outputModule k).address ≠ some a.toNat) := by
  unfold outputModuleAt
  refine ⟨fun k found => of_decide_eq_true
    (List.find?_some (p := fun k => decide ((s.outputModule k).address = some a.toNat)) found), ?_⟩
  rw [List.find?_eq_none]
  exact ⟨fun none k held => none k (List.mem_finRange k) (decide_eq_true held), fun none k _ held => none k (of_decide_eq_true held)⟩

/-- Settles O43. -/
theorem confirmFrameIsMatched : Obligations.ConfirmFrameIsMatched := by
  refine ⟨outputModuleAt_iff, ?_, ?_, fun o => ⟨fun pairs => reported_none, fun before after n v => reported_last⟩⟩
  · intro before after h s high settled sound buffered owned others given
    obtain ⟨apart, once⟩ := sound
    have row := exec_confirmFrame high settled buffered owned others
    refine ⟨fun unknown => ?_, ?_⟩
    · have handled := handleConfirm_unknown (f := h.frame) unknown
      rw [handled] at row
      exact row ⟨rfl, rfl, rfl⟩
    · intro k source v
      refine ⟨fun malformed => ?_, fun seq pairs parsed => ⟨fun other => ?_, fun awaited => ?_⟩⟩
      · rw [handleConfirm_malformed source malformed] at row
        exact row ⟨rfl, rfl, rfl⟩
      · rw [handleConfirm_parsed source parsed, matchConfirm_stray other] at row
        exact row ⟨rfl, rfl, rfl⟩
      · have acts := confirmAt_acts pairs
        obtain ⟨only, waits, own, apartOthers⟩ := setOutputModule_then (each_served_confirms (s := s) (k := k) (pairs := v.awaited) acts
          (s.setOutputModule k { v with awaitedSeq := none, awaited := [], deadline := .stopped }))
        rw [handleConfirm_parsed source parsed, matchConfirm_matching apart awaited] at row
        refine ⟨_, row ?_, rfl, only, waits, own, apartOthers, ?_⟩
        · unfold State.onlyChannels at only
          rw [only]
          exact ⟨rfl, rfl, rfl⟩
        · intro c x
          refine ⟨fun d value defined hosted listed => ?_, fun unlisted => ?_⟩
          · exact each_served_listed acts (once k) (servedBy_single apart) listed (servedBy_of apart defined hosted)
          · refine each_served_unlisted acts c fun y hy serves => ?_
            obtain ⟨o, value⟩ := y
            obtain ⟨d, defined, hosted, rfl⟩ := (Channel.feeds_iff k o _).mp ((servedBy_iff apart k o c).mp serves)
            exact unlisted d value defined hosted hy
  · intro b c body pair
    refine ⟨rfl, rfl, fun wrong => ?_, fun most whole => ⟨fun odd => ?_, fun plain => ?_⟩⟩
    · rw [parseConfirm_cons]
      exact if_neg fun both => by omega
    · rw [parseConfirm_cons, confirmPairs_eq c.toNat body whole]
      obtain ⟨i, below, high⟩ := odd
      exact if_neg fun all => absurd ((all_pairs_iff c.toNat body).mp all.2.2 i below) (Nat.not_le.mpr high)
    · rw [parseConfirm_cons, confirmPairs_eq c.toNat body whole]
      exact if_pos ⟨whole, most, (all_pairs_iff c.toNat body).mpr plain⟩

/-! ### TRIP frames (R136) -/

theorem hostedBy_contains (k : Fin 8) (c : Fin 16) (s : State) :
    (hostedBy s k).contains c = true ↔ ∃ d, (s.channel c).defn = some d ∧ d.outputModule = k :=
  List.contains_iff_mem.trans (mem_hostedBy s k c)

/-- The pair of an output, where a channel is defined as it. -/
def pairOf (s : State) (k : Fin 8) (o : Fin 16) : Option (Fin 16 × Bool) := (channelAt s k o).map fun c => (o, (s.channel c).state.asserted)

theorem tripPairs_eq (s : State) (k : Fin 8) : tripPairs s k = (List.finRange 16).filterMap (pairOf s k) := by
  unfold tripPairs pairOf
  refine congrFun (congrArg List.filterMap (funext fun o => ?_)) _
  cases channelAt s k o with
  | none => rfl
  | some c => rfl

theorem pairOf_iff (apart : s.outputsApart) (k : Fin 8) (p o : Fin 16) (x : Bool) : pairOf s k p = some (o, x) ↔
    p = o ∧ ∃ c, s.servedBy k o = some c ∧ x = (s.channel c).state.asserted := by
  unfold pairOf
  rw [channelAt_eq apart (fun _ => rfl), Option.map_eq_some_iff]
  constructor
  · rintro ⟨c, serves, pair⟩
    cases pair
    exact ⟨rfl, c, serves, rfl⟩
  · rintro ⟨rfl, c, serves, rfl⟩
    exact ⟨c, serves, rfl⟩

theorem mem_tripPairs (apart : s.outputsApart) (k : Fin 8) (o : Fin 16) (x : Bool) : (o, x) ∈ tripPairs s k ↔
    ∃ c, s.servedBy k o = some c ∧ x = (s.channel c).state.asserted := by
  rw [tripPairs_eq, List.mem_filterMap]
  simp only [pairOf_iff apart, List.mem_finRange, true_and, exists_eq_left]

theorem tripPairs_ascend (s : State) (k : Fin 8) : ((tripPairs s k).map (fun p => p.1)).Pairwise (fun x y => x < y) := by
  rw [tripPairs_eq, List.pairwise_map, List.pairwise_filterMap]
  have first (q : Fin 16) (z : Fin 16 × Bool) (hz : pairOf s k q = some z) : z.1 = q := by
    obtain ⟨c, -, rfl⟩ := Option.map_eq_some_iff.mp hz
    rfl
  refine (List.pairwise_lt_finRange 16).imp fun {o p} less a ha b hb => ?_
  rw [first o a ha, first p b hb]
  exact less

/-- One listed channel at a hand-over (R136 steps 1 and 4). -/
def commandAt (v : OutputModule) (x : Fin 16 × Bool) (c : Fin 16) (s : State) : State :=
  let w := s.setChannel c { s.channel c with commanded := x.2 }
  if v.deadline = .passed then becomeMissing c w
  else if (s.channel c).confirmation = .confirmed then w.setChannel c { s.channel c with commanded := x.2, confirmation := .awaiting }
  else w

/-- A commanded channel. -/
def Channel.awaited (v : OutputModule) (x : Fin 16 × Bool) (ch : Channel) : Channel :=
  { ch with
    commanded := x.2
    confirmation := if v.deadline = .passed then .missing else if ch.confirmation = .confirmed then .awaiting else ch.confirmation }

theorem commandAt_acts (v : OutputModule) (x : Fin 16 × Bool) (c : Fin 16) (s : State) : ActsOn c (Channel.awaited v x) s (commandAt v x c s) := by
  have put := setChannel_moves c { s.channel c with commanded := x.2 } s
  unfold commandAt Channel.awaited
  by_cases passed : v.deadline = .passed
  · simp only [if_pos passed]
    have missing := becomeMissing_acts c (s.setChannel c { s.channel c with commanded := x.2 })
    refine ⟨put.confirms.trans missing.confirms, ?_, fun j other => (missing.others j other).trans (put.others j other)⟩
    rw [missing.own, put.own]
  · simp only [if_neg passed]
    by_cases confirmed : (s.channel c).confirmation = .confirmed
    · simp only [if_pos confirmed]
      rw [State.setChannel_setChannel]
      have moves := setChannel_moves c { s.channel c with commanded := x.2, confirmation := .awaiting } s
      refine ⟨moves.confirms, moves.own.trans ?_, moves.others⟩
      rw [if_pos confirmed]
    · simp only [if_neg confirmed]
      refine ⟨put.confirms, put.own.trans ?_, put.others⟩
      rw [if_neg confirmed]

theorem atHandover_eq (v : OutputModule) : v.deadline.atHandover v.timeout = if v.deadline = .stopped then .running v.timeout else v.deadline := by
  cases v.deadline with
  | stopped => rfl
  | running n => exact (if_neg nofun).symm
  | passed => exact (if_neg nofun).symm

theorem atHandover_passed (v : OutputModule) : v.deadline.atHandover v.timeout = .passed ↔ v.deadline = .passed := by
  cases v.deadline with
  | stopped => exact ⟨nofun, nofun⟩
  | running n => exact ⟨nofun, nofun⟩
  | passed => exact ⟨fun _ => rfl, fun _ => rfl⟩

theorem commandChannel_eq (v : OutputModule) (x : Fin 16 × Bool) (c : Fin 16) (u : State) :
    commandChannel (decide (v.deadline.atHandover v.timeout = .passed)) c x.2 u = commandAt v x c u := by
  unfold commandChannel commandAt
  dsimp only
  rw [State.setChannel_channel_self]
  refine if_congr (decide_eq_true_iff.trans (atHandover_passed v)) rfl rfl

/-- The channels that a frame names are commanded. -/
theorem recordCommand_eq (apart : s.outputsApart) (same : ∀ c, (t.channel c).defn = (s.channel c).defn) (k : Fin 8) (seq : Nat)
    (pairs : List (Fin 16 × Bool)) : recordCommand k seq pairs t = State.each pairs (served s k (commandAt (t.outputModule k)))
      (t.setOutputModule k { t.outputModule k with
        awaitedSeq := some seq, awaited := pairs
        deadline := if (t.outputModule k).deadline = .stopped then .running (t.outputModule k).timeout else (t.outputModule k).deadline }) := by
  have searched := each_served (pairs := pairs) (k := k) (t := t.setOutputModule k { t.outputModule k with
      awaitedSeq := some seq, awaited := pairs, deadline := (t.outputModule k).deadline.atHandover (t.outputModule k).timeout })
    apart (commandAt_acts (t.outputModule k)) (fun _ _ => rfl) (f := fun p s => (channelAt s k p.1).elim s fun c =>
      commandChannel (decide ((t.outputModule k).deadline.atHandover (t.outputModule k).timeout = .passed)) c p.2 s)
    (fun x u => by simp only [commandChannel_eq]) same
  rw [← atHandover_eq, ← searched]
  unfold recordCommand
  refine congrFun (congrArg (State.each pairs) (funext fun x => funext fun u => ?_)) _
  cases channelAt u k x.1 with
  | none => rfl
  | some c => rfl

theorem tripHandover_eq {rest : List (Fin 8)} {a : Nat} (chosen : s.arbiterB = some .trip) (waiting : s.trip.waiting = k :: rest)
    (address : (s.outputModule k).address = some a) : tripHandover s = recordCommand k s.portB.txSeq (tripPairs s k)
      { s with portB := s.portB.sending s.node (lowByte a) 0x61 (tripPayload s k), trip := { s.trip with waiting := rest } } := by
  unfold tripHandover
  rw [if_pos chosen, waiting]
  dsimp only
  rw [address]
  dsimp only
  rw [originate_eq]
  rfl

theorem boolByte_eq (b : Bool) : boolByte b = if b then 0x01 else 0x00 := by cases b <;> rfl

theorem tripPayload_eq (s : State) (k : Fin 8) : tripPayload s k = [if s.mode = .test then 0x01 else 0x00, lowByte (tripPairs s k).length] ++
    (tripPairs s k).flatMap (fun p => [lowByte p.1.val, if p.2 then 0x01 else 0x00]) := by
  unfold tripPayload
  simp only [boolByte_eq, decide_eq_true_eq]

/-- Settles O42. -/
theorem tripHandoverAwaitsItsConfirm : Obligations.TripHandoverAwaitsItsConfirm := by
  refine ⟨hostedBy_contains, ?_⟩
  intro k rest a s high sound chosen waiting address v sent recorded
  have apart : s.outputsApart := sound.1
  have acts := commandAt_acts v
  have row : exec .tripHandover s = .next (State.each (tripPairs s k) (served s k (commandAt v))
      ({ s with portB := sent, trip := { s.trip with waiting := rest } }.setOutputModule k recorded)) := by
    refine (running_high high _).trans (congrArg _ ((tripHandover_eq chosen waiting address).trans ?_))
    rw [tripPayload_eq]
    exact recordCommand_eq (t := { s with portB := sent, trip := { s.trip with waiting := rest } }) apart (fun _ => rfl) k _ _
  obtain ⟨only, waits, own, others⟩ := setOutputModule_then (each_served_confirms (s := s) (k := k) (pairs := tripPairs s k) acts
    ({ s with portB := sent, trip := { s.trip with waiting := rest } }.setOutputModule k recorded))
  refine ⟨fun o x => ?_, tripPairs_ascend s k, _, row, rfl, ?_, ?_, waits, own, others, fun c => ?_⟩
  · rw [mem_tripPairs apart]
    constructor
    · rintro ⟨c, serves, value⟩
      obtain ⟨d, defined, hosted, output⟩ := (Channel.feeds_iff k o _).mp ((servedBy_iff apart k o c).mp serves)
      exact ⟨c, d, defined, hosted, output, value⟩
    · rintro ⟨c, d, defined, hosted, rfl, value⟩
      exact ⟨c, servedBy_of apart defined hosted, value⟩
  · unfold State.onlyChannels at only ⊢
    conv_lhs => rw [show State.each _ _ _ = _ from only]
  · unfold State.onlyChannels at only
    exact congrArg State.portB only
  · intro x
    by_cases hosts : (hostedBy s k).contains c = true
    · obtain ⟨d, defined, hosted⟩ := (hostedBy_contains k c s).mp hosts
      have serves := servedBy_of apart defined hosted
      have listed := (mem_tripPairs apart k d.output (s.channel c).state.asserted).mpr ⟨c, serves, rfl⟩
      have once : ((tripPairs s k).map fun p => p.1).Nodup := (tripPairs_ascend s k).imp fun less => ne_of_lt less
      exact .inr ⟨hosts, each_served_listed acts once (servedBy_single apart) listed serves⟩
    · refine .inl ⟨Bool.not_eq_true _ ▸ hosts, each_served_unlisted acts c fun y _ serves => hosts ?_⟩
      obtain ⟨d, defined, hosted, -⟩ := (Channel.feeds_iff k y.1 _).mp ((servedBy_iff apart k y.1 c).mp serves)
      exact (hostedBy_contains k c s).mpr ⟨d, defined, hosted⟩

end Sys2Proof.Machine

/-! The entries of output modules and of channels (R126, R129, R130, R140, R141). -/

namespace Sys2Proof.Machine

variable {s t u : State} {c : Fin 16} {k : Fin 8}

/-! ### The TRIP waiting list -/

/-- The TRIP waiting list alone differs. -/
def State.onlyWaits (s t : State) : Prop := t = { s with trip := { s.trip with waiting := t.trip.waiting } }

theorem joinTrip_waits (k : Fin 8) (s : State) : s.onlyWaits (joinTrip k s) := by
  unfold joinTrip
  split
  · rfl
  · rfl

theorem settleModule_waits (k : Fin 8) (s : State) : s.onlyWaits (settleModule k s) := by
  unfold settleModule
  split
  · rfl
  · exact joinTrip_waits k s

namespace State.onlyWaits

variable (h : s.onlyWaits t)

include h

theorem trans {u : State} (k : t.onlyWaits u) : s.onlyWaits u := by
  unfold State.onlyWaits at *
  rw [k, h]

theorem channels : s.onlyChannels t := by
  unfold State.onlyWaits at h
  rw [h]
  rfl

theorem channel (c : Fin 16) : t.channel c = s.channel c := by
  unfold State.onlyWaits at h
  rw [h]
  rfl

theorem outputModule (k : Fin 8) : t.outputModule k = s.outputModule k := by
  unfold State.onlyWaits at h
  rw [h]
  rfl

theorem line (l : Fin 2) : t.bktDrivenLow l = s.bktDrivenLow l := by
  unfold State.onlyWaits at h
  rw [h]
  rfl

theorem events : t.events = s.events := by
  unfold State.onlyWaits at h
  rw [h]

theorem ann : t.ann = s.ann := by
  unfold State.onlyWaits at h
  rw [h]

theorem hosted (k : Fin 8) : hostedBy t k = hostedBy s k := by
  unfold State.onlyWaits at h
  rw [h]
  rfl

end State.onlyWaits

theorem mem_joinTrip (k j : Fin 8) (s : State) : j ∈ (joinTrip k s).trip.waiting ↔
    j ∈ s.trip.waiting ∨ (j = k ∧ (s.outputModule k).address.isSome = true ∧ hostedBy s k ≠ []) := by
  rw [joinTrip_waiting]
  by_cases joins : (s.outputModule k).address.isSome ∧ hostedBy s k ≠ [] ∧ k ∉ s.trip.waiting
  · rw [if_pos joins, List.mem_append, List.mem_singleton]
    exact or_congr_right ⟨fun same => ⟨same, joins.1, joins.2.1⟩, fun both => both.1⟩
  · rw [if_neg joins]
    refine ⟨.inl, fun either => either.elim id fun ⟨same, present, hosts⟩ => ?_⟩
    exact same ▸ not_not.mp fun absent => joins ⟨present, hosts, absent⟩

/-- A module waits after it has been settled exactly where it hosts a channel and is present, or waited already. -/
theorem settleModule_settles (k : Fin 8) (s : State) : (hostedBy s k = [] → k ∉ (settleModule k s).trip.waiting) ∧
    (hostedBy s k ≠ [] → (s.outputModule k).address.isSome = true → k ∈ (settleModule k s).trip.waiting) := by
  unfold settleModule
  refine ⟨fun empty => ?_, fun hosts present => ?_⟩
  · rw [if_pos empty]
    intro waits
    exact of_decide_eq_true (List.mem_filter.mp waits).2 rfl
  · rw [if_neg hosts, mem_joinTrip]
    exact .inr ⟨rfl, present, hosts⟩

/-! ### A channel confirmed without a match -/

theorem becomeConfirmed_false (c : Fin 16) (s : State) : (becomeConfirmed false c s).events = s.events ∧
    (becomeConfirmed false c s).ann = (if (s.channel c).confirmation = .missing then (clearAt s.settings.systemWindow s).ann else s.ann) ∧
    ∀ l : Fin 2, ((becomeConfirmed false c s).bktDrivenLow l = true ↔ if (s.channel c).confirmation = .missing ∧ l = halfOf c then
      s.mode = .run ∧ ∃ j : Fin 16, halfOf j = l ∧ ((becomeConfirmed false c s).channel j).state.asserted = true ∧
        ((becomeConfirmed false c s).channel j).confirmation = .missing
      else s.bktDrivenLow l = true) := by
  by_cases missing : (s.channel c).confirmation = .missing
  · have moves := becomeConfirmed_moves missing false
    obtain ⟨line, other⟩ := becomeConfirmed_lines missing false
    rw [if_pos missing]
    refine ⟨moves.queue, moves.panel, fun l => ?_⟩
    by_cases own : l = halfOf c
    · rw [if_pos ⟨missing, own⟩, own]
      exact line
    · rw [if_neg fun both => own both.2, other l own]
  · rw [if_neg missing, becomeConfirmed_plain missing]
    refine ⟨rfl, rfl, fun l => ?_⟩
    rw [if_neg fun both => missing both.1]
    exact Iff.rfl

/-! ### Entries of output modules -/

section
variable {n : Nat} {entry : List Byte} {address : Option Nat} {timeout : Nat}

theorem changeOutput_accepts (silent : hostsAsserted s k = false)
    (unused : s.mode = .configuring ∨ address ≠ none ∨ hostedBy s k = []) :
    changeOutput k address timeout s = accept (applyOutput k address timeout s) := by
  unfold changeOutput
  rw [silent, if_neg nofun]
  refine if_neg fun used => ?_
  rcases unused with configuring | present | empty
  · exact used.1 configuring
  · exact present used.2.1
  · exact used.2.2 empty

theorem writeOutput_accepts (free : s.frozen = false) (named : n = k.val) (read : readOutput entry = some (address, timeout))
    (apart : outputAddressTaken s k address = false) (silent : hostsAsserted s k = false)
    (unused : s.mode = .configuring ∨ address ≠ none ∨ hostedBy s k = []) :
    writeOutput n entry s = accept (applyOutput k address timeout s) := by
  unfold writeOutput
  rw [if_neg (not_not.mpr (readOutput_length (by rw [read]; nofun))), free, if_neg nofun, finOf_of named, read]
  dsimp only
  rw [apart, if_neg nofun]
  exact changeOutput_accepts silent unused

theorem clearOutput_accepts (free : s.frozen = false) (named : n = k.val) (silent : hostsAsserted s k = false)
    (unused : s.mode = .configuring ∨ hostedBy s k = []) : clearOutput n s = accept (applyOutput k none 20 s) := by
  unfold clearOutput
  rw [free, if_neg nofun, finOf_of named]
  exact changeOutput_accepts silent (unused.imp_right .inr)

theorem applyOutput_same (same : (s.outputModule k).address = address) :
    applyOutput k address timeout s = s.setOutputModule k { s.outputModule k with address := address, timeout := timeout } := if_pos same

theorem applyOutput_new {a : Nat} (absent : (s.outputModule k).address = none) :
    applyOutput k (some a) timeout s = joinTrip k (s.setOutputModule k { s.outputModule k with address := some a, timeout := timeout }) := by
  unfold applyOutput
  dsimp only
  rw [absent]
  rfl

theorem applyOutput_moved {a b : Nat} (present : (s.outputModule k).address = some b) (other : b ≠ a) : applyOutput k (some a) timeout s =
    joinTrip k (s.setOutputModule k ({ s.outputModule k with address := some a, timeout := timeout } : OutputModule).forget) := by
  unfold applyOutput
  dsimp only
  rw [present]
  exact if_neg fun same => other (Option.some.inj same)

theorem applyOutput_removed {b : Nat} (present : (s.outputModule k).address = some b) : applyOutput k none timeout s =
    State.each (hostedBy s k) (becomeConfirmed false)
      (leaveTrip k (s.setOutputModule k ({ s.outputModule k with address := none, timeout := timeout } : OutputModule).forget)) := by
  unfold applyOutput
  dsimp only
  rw [present]
  rfl

end

theorem canonical_channels (canonical : s.canonical = true) : Table.wf {} s.trip.channels = true := by
  unfold State.canonical at canonical
  simp only [Bool.and_eq_true] at canonical
  tauto

theorem hostedBy_ascend (canonical : Table.wf {} s.trip.channels = true) (k : Fin 8) :
    hostedBy s k = (List.finRange 16).filter (hostedBy s k).contains := by
  refine List.Pairwise.eq_of_mem_iff (((Table.keys_ascend canonical).filter _).filter _) ((List.pairwise_lt_finRange 16).filter _) fun c => ?_
  rw [List.mem_filter, and_iff_right (List.mem_finRange c), List.contains_iff_mem]

theorem each_confirmed (cs : List (Fin 16)) (s : State) : s.confirms (State.each cs (becomeConfirmed false) s) ∧
    (State.each cs (becomeConfirmed false) s).events = s.events ∧ ∀ c, (State.each cs (becomeConfirmed false) s).channel c =
      if c ∈ cs then { s.channel c with confirmation := .confirmed } else s.channel c := by
  have acts := becomeConfirmed_acts false
  refine ⟨State.each_rel State.confirms.refl State.confirms.trans (fun c s => (acts c s).confirms) cs s, ?_, fun c => ?_⟩
  · exact State.each_keeps (P := fun u => u.events = s.events) (fun c u same => (becomeConfirmed_false c u).1.trans same) cs _ rfl
  · refine State.each_updates (get := State.channel) (φ := fun v => { v with confirmation := .confirmed }) (fun i j u => ?_) (fun _ => rfl) cs s c
    by_cases same : j = i
    · rw [if_pos same, same]
      exact (acts i u).own
    · rw [if_neg same]
      exact (acts i u).others j same

/-- Settles O45. -/
theorem outputEntryIsWrittenAndCleared : Obligations.OutputEntryIsWrittenAndCleared := by
  intro src index k s ready free named silent v changed
  have joins (w : OutputModule) (a : Nat) (present : w.address = some a) : (joinTrip k (s.setOutputModule k w)).trip.waiting =
      if hostedBy s k ≠ [] ∧ k ∉ s.trip.waiting then s.trip.waiting ++ [k] else s.trip.waiting := by
    rw [joinTrip_waiting, State.setOutputModule_outputModule_self, present]
    exact if_congr (and_iff_right rfl) rfl rfl
  have put (w : OutputModule) : s.onlyChannels (joinTrip k (s.setOutputModule k w)) ∧ (joinTrip k (s.setOutputModule k w)).events = s.events ∧
      (∀ j, j ≠ k → (joinTrip k (s.setOutputModule k w)).outputModule j = s.outputModule j) ∧
      (joinTrip k (s.setOutputModule k w)).ann = s.ann ∧ (joinTrip k (s.setOutputModule k w)).trip.channels = s.trip.channels ∧
      (joinTrip k (s.setOutputModule k w)).outputModule k = w := by
    have waits := joinTrip_waits k (s.setOutputModule k w)
    refine ⟨(setOutputModule_touches k w s).trans waits.channels, waits.events, fun j other => ?_, waits.ann, ?_, ?_⟩
    · rw [joinTrip_outputModule, State.setOutputModule_outputModule_ne _ _ other]
    · unfold joinTrip; split <;> rfl
    · rw [joinTrip_outputModule, State.setOutputModule_outputModule_self]
  have all (address : Option Nat) (timeout : Nat) : changed address timeout (applyOutput k address timeout s) := by
    by_cases same : v.address = address
    · have eq : applyOutput k address timeout s = s.setOutputModule k { v with address := address, timeout := timeout } := applyOutput_same same
      rw [eq]
      refine ⟨rfl, rfl, fun j other => State.setOutputModule_outputModule_ne _ _ other, fun _ => ?_, fun a differs => absurd same differs,
        fun present absent => absurd (same.trans absent) present⟩
      rw [← same]
    · cases address with
      | some a =>
        rcases Option.eq_none_or_eq_some v.address with absent | ⟨b, present⟩
        · have eq : applyOutput k (some a) timeout s = joinTrip k (s.setOutputModule k { v with address := some a, timeout := timeout }) :=
            applyOutput_new absent
          obtain ⟨only, events, others, ann, channels, own⟩ := put { v with address := some a, timeout := timeout }
          rw [eq]
          exact ⟨only, events, others, fun equal => absurd equal same, fun b _ is => ⟨ann, channels, joins _ a rfl, fun _ => own,
            fun present => absurd absent present⟩, nofun⟩
        · have eq : applyOutput k (some a) timeout s = joinTrip k (s.setOutputModule k { v with
              address := some a, timeout := timeout, awaitedSeq := none, awaited := [], deadline := .stopped }) :=
            applyOutput_moved present fun equal => same (present.trans (congrArg some equal))
          obtain ⟨only, events, others, ann, channels, own⟩ := put { v with
            address := some a, timeout := timeout, awaitedSeq := none, awaited := [], deadline := .stopped }
          rw [eq]
          exact ⟨only, events, others, fun equal => absurd equal same, fun b _ is => ⟨ann, channels, joins _ a rfl,
            fun absent => (nomatch present.symm.trans absent), fun _ => own⟩, nofun⟩
      | none =>
        obtain ⟨b, present⟩ := (Option.eq_none_or_eq_some v.address).resolve_left same
        have eq : applyOutput k none timeout s = State.each (hostedBy s k) (becomeConfirmed false)
            ({ s with trip := { s.trip with waiting := s.trip.waiting.filter (fun j => decide (j ≠ k)) } }.setOutputModule k { v with
              address := none, timeout := timeout, awaitedSeq := none, awaited := [], deadline := .stopped }) := applyOutput_removed present
        obtain ⟨confirms, events, channels⟩ := each_confirmed (hostedBy s k)
          ({ s with trip := { s.trip with waiting := s.trip.waiting.filter (fun j => decide (j ≠ k)) } }.setOutputModule k { v with
            address := none, timeout := timeout, awaitedSeq := none, awaited := [], deadline := .stopped })
        obtain ⟨only, waits, own, others⟩ := setOutputModule_then confirms
        have base : s.onlyChannels { s with trip := { s.trip with waiting := s.trip.waiting.filter (fun j => decide (j ≠ k)) } } := rfl
        rw [eq]
        refine ⟨base.trans only, events, others, fun equal => absurd equal same, nofun, fun _ _ => ⟨own, waits, fun c => ?_, fun canonical => ?_⟩⟩
        · rw [channels]
          exact if_congr List.contains_iff_mem.symm rfl rfl
        · rw [← hostedBy_ascend (canonical_channels canonical)]
  refine ⟨fun entry address timeout read apart unused => ⟨_, ?_, all address timeout⟩, fun unused => ⟨_, ?_, all none 20⟩⟩
  · rw [exec_of_ready (c := .writeOutput src index entry) rfl ready]
    dsimp only
    rw [writeOutput_accepts free named read apart silent unused, entryReply_accept]
  · rw [exec_of_ready (c := .clearOutput src index) rfl ready]
    dsimp only
    rw [clearOutput_accepts free named silent unused, entryReply_accept]

end Sys2Proof.Machine

/-! The entries of channels (R129, R130). -/

namespace Sys2Proof.Machine

variable {s t u : State} {c : Fin 16} {k : Fin 8}

/-! ### The parts of a channel's write and clear -/

theorem applyChannelWrite_new {d : ChannelDef} (absent : (s.channel c).defn = none) :
    applyChannelWrite c d s = joinTrip d.outputModule (s.setChannel c { defn := some d }) := by
  unfold applyChannelWrite
  rw [absent]

theorem applyChannelWrite_same {old d : ChannelDef} (defined : (s.channel c).defn = some old) (hosted : old.outputModule = d.outputModule)
    (output : old.output = d.output) : applyChannelWrite c d s = s.setChannel c { s.channel c with defn := some d } := by
  unfold applyChannelWrite
  rw [defined]
  exact if_pos ⟨hosted, output⟩

theorem applyChannelWrite_moved {old d : ChannelDef} (defined : (s.channel c).defn = some old)
    (moves : old.outputModule ≠ d.outputModule ∨ old.output ≠ d.output) : applyChannelWrite c d s =
      joinTrip d.outputModule (settleModule old.outputModule (becomeConfirmed false c
        (dropAwaited old.outputModule old.output (s.setChannel c { s.channel c with defn := some d })))) := by
  unfold applyChannelWrite
  rw [defined]
  exact if_neg fun both => moves.elim (fun other => other both.1) fun other => other both.2

theorem applyChannelClear_none (absent : (s.channel c).defn = none) : applyChannelClear c s = s := by
  unfold applyChannelClear
  rw [absent]

theorem applyChannelClear_eq {old : ChannelDef} (defined : (s.channel c).defn = some old) : applyChannelClear c s =
    settleModule old.outputModule ((becomeConfirmed false c (dropAwaited old.outputModule old.output s)).setChannel c {}) := by
  unfold applyChannelClear
  rw [defined]

theorem dropAwaited_outputModule (k : Fin 8) (o : Fin 16) (s : State) (j : Fin 8) : (dropAwaited k o s).outputModule j =
    if j = k then { s.outputModule k with awaited := (s.outputModule k).awaited.filter (fun p => decide (p.1 ≠ o)) } else s.outputModule j :=
  State.setOutputModule_outputModule _ _ _ _

/-- A channel that leaves its output has its confirmation settled as the rules of the system window and the lines say (R130, R140, R141). -/
theorem leaving_confirmed (only : s.onlyChannels u) (events : u.events = s.events) (ann : u.ann = s.ann)
    (lines : ∀ l, u.bktDrivenLow l = s.bktDrivenLow l) (same : (u.channel c).confirmation = (s.channel c).confirmation) :
    (becomeConfirmed false c u).events = s.events ∧
    (becomeConfirmed false c u).ann = (if (s.channel c).confirmation = .missing then (clearAt s.settings.systemWindow s).ann else s.ann) ∧
    ∀ l : Fin 2, ((becomeConfirmed false c u).bktDrivenLow l = true ↔ if (s.channel c).confirmation = .missing ∧ l = halfOf c then
      s.mode = .run ∧ ∃ j : Fin 16, halfOf j = l ∧ ((becomeConfirmed false c u).channel j).state.asserted = true ∧
        ((becomeConfirmed false c u).channel j).confirmation = .missing
      else s.bktDrivenLow l = true) := by
  unfold State.onlyChannels at only
  have mode : u.mode = s.mode := by rw [only]
  have settings : u.settings = s.settings := by rw [only]
  have panel : s.samePanel u := ⟨ann, mode⟩
  obtain ⟨queue, shown, line⟩ := becomeConfirmed_false c u
  rw [settings, (panel.clearAt _).1, ann, same] at shown
  refine ⟨queue.trans events, shown, fun l => (line l).trans ?_⟩
  rw [same, mode, lines]

section
variable {n : Nat} {entry : List Byte}

theorem writeChannel_define {d : ChannelDef} (free : s.frozen = false) (named : n = c.val) (silent : (s.channel c).state.asserted = false)
    (read : readChannel entry = some (some d)) (apart : outputTaken s c d = false)
    (known : s.mode ≠ .configuring → (s.outputModule d.outputModule).address ≠ none ∧ windowKnown s d.window = true)
    (room : windowFull s (fun w => channelNames s w c) d.window = false) : writeChannel n entry s = accept (applyChannelWrite c d s) := by
  unfold writeChannel
  rw [if_neg (not_not.mpr (readChannel_length (by rw [read]; nofun))), free, if_neg nofun, finOf_of named, read]
  dsimp only
  rw [silent, if_neg nofun]
  unfold defineChannel
  rw [apart, if_neg nofun, if_neg fun bad => ?_, room, if_neg nofun]
  obtain ⟨present, window⟩ := known bad.1
  rcases bad.2 with absent | unknown
  · exact present absent
  · rw [window] at unknown
    exact nomatch unknown

theorem clearChannelAt_accepts (unused : ∀ e, elementTargets s c e = false) : clearChannelAt c s = accept (applyChannelClear c s) := by
  refine if_neg fun used => ?_
  obtain ⟨e, -, targets⟩ := List.any_eq_true.mp used
  rw [unused e] at targets
  exact nomatch targets

theorem writeChannel_undefine (free : s.frozen = false) (named : n = c.val) (silent : (s.channel c).state.asserted = false)
    (read : readChannel entry = some none) : writeChannel n entry s = clearChannelAt c s := by
  unfold writeChannel
  rw [if_neg (not_not.mpr (readChannel_length (by rw [read]; nofun))), free, if_neg nofun, finOf_of named, read]
  dsimp only
  rw [silent, if_neg nofun]

theorem clearChannel_named (free : s.frozen = false) (named : n = c.val) (silent : (s.channel c).state.asserted = false) :
    clearChannel n s = clearChannelAt c s := by
  unfold clearChannel
  rw [free, if_neg nofun, finOf_of named]
  dsimp only
  rw [silent, if_neg nofun]

end

/-- A module settled before another joins is settled after. -/
theorem joinTrip_settles {k j : Fin 8} (settled : (hostedBy s k = [] → k ∉ s.trip.waiting) ∧
    (hostedBy s k ≠ [] → (s.outputModule k).address.isSome = true → k ∈ s.trip.waiting)) :
    (hostedBy s k = [] → k ∉ (joinTrip j s).trip.waiting) ∧
      (hostedBy s k ≠ [] → (s.outputModule k).address.isSome = true → k ∈ (joinTrip j s).trip.waiting) := by
  refine ⟨fun empty => ?_, fun hosts present => (mem_joinTrip j k s).mpr (.inl (settled.2 hosts present))⟩
  rw [mem_joinTrip]
  rintro (waits | ⟨rfl, -, hosts⟩)
  · exact settled.1 empty waits
  · exact hosts empty

/-- Settles O46. -/
theorem channelEntryIsWrittenAndCleared : Obligations.ChannelEntryIsWrittenAndCleared := by
  intro src index c s ready free named silent v dropped left restored
  refine ⟨fun entry d read apart known room => ?_, fun unused => ?_⟩
  · have row : exec (.writeChannel src index entry) s = .next ((applyChannelWrite c d s).answered src (entryOk 0x02 .channel index)) := by
      rw [exec_of_ready (c := .writeChannel src index entry) rfl ready]
      dsimp only
      rw [writeChannel_define free named silent read apart known room, entryReply_accept]
    refine ⟨_, row, ?_⟩
    rcases Option.eq_none_or_eq_some v.defn with absent | ⟨old, defined⟩
    · have moves := (setChannel_moves c { defn := some d } s).joined (d := d) rfl
      have waits := joinTrip_waits d.outputModule (s.setChannel c { defn := some d })
      rw [applyChannelWrite_new absent]
      exact ⟨moves.only, moves.queue, moves.others, fun _ => ⟨moves.own, moves.outputs, moves.panel, waits.line, moves.waits⟩,
        fun old defined => nomatch absent.symm.trans defined⟩
    · by_cases stays : old.outputModule = d.outputModule ∧ old.output = d.output
      · have moves := setChannel_moves c { v with defn := some d } s
        rw [applyChannelWrite_same defined stays.1 stays.2]
        refine ⟨moves.only, rfl, moves.others, fun absent => (nomatch absent.symm.trans defined), fun x is => ⟨fun _ _ => rfl, fun moved => ?_⟩⟩
        rw [← Option.some.inj (defined.symm.trans is)] at moved
        exact absurd stays.2 (moved.resolve_left (not_not.mpr stays.1))
      · have moved : old.outputModule ≠ d.outputModule ∨ old.output ≠ d.output := not_and_or.mp stays
        rw [applyChannelWrite_moved defined moved]
        generalize base : dropAwaited old.outputModule old.output (s.setChannel c { v with defn := some d }) = b
        have onlyB : s.onlyChannels b := by rw [← base]; rfl
        have channelB (j) : b.channel j = if j = c then { v with defn := some d } else s.channel j := by
          rw [← base]
          exact State.setChannel_channel s c j { v with defn := some d }
        have modulesB : dropped old.outputModule old.output b := fun j => by
          rw [← base, dropAwaited_outputModule]
          rfl
        obtain ⟨events, ann, lines⟩ := leaving_confirmed (c := c) onlyB (by rw [← base]; rfl) (by rw [← base]; rfl)
          (fun l => by rw [← base]; rfl) (by rw [channelB, if_pos rfl])
        have acts := becomeConfirmed_acts false c b
        generalize becomeConfirmed false c b = m at events ann lines acts
        have onlyM : s.onlyChannels m := onlyB.trans acts.confirms.1
        have modulesM (j) : m.outputModule j = b.outputModule j := by unfold State.outputModule; rw [acts.confirms.2.1]
        have waits := (settleModule_waits old.outputModule m).trans (joinTrip_waits d.outputModule _)
        have settled := joinTrip_settles (j := d.outputModule) (k := old.outputModule) (s := settleModule old.outputModule m) (by
          rw [(settleModule_waits old.outputModule m).hosted, (settleModule_waits old.outputModule m).outputModule]
          exact settleModule_settles old.outputModule m)
        have joined := mem_joinTrip d.outputModule d.outputModule (settleModule old.outputModule m)
        rw [(settleModule_waits old.outputModule m).hosted, (settleModule_waits old.outputModule m).outputModule] at settled joined
        have own : m.channel c = { v with defn := some d, confirmation := .confirmed } := by rw [acts.own, channelB, if_pos rfl]
        have address (j) : (m.outputModule j).address = (s.outputModule j).address := by
          rw [modulesM, modulesB]
          split
          · rename_i same; rw [same]
          · rfl
        refine ⟨onlyM.trans waits.channels, waits.events.trans events, fun j other => ?_, fun absent => (nomatch absent.symm.trans defined),
          fun x is => ?_⟩
        · rw [waits.channel, acts.others j other, channelB, if_neg other]
        · rw [← Option.some.inj (defined.symm.trans is)]
          refine ⟨fun same output => absurd ⟨same, output⟩ stays, fun _ => ⟨(waits.channel c).trans own, fun j => ?_, ⟨?_, fun l => ?_⟩,
            fun present => ?_, ?_⟩⟩
          · rw [waits.outputModule, modulesM, modulesB]
          · exact waits.ann.trans ann
          · rw [waits.line]
            refine (lines l).trans ?_
            simp only [waits.channel]
            exact Iff.rfl
          · refine joined.mpr (.inr ⟨rfl, by rw [address]; exact present, ?_⟩)
            exact (hostedBy_ne_nil m _).mpr ⟨c, d, by rw [own], rfl⟩
          · refine ⟨fun empty => settled.1 (waits.hosted _ ▸ empty), fun hosts present => settled.2 (waits.hosted _ ▸ hosts) ?_⟩
            rw [address]
            exact present
  · have row : exec (.clearChannel src index) s = .next ((applyChannelClear c s).answered src (entryOk 0x03 .channel index)) := by
      rw [exec_of_ready (c := .clearChannel src index) rfl ready]
      dsimp only
      rw [clearChannel_named free named silent, clearChannelAt_accepts unused, entryReply_accept]
    refine ⟨_, row, fun rest length => ?_, ?_⟩
    · rw [exec_of_ready (c := .writeChannel src index (0x00 :: rest)) rfl ready]
      dsimp only
      rw [writeChannel_undefine free named silent (readChannel_no length), clearChannelAt_accepts unused, entryReply_accept]
    · rcases Option.eq_none_or_eq_some v.defn with absent | ⟨old, defined⟩
      · rw [applyChannelClear_none absent]
        exact ⟨.refl s, rfl, fun _ _ => rfl, fun _ => rfl, fun old defined => nomatch absent.symm.trans defined⟩
      · rw [applyChannelClear_eq defined]
        generalize base : dropAwaited old.outputModule old.output s = b
        have onlyB : s.onlyChannels b := by rw [← base]; rfl
        have channelB (j) : b.channel j = s.channel j := by rw [← base]; rfl
        have modulesB : dropped old.outputModule old.output b := fun j => by
          rw [← base, dropAwaited_outputModule]
        obtain ⟨events, ann, lines⟩ := leaving_confirmed (c := c) onlyB (by rw [← base]; rfl) (by rw [← base]; rfl)
          (fun l => by rw [← base]; rfl) (by rw [channelB])
        have acts := becomeConfirmed_acts false c b
        generalize becomeConfirmed false c b = m at events ann lines acts
        have onlyM : s.onlyChannels m := onlyB.trans acts.confirms.1
        have modulesM (j) : m.outputModule j = b.outputModule j := by unfold State.outputModule; rw [acts.confirms.2.1]
        have waits := settleModule_waits old.outputModule (m.setChannel c {})
        have settled := settleModule_settles old.outputModule (m.setChannel c {})
        have address (j) : ((m.setChannel c {}).outputModule j).address = (s.outputModule j).address := by
          refine (congrArg OutputModule.address (modulesM j)).trans ?_
          rw [modulesB]
          split
          · rename_i same; rw [same]
          · rfl
        refine ⟨onlyM.trans ((setChannel_touches c {} m).trans waits.channels), waits.events.trans events, fun j other => ?_,
          fun absent => (nomatch absent.symm.trans defined), fun x is => ?_⟩
        · rw [waits.channel, State.setChannel_channel_ne _ _ other, acts.others j other, channelB]
        · rw [← Option.some.inj (defined.symm.trans is)]
          refine ⟨?_, fun j => ?_, ⟨fun empty => settled.1 (waits.hosted _ ▸ empty), fun hosts present => settled.2 (waits.hosted _ ▸ hosts) ?_⟩,
            waits.ann.trans ann, fun l => ?_⟩
          · rw [waits.channel, State.setChannel_channel_self]
          · rw [waits.outputModule]
            exact (modulesM j).trans (modulesB j)
          · rw [address]
            exact present
          · have missingSame (j : Fin 16) : ((m.channel j).state.asserted = true ∧ (m.channel j).confirmation = .missing) ↔
                (((m.setChannel c {}).channel j).state.asserted = true ∧ ((m.setChannel c {}).channel j).confirmation = .missing) := by
              by_cases same : j = c
              · rw [same, acts.own, State.setChannel_channel_self]
                exact ⟨fun both => (nomatch both.2), fun both => (nomatch both.2)⟩
              · rw [State.setChannel_channel_ne _ _ same]
            rw [waits.line]
            refine (lines l).trans ?_
            simp only [waits.channel, missingSame]
            exact Iff.rfl

end Sys2Proof.Machine

/-! O48: a CMD frame performs the command its payload spells, and gives up its place (R165, R172 to R174). -/

namespace Sys2Proof.Machine

variable {s t u : State}

/-! ### The receive buffer during a command -/

/-- Port A holds the same frames. -/
def State.sameBuffer (s t : State) : Prop := t.portA.buf = s.portA.buf

theorem State.sameBuffer.of_modules (h : s.onlyModules t) : s.sameBuffer t := by
  unfold State.onlyModules at h
  unfold State.sameBuffer
  rw [h]

theorem State.sameBuffer.trans (h : s.sameBuffer t) (k : t.sameBuffer u) : s.sameBuffer u := Eq.trans k h

/-- A judgement moves no frame (R166). -/
theorem PortState.judge_buf (high low : Nat) (v : PortState) : (v.judge high low).buf = v.buf := by
  unfold PortState.judge
  split
  · rfl
  split <;> rfl

theorem applySettings_sameBuffer (v : Settings) (s : State) : s.sameBuffer (applySettings v s) := by
  have judged : s.sameBuffer (judgeFlow .B (judgeFlow .A { s with settings := v })) := PortState.judge_buf _ _ _
  unfold applySettings
  dsimp only
  split
  · exact judged
  · exact judged.trans (State.sameBuffer.of_modules (State.each_rel State.onlyModules.refl State.onlyModules.trans
      (fun _ u => ((clearAt_touches _ u).trans (activateAt_touches _ _ _)).blocks) _ _))

theorem enterRun_sameBuffer (s : State) : s.sameBuffer (enterRun s) := by
  have offered : s.sameBuffer (queueOverflow (offerModeChange .run { s with mode := .run })) :=
    State.sameBuffer.of_modules (s := { s with mode := .run })
      ((offerModeChange_touches .run _).trans (queueOverflow_touches _)).ann.blocks
  have announced : s.sameBuffer (pointsToRun (queueOverflow (offerModeChange .run { s with mode := .run }))) :=
    offered.trans (State.sameBuffer.of_modules (s := { queueOverflow (offerModeChange .run { s with mode := .run }) with
      decay := some (queueOverflow (offerModeChange .run { s with mode := .run })).settings.chatterInterval })
      (pointsToRun_touches _).modules)
  refine announced.trans (State.sameBuffer.of_modules (.trans ?_ (joinAscending_panel _ _).ann.blocks))
  refine .trans ?_ (judgeLines_touches _).blocks
  refine .trans ?_ (elementsToRun_touches _).points.modules
  refine .trans ?_ (modulesToRun_touches _)
  exact (annEnterRun_touches _).blocks

theorem enterTest_sameBuffer (s : State) : s.sameBuffer (enterTest s) := by
  refine State.sameBuffer.of_modules (s := { s with mode := .test }) (.trans ?_ (joinTripAll_touches _).blocks)
  exact ((offerModeChange_touches _ _).ann.channels.trans (judgeLines_touches _)).blocks

theorem leaveTest_sameBuffer (s : State) : s.sameBuffer (leaveTest s) := by
  refine State.sameBuffer.of_modules (s := { s with mode := .run }) (.trans ?_ (joinAscending_panel _ _).ann.blocks)
  refine .trans ?_ (exitTest_touches _).blocks
  exact ((offerModeChange_touches _ _).ann.channels.elements.trans (clearForces_touches _)).points.modules

theorem enterConfiguring_sameBuffer (s : State) : s.sameBuffer (enterConfiguring s) := by
  have offered : s.sameBuffer { offerModeChange .configuring s with mode := .configuring } :=
    (State.sameBuffer.of_modules (offerModeChange_touches .configuring s).ann.blocks :)
  have announced : s.sameBuffer (pointsToConfiguring { offerModeChange .configuring s with mode := .configuring }) :=
    offered.trans (State.sameBuffer.of_modules (s := { offerModeChange .configuring s with mode := .configuring, decay := none })
      (pointsToConfiguring_touches _).modules)
  refine announced.trans (State.sameBuffer.of_modules (.trans ?_ (joinAscending_panel _ _).ann.blocks))
  refine .trans ?_ (judgeLines_touches _).blocks
  refine .trans ?_ (elementsToConfiguring_touches _).points.modules
  exact (annEnterConfiguring_touches _).blocks

/-- No command takes a frame out of the buffer: the frame that carries it does that (R165). -/
theorem CommandEffect.sameBuffer (effect : CommandEffect s t) : s.sameBuffer t := by
  cases effect with
  | block effect =>
    rcases effect.touches with modules | rfl
    · exact .of_modules modules
    · rfl
  | settings v _ => exact applySettings_sameBuffer v s
  | enterRun _ _ => exact enterRun_sameBuffer s
  | leaveTest _ => exact leaveTest_sameBuffer s
  | enterTest _ => exact enterTest_sameBuffer s
  | enterConfiguring _ => exact enterConfiguring_sameBuffer s
  | freeze => rfl

/-! ### What a payload spells -/

theorem tableOf_code (t : TableId) : tableOf t.code = some t := by cases t <;> decide

/-- An index travels as its two bytes (R174). -/
theorem indexBytes_eq (index : BitVec 16) :
    ∃ hi lo : Byte, indexBytes index = [hi, lo] ∧ hi ++ lo = index := by
  refine ⟨_, _, bytesOfNat_two index.toNat, ?_⟩
  apply BitVec.eq_of_toNat_eq
  rw [BitVec.toNat_append, ← Nat.shiftLeft_add_eq_or_of_lt (BitVec.isLt _), Nat.shiftLeft_eq]
  simp only [BitVec.toNat_ofNat]
  omega

theorem entryCommand_index (code : Byte) (index : BitVec 16) (rest : List Byte) (act : TableId → BitVec 16 → List Byte → State → Answer)
    (s : State) : entryCommand (code :: (indexBytes index ++ rest)) act s =
      (tableOf code).elim (refuse .unknown s) (fun t => act t index rest s) := by
  obtain ⟨hi, lo, bytes, word⟩ := indexBytes_eq index
  rw [bytes, ← word]
  unfold entryCommand
  change (match tableOf code with | some table => _ | none => _) = _
  cases tableOf code <;> rfl

/-- A write of a table by its payload. -/
theorem performCode_write (t : TableId) (index : BitVec 16) (entry : List Byte) (s : State) :
    performCode 0x02 (t.code :: (indexBytes index ++ entry)) s = entryReply t index (writeEntry t index.toNat entry s) := by
  refine (entryCommand_index t.code index entry (fun t i e s => entryReply t i (writeEntry t i.toNat e s)) s).trans ?_
  rw [tableOf_code]
  rfl

/-- A clear of a table by its payload. -/
theorem performCode_clear (t : TableId) (index : BitVec 16) (s : State) :
    performCode 0x03 (t.code :: indexBytes index) s = entryReply t index (clearEntry t index.toNat s) := by
  rw [← List.append_nil (indexBytes index)]
  refine (entryCommand_index t.code index [] (bareEntry fun t i s => clearEntry t i.toNat s) s).trans ?_
  rw [tableOf_code]
  rfl

theorem performCode_readEntry (table : Byte) (index : BitVec 16) (s : State) :
    performCode 0x01 (table :: indexBytes index) s = readEntry table index s := by
  rw [← List.append_nil (indexBytes index)]
  refine (entryCommand_index table index [] (bareEntry fun t i s => readAnswer (entryAt t i.toNat s) s) s).trans ?_
  unfold readEntry
  cases tableOf table <;> rfl

theorem performCode_readState (table : Byte) (index : BitVec 16) (s : State) :
    performCode 0x04 (table :: indexBytes index) s = readState table index s := by
  rw [← List.append_nil (indexBytes index)]
  refine (entryCommand_index table index [] (bareEntry fun t i s => readAnswer (dynamicAt t i.toNat s) s) s).trans ?_
  unfold readState
  cases tableOf table <;> rfl

/-- The payload of a row spells the row's command (R173, R174). -/
structure Command.spelled (k : Command) (src : Byte) (payload : List Byte) : Prop where
  source : k.src = src
  code : replyCode payload = k.code
  act : ∀ s, performPayload payload s = k.act s

theorem command_of_payload {c : Instr} {src : Byte} {payload : List Byte} (h : commandPayload c = some (src, payload)) :
    ∃ k, command c = some k ∧ k.spelled src payload := by
  cases c <;> simp only [commandPayload, Option.some.injEq, Prod.mk.injEq, reduceCtorEq] at h
  all_goals
    obtain ⟨rfl, rfl⟩ := h
    refine ⟨_, rfl, rfl, rfl, fun s => ?_⟩
  case readEntry => exact performCode_readEntry _ _ s
  case readState => exact performCode_readState _ _ s
  case writeSettings => exact performCode_write .settings _ _ s
  case clearSettings => exact performCode_clear .settings _ s
  case writeModule => exact performCode_write .module _ _ s
  case clearModule => exact performCode_clear .module _ s
  case writePoint => exact performCode_write .point _ _ s
  case clearPoint => exact performCode_clear .point _ s
  case writeWindow => exact performCode_write .window _ _ s
  case clearWindow => exact performCode_clear .window _ s
  case writeDriver => exact performCode_write .driver _ _ s
  case clearDriver => exact performCode_clear .driver _ s
  case writeGroup => exact performCode_write .group _ _ s
  case clearGroup => exact performCode_clear .group _ s
  case writeHorn => exact performCode_write .horn _ _ s
  case clearHorn => exact performCode_clear .horn _ s
  case writePattern => exact performCode_write .pattern _ _ s
  case clearPattern => exact performCode_clear .pattern _ s
  case writeElement => exact performCode_write .element _ _ s
  case clearElement => exact performCode_clear .element _ s
  case writeOutput => exact performCode_write .output _ _ s
  case clearOutput => exact performCode_clear .output _ s
  case writeChannel => exact performCode_write .channel _ _ s
  case clearChannel => exact performCode_clear .channel _ s
  all_goals rfl

/-! ### The frame -/

section Frame

variable {before after : List Held} {h : Held} (held : s.portA.buf = before ++ h :: after)
  (cmd : Held.owned 0x31 h = true) (first : ∀ k ∈ before, Held.owned 0x31 k = false)

include held cmd first

/-- The frame gives up its place after what its command did (R165). -/
theorem givePlace_cmd (after_settled : t.flowSettled) (same : s.sameBuffer t) :
    givePlace .A (Held.owned kindCmd) t = { t with portA := t.portA.withGiven t.settings.lowA (before ++ after) } := by
  have left : t.portA.buf.eraseP (Held.owned kindCmd) = before ++ after := by
    rw [show t.portA.buf = s.portA.buf from same]
    exact (nextOwned_split (s := s) (p := .A) held cmd first).2
  rw [givePlace_settled (p := .A) (after_settled.port .A)]
  change { t with portA := t.portA.withGiven t.settings.lowA (t.portA.buf.eraseP (Held.owned kindCmd)) } = _
  rw [left]

/-- With no REPLY on wait the frame is taken, or discarded for its source (R172). -/
theorem exec_cmdFrame (high : s.resetLow = false) (quiet : s.reply = none) :
    exec .cmdFrame s = .next (givePlace .A (Held.owned kindCmd)
      (takeCommand (replyCode h.frame.payload) h.frame.src (performPayload h.frame.payload) s)) := by
  refine (running_high high _).trans (congrArg _ ?_)
  unfold cmdFrame
  rw [show s.nextOwned .A kindCmd = some h from (nextOwned_split (s := s) (p := .A) held cmd first).1]
  dsimp only
  rw [quiet]
  rfl

/-- A frame from a link address is answered, and gives up its place (R172). -/
theorem exec_cmdFrame_ready (settled : s.flowSettled) (ready : s.ready h.frame.src) :
    exec .cmdFrame s = .next
      (let t := (performPayload h.frame.payload s).replied h.frame.src (replyCode h.frame.payload)
       { t with portA := t.portA.withGiven t.settings.lowA (before ++ after) }) := by
  have effect := CommandEffect.of_payload s h.frame.payload
  rw [exec_cmdFrame held cmd first ready.1 ready.2.1, takeCommand_of_ready ready]
  exact congrArg _ (givePlace_cmd held cmd first ((settled.commandEffect effect).of_same rfl rfl rfl) effect.sameBuffer)

/-- A frame from no link address is discarded (R172). -/
theorem exec_cmdFrame_discarded (settled : s.flowSettled) (high : s.resetLow = false) (quiet : s.reply = none)
    (source : h.frame.src.toNat = 0 ∨ 239 < h.frame.src.toNat) :
    exec .cmdFrame s = .next { s with portA := s.portA.withGiven s.settings.lowA (before ++ after) } := by
  rw [exec_cmdFrame held cmd first high quiet, takeCommand_of_not (.inr source),
    givePlace_cmd held cmd first settled rfl]

/-- While a REPLY waits no frame is taken (R172). -/
theorem exec_cmdFrame_waits (high : s.resetLow = false) (waits : s.reply ≠ none) : exec .cmdFrame s = .next s := by
  refine (running_high high _).trans (congrArg _ ?_)
  unfold cmdFrame
  rw [show s.nextOwned .A kindCmd = some h from (nextOwned_split (s := s) (p := .A) held cmd first).1]
  exact if_pos (Option.isSome_iff_ne_none.mpr waits)

end Frame

/-- Settles O48: the payload of a row spells the row's command. -/
theorem cmdFrameRunsItsCommand : Obligations.CmdFrameRunsItsCommand := by
  intro before after h s high settled held cmd first given
  refine ⟨?_, ?_, ?_, ?_⟩
  · rintro c src payload ready spells rfl rfl
    obtain ⟨k, named, source, code, act⟩ := command_of_payload spells
    rw [← source] at ready
    refine ⟨_, exec_of_ready named ready, nofun, ?_⟩
    rw [source] at ready ⊢
    rw [exec_cmdFrame_ready held cmd first settled ready, act, code]
  · rintro src payload ready unlisted rfl rfl
    refine ⟨(performPayload h.frame.payload s).replied h.frame.src (replyCode h.frame.payload), ?_,
      exec_cmdFrame_ready held cmd first settled ready⟩
    refine (running_high high _).trans (congrArg _ ?_)
    unfold cmdUnknown
    rw [if_pos unlisted, takeCommand_of_ready ready]
  · exact fun quiet source => exec_cmdFrame_discarded held cmd first settled high quiet source
  · exact fun waits => exec_cmdFrame_waits held cmd first high waits

end Sys2Proof.Machine

/-! O49: an answer whose status is not OK leaves the state as it is, and the refusals of numbers, lengths, tables and values (R172 to R174). -/

namespace Sys2Proof.Machine

variable {s : State}

/-! ### A refused command changes nothing -/

/-- A status other than OK leaves the state as it is (R172). -/
def Answer.refusesCleanly (s : State) (a : Answer) : Prop := a.status ≠ .ok → a.state = s

namespace Answer.refusesCleanly

@[simp] theorem refused (st : Status) (s : State) : (refuse st s).refusesCleanly s := fun _ => rfl

@[simp] theorem accepted (s t : State) : (accept t).refusesCleanly s := fun h => absurd rfl h

@[simp] theorem answered (s t : State) (data : List Byte) : ({ status := .ok, data := data, state := t } : Answer).refusesCleanly s :=
  fun h => absurd rfl h

@[simp] theorem kept (st : Status) (data : List Byte) (s : State) :
    ({ status := st, data := data, state := s } : Answer).refusesCleanly s := fun _ => rfl

@[simp] theorem read (found : Option (List Byte)) (s : State) : (readAnswer found s).refusesCleanly s := fun _ => readAnswer_state found s

theorem entry {a : Answer} (h : a.refusesCleanly s) (t : TableId) (index : BitVec 16) : (entryReply t index a).refusesCleanly s := by
  intro refused
  rw [entryReply_state]
  refine h fun ok => refused ?_
  unfold entryReply
  rw [if_pos ok]
  exact ok

variable (s) (index : Nat) (bytes : List Byte)

theorem writeSettings : (writeSettings index bytes s).refusesCleanly s := by
  unfold Machine.writeSettings; repeat' split
  all_goals simp

theorem clearSettings : (clearSettings index s).refusesCleanly s := by
  unfold Machine.clearSettings; split <;> simp

theorem writeModule : (writeModule index bytes s).refusesCleanly s := by
  unfold Machine.writeModule; repeat' split
  all_goals simp

theorem clearModule : (clearModule index s).refusesCleanly s := by
  unfold Machine.clearModule; repeat' split
  all_goals simp

theorem clearPointAt (p : Fin 1024) : (clearPointAt p s).refusesCleanly s := by
  unfold Machine.clearPointAt; split <;> simp

theorem writePoint : (writePoint index bytes s).refusesCleanly s := by
  unfold Machine.writePoint; repeat' split
  all_goals simp [clearPointAt]

theorem clearPoint : (clearPoint index s).refusesCleanly s := by
  unfold Machine.clearPoint; split <;> simp [clearPointAt]

theorem clearWindowAt (w : Fin 192) : (clearWindowAt w s).refusesCleanly s := by
  unfold Machine.clearWindowAt; split <;> simp

theorem writeWindow : (writeWindow index bytes s).refusesCleanly s := by
  unfold Machine.writeWindow; repeat' split
  all_goals simp [clearWindowAt]

theorem clearWindow : (clearWindow index s).refusesCleanly s := by
  unfold Machine.clearWindow; split <;> simp [clearWindowAt]

theorem writeDriver : (writeDriver index bytes s).refusesCleanly s := by
  unfold Machine.writeDriver; repeat' split
  all_goals simp

theorem clearDriver : (clearDriver index s).refusesCleanly s := by
  unfold Machine.clearDriver; split <;> simp

theorem clearGroupAt (g : Fin 32) : (clearGroupAt g s).refusesCleanly s := by
  unfold Machine.clearGroupAt; split <;> simp

theorem writeGroup : (writeGroup index bytes s).refusesCleanly s := by
  unfold Machine.writeGroup; repeat' split
  all_goals simp [clearGroupAt]

theorem clearGroup : (clearGroup index s).refusesCleanly s := by
  unfold Machine.clearGroup; split <;> simp [clearGroupAt]

theorem writeHorn : (writeHorn index bytes s).refusesCleanly s := by
  unfold Machine.writeHorn; repeat' split
  all_goals simp

theorem clearHorn : (clearHorn index s).refusesCleanly s := by
  unfold Machine.clearHorn; split <;> simp

theorem writePattern : (writePattern index bytes s).refusesCleanly s := by
  unfold Machine.writePattern; repeat' split
  all_goals simp

theorem clearPattern : (clearPattern index s).refusesCleanly s := by
  unfold Machine.clearPattern; split <;> simp

theorem writeElement : (writeElement index bytes s).refusesCleanly s := by
  unfold Machine.writeElement; repeat' split
  all_goals simp

theorem clearElement : (clearElement index s).refusesCleanly s := by
  unfold Machine.clearElement; repeat' split
  all_goals simp

theorem changeOutput (k : Fin 8) (address : Option Nat) (timeout : Nat) : (changeOutput k address timeout s).refusesCleanly s := by
  unfold Machine.changeOutput; repeat' split
  all_goals simp

theorem writeOutput : (writeOutput index bytes s).refusesCleanly s := by
  unfold Machine.writeOutput; repeat' split
  all_goals simp [changeOutput]

theorem clearOutput : (clearOutput index s).refusesCleanly s := by
  unfold Machine.clearOutput; repeat' split
  all_goals simp [changeOutput]

theorem clearChannelAt (c : Fin 16) : (clearChannelAt c s).refusesCleanly s := by
  unfold Machine.clearChannelAt; split <;> simp

theorem defineChannel (c : Fin 16) (d : ChannelDef) : (defineChannel c d s).refusesCleanly s := by
  unfold Machine.defineChannel; repeat' split
  all_goals simp

theorem writeChannel : (writeChannel index bytes s).refusesCleanly s := by
  unfold Machine.writeChannel; repeat' split
  all_goals simp [clearChannelAt, defineChannel]

theorem clearChannel : (clearChannel index s).refusesCleanly s := by
  unfold Machine.clearChannel; repeat' split
  all_goals simp [clearChannelAt]

theorem readEntry (table : Byte) (index : BitVec 16) : (readEntry table index s).refusesCleanly s := fun _ => readEntry_state table index s

theorem readState (table : Byte) (index : BitVec 16) : (readState table index s).refusesCleanly s := fun _ => readState_state table index s

theorem setModeRun : (setModeRun s).refusesCleanly s := by
  unfold Machine.setModeRun; repeat' split
  all_goals simp

theorem setModeTest : (setModeTest s).refusesCleanly s := by
  unfold Machine.setModeTest; repeat' split
  all_goals simp

theorem setModeConfiguring : (setModeConfiguring s).refusesCleanly s := by
  unfold Machine.setModeConfiguring; repeat' split
  all_goals simp

theorem freezeMatrix : (freezeMatrix s).refusesCleanly s := by
  unfold Machine.freezeMatrix; repeat' split
  all_goals simp

theorem annunciationRestart : (annunciationRestart s).refusesCleanly s := by
  unfold Machine.annunciationRestart; split <;> simp

theorem groupAck (group : Byte) : (groupAck group s).refusesCleanly s := by
  unfold Machine.groupAck; split <;> simp

theorem groupReset (group : Byte) : (groupReset group s).refusesCleanly s := by
  unfold Machine.groupReset; split <;> simp

theorem hornSilence (horn : Byte) : (hornSilence horn s).refusesCleanly s := by
  unfold Machine.hornSilence; split <;> simp

theorem resetLockout (c : Fin 16) : (resetLockout c s).refusesCleanly s := by
  unfold Machine.resetLockout; split <;> simp

theorem lockoutReset (channel : Byte) : (lockoutReset channel s).refusesCleanly s := by
  unfold Machine.lockoutReset; repeat' split
  all_goals simp [resetLockout]

theorem forceCommand (on : Bool) (element : Byte) : (forceCommand on element s).refusesCleanly s := by
  unfold Machine.forceCommand; repeat' split
  all_goals simp

theorem readStatus (flag : Byte) : (readStatus flag s).refusesCleanly s := by
  unfold Machine.readStatus; repeat' split
  all_goals simp

end Answer.refusesCleanly

/-- Every named command that is refused leaves the state as it is (R172). -/
theorem command_refusesCleanly {c : Instr} {k : Command} (h : command c = some k) (s : State) : (k.act s).refusesCleanly s := by
  cases c <;> simp only [command, Option.some.injEq, reduceCtorEq] at h <;> subst h
  case readEntry => exact .readEntry s _ _
  case readState => exact .readState s _ _
  case writeSettings => exact .entry (.writeSettings s _ _) _ _
  case clearSettings => exact .entry (.clearSettings s _) _ _
  case writeModule => exact .entry (.writeModule s _ _) _ _
  case clearModule => exact .entry (.clearModule s _) _ _
  case writePoint => exact .entry (.writePoint s _ _) _ _
  case clearPoint => exact .entry (.clearPoint s _) _ _
  case writeWindow => exact .entry (.writeWindow s _ _) _ _
  case clearWindow => exact .entry (.clearWindow s _) _ _
  case writeDriver => exact .entry (.writeDriver s _ _) _ _
  case clearDriver => exact .entry (.clearDriver s _) _ _
  case writeGroup => exact .entry (.writeGroup s _ _) _ _
  case clearGroup => exact .entry (.clearGroup s _) _ _
  case writeHorn => exact .entry (.writeHorn s _ _) _ _
  case clearHorn => exact .entry (.clearHorn s _) _ _
  case writePattern => exact .entry (.writePattern s _ _) _ _
  case clearPattern => exact .entry (.clearPattern s _) _ _
  case writeElement => exact .entry (.writeElement s _ _) _ _
  case clearElement => exact .entry (.clearElement s _) _ _
  case writeOutput => exact .entry (.writeOutput s _ _) _ _
  case clearOutput => exact .entry (.clearOutput s _) _ _
  case writeChannel => exact .entry (.writeChannel s _ _) _ _
  case clearChannel => exact .entry (.clearChannel s _) _ _
  case setModeRun => exact .setModeRun s
  case setModeTest => exact .setModeTest s
  case setModeConfiguring => exact .setModeConfiguring s
  case freezeMatrix => exact .freezeMatrix s
  case annunciationRestart => exact .annunciationRestart s
  case groupAck => exact .groupAck s _
  case groupReset => exact .groupReset s _
  case hornSilence => exact .hornSilence s _
  case lampTestOn => exact .accepted s _
  case lampTestOff => exact .accepted s _
  case lockoutReset => exact .lockoutReset s _
  case forceElementOn => exact .forceCommand s _ _
  case forceElementOff => exact .forceCommand s _ _
  case readStatus => exact .readStatus s _

/-! ### Numbers that name nothing -/

theorem groupAck_unnamed {n : Byte} (h : s.definedGroup n = none) : groupAck n s = refuse .range s := by
  unfold groupAck; rw [h]

theorem groupReset_unnamed {n : Byte} (h : s.definedGroup n = none) : groupReset n s = refuse .range s := by
  unfold groupReset; rw [h]

theorem hornSilence_unnamed {n : Byte} (h : 3 < n.toNat) : hornSilence n s = refuse .range s := by
  have none : hornNumber n = none := dif_neg (by omega)
  unfold hornSilence; rw [none]

theorem finOf_above {n k : Nat} (h : n ≤ k) : finOf n k = none := dif_neg (Nat.not_lt.mpr h)

/-- A number in range is that number's entry. -/
theorem finOf_cases (n k : Nat) : n ≤ k ∧ finOf n k = none ∨ ∃ i : Fin n, i.val = k ∧ finOf n k = some i := by
  rcases Nat.lt_or_ge k n with inside | above
  · exact .inr ⟨⟨k, inside⟩, rfl, dif_pos inside⟩
  · exact .inl ⟨above, finOf_above above⟩

theorem lockoutReset_unnamed {n : Byte} (h : ∀ c : Fin 16, c.val = n.toNat → (s.channel c).defn = none) :
    lockoutReset n s = refuse .range s := by
  unfold lockoutReset
  rcases finOf_cases 16 n.toNat with ⟨-, none⟩ | ⟨c, named, some⟩
  · rw [none]
  · rw [some]; exact if_pos (h c named)

theorem forceCommand_unnamed {n : Byte} (test : s.mode = .test) (h : ∀ e : Fin 64, e.val = n.toNat → (s.element e).defn = none) (on : Bool) :
    forceCommand on n s = refuse .range s := by
  unfold forceCommand
  rw [if_neg (not_not.mpr test)]
  rcases finOf_cases 64 n.toNat with ⟨-, none⟩ | ⟨e, named, some⟩
  · rw [none]
  · rw [some]; exact if_pos (h e named)

/-- A row whose command is refused answers with the status (R172). -/
theorem exec_refused {c : Instr} {k : Command} (named : command c = some k) (ready : s.ready k.src) {st : Status}
    (refused : k.act s = refuse st s) : exec c s = .next (s.refused k.src k.code st) := by
  rw [exec_of_ready named ready, refused]; rfl

/-! ### Payloads that spell no command's parameters -/

theorem tableOf_unlisted {table : Byte} (h : 0x0A < table.toNat) : tableOf table = none := by
  refine List.find?_eq_none.mpr fun t _ => ?_
  have listed : t.code.toNat ≤ 0x0A := by cases t <;> decide
  simp only [decide_eq_true_eq]
  rintro rfl
  omega

theorem tableOf_listed {table : Byte} (h : table.toNat ≤ 0x0A) : ∃ t, tableOf table = some t := by
  have listed : ∀ n : Fin 11, (tableOf (BitVec.ofNat 8 n.val)).isSome := by decide
  have found := listed ⟨table.toNat, by omega⟩
  rw [BitVec.ofNat_toNat, BitVec.setWidth_eq] at found
  exact Option.isSome_iff_exists.mp found

theorem performCode_bare {code : Byte} (h : code ∈ ([0x11, 0x12] : List Byte)) (s : State) :
    ∃ act, ∀ params, performCode code params s = bareCommand params act s := by
  simp only [List.mem_cons, List.not_mem_nil, or_false] at h
  rcases h with rfl | rfl
  · exact ⟨freezeMatrix, fun _ => rfl⟩
  · exact ⟨annunciationRestart, fun _ => rfl⟩

theorem performCode_byte {code : Byte} (h : code ∈ ([0x10, 0x20, 0x21, 0x22, 0x23, 0x30, 0x40] : List Byte)) (s : State) :
    ∃ act, ∀ params, performCode code params s = byteCommand params act s := by
  simp only [List.mem_cons, List.not_mem_nil, or_false] at h
  rcases h with rfl | rfl | rfl | rfl | rfl | rfl | rfl
  · exact ⟨setMode, fun _ => rfl⟩
  · exact ⟨groupAck, fun _ => rfl⟩
  · exact ⟨groupReset, fun _ => rfl⟩
  · exact ⟨hornSilence, fun _ => rfl⟩
  · exact ⟨lampTest, fun _ => rfl⟩
  · exact ⟨lockoutReset, fun _ => rfl⟩
  · exact ⟨readStatus, fun _ => rfl⟩

/-- The four entry commands split their parameters; all but WRITE ENTRY carry nothing after the index (R174). -/
theorem performCode_entry {code : Byte} (h : code ∈ ([0x01, 0x02, 0x03, 0x04] : List Byte)) (s : State) :
    ∃ act, (∀ params, performCode code params s = entryCommand params act s) ∧ (code ≠ 0x02 → ∃ bare, act = bareEntry bare) := by
  simp only [List.mem_cons, List.not_mem_nil, or_false] at h
  rcases h with rfl | rfl | rfl | rfl
  · exact ⟨bareEntry (fun t i s => readAnswer (entryAt t i.toNat s) s), fun _ => rfl, fun _ => ⟨_, rfl⟩⟩
  · exact ⟨fun t i e s => entryReply t i (writeEntry t i.toNat e s), fun _ => rfl, fun h => absurd rfl h⟩
  · exact ⟨bareEntry (fun t i s => clearEntry t i.toNat s), fun _ => rfl, fun _ => ⟨_, rfl⟩⟩
  · exact ⟨bareEntry (fun t i s => readAnswer (dynamicAt t i.toNat s) s), fun _ => rfl, fun _ => ⟨_, rfl⟩⟩

theorem bareCommand_length {params : List Byte} (h : params ≠ []) (act : State → Answer) : bareCommand params act s = refuse .length s := by
  cases params with
  | nil => exact absurd rfl h
  | cons b rest => rfl

theorem byteCommand_length {params : List Byte} (h : params.length ≠ 1) (act : Byte → State → Answer) :
    byteCommand params act s = refuse .length s := by
  match params with
  | [] => rfl
  | [b] => exact absurd rfl h
  | _ :: _ :: _ => rfl

theorem forceParams_length {params : List Byte} (h : params.length ≠ 2) : forceParams params s = refuse .length s := by
  match params with
  | [] => rfl
  | [_] => rfl
  | [_, _] => exact absurd rfl h
  | _ :: _ :: _ :: _ => rfl

theorem entryCommand_length {params : List Byte} (h : params.length < 3) (act : TableId → BitVec 16 → List Byte → State → Answer) :
    entryCommand params act s = refuse .length s := by
  match params with
  | [] => rfl
  | [_] => rfl
  | [_, _] => rfl
  | _ :: _ :: _ :: rest =>
    simp only [List.length_cons] at h
    omega

theorem entryCommand_unlisted {table : Byte} (h : 0x0A < table.toNat) (i1 i0 : Byte) (rest : List Byte)
    (act : TableId → BitVec 16 → List Byte → State → Answer) :
    entryCommand (table :: i1 :: i0 :: rest) act s = refuse .unknown s := by
  unfold entryCommand
  dsimp only
  rw [tableOf_unlisted h]

theorem entryCommand_bare {table : Byte} (h : table.toNat ≤ 0x0A) (i1 i0 : Byte) {rest : List Byte} (more : rest ≠ [])
    (act : TableId → BitVec 16 → State → Answer) :
    entryCommand (table :: i1 :: i0 :: rest) (bareEntry act) s = refuse .length s := by
  obtain ⟨t, found⟩ := tableOf_listed h
  unfold entryCommand
  dsimp only
  rw [found]
  exact if_neg (by simpa using more)

theorem setMode_unlisted {x : Byte} (h : 2 < x.toNat) : setMode x s = refuse .range s := by
  unfold setMode
  rw [if_neg (by rintro rfl; simp at h), if_neg (by rintro rfl; simp at h), if_neg (by rintro rfl; simp at h)]

theorem lampTest_unlisted {x : Byte} (h : 1 < x.toNat) : lampTest x s = refuse .range s := by
  unfold lampTest
  rw [if_neg (by rintro rfl; simp at h), if_neg (by rintro rfl; simp at h)]

/-- An unlisted force value is refused for the mode first (R119). -/
theorem forceParams_unlisted {x : Byte} (h : 1 < x.toNat) (e : Byte) :
    forceParams [e, x] s = if s.mode ≠ .test then refuse .wrongMode s else refuse .range s := by
  unfold forceParams
  dsimp only
  rw [if_neg (by rintro rfl; simp at h), if_neg (by rintro rfl; simp at h)]

/-- Settles O49. -/
theorem refusedCommandsChangeNothing : Obligations.RefusedCommandsChangeNothing := by
  refine ⟨?_, ?_, ?_⟩
  · intro c src code params s ready spells
    obtain ⟨k, named, source, coded, act⟩ := command_of_payload spells
    subst source
    refine ⟨_, (k.act s).status.code, (k.act s).data, exec_of_ready named ready, ?_, fun refused => ?_⟩
    · rw [← coded]; rfl
    · have kept := command_refusesCleanly named s fun ok => refused (by rw [ok]; rfl)
      unfold Answer.replied
      rw [kept]
  · intro src s ready
    refine ⟨?_, fun code params unlisted => ?_, fun n => ⟨fun none => ⟨?_, ?_⟩, fun above => ?_, fun none => ?_, fun test none => ⟨?_, ?_⟩⟩⟩
    · refine (running_high ready.1 _).trans (congrArg _ ?_)
      exact (if_pos rfl).trans (takeCommand_of_ready ready _ _)
    · refine (running_high ready.1 _).trans (congrArg _ ?_)
      refine (if_pos (by simpa [Instr.unknownPayload, commandCodes] using unlisted)).trans ((takeCommand_of_ready ready _ _).trans ?_)
      rw [show performPayload (code :: params) s = refuse .unknown s from performCode_unlisted unlisted params s]
      rfl
    · exact exec_refused (c := .groupAck src n) rfl ready (groupAck_unnamed none)
    · exact exec_refused (c := .groupReset src n) rfl ready (groupReset_unnamed none)
    · exact exec_refused (c := .hornSilence src n) rfl ready (hornSilence_unnamed above)
    · exact exec_refused (c := .lockoutReset src n) rfl ready (lockoutReset_unnamed none)
    · exact exec_refused (c := .forceElementOn src n) rfl ready (forceCommand_unnamed test none true)
    · exact exec_refused (c := .forceElementOff src n) rfl ready (forceCommand_unnamed test none false)
  · intro before after h s ready settled held cmd first refusedBy
    have refuses {st : Status} (refused : performPayload h.frame.payload s = refuse st s) :
        refusedBy (replyCode h.frame.payload) st := by
      have taken := exec_cmdFrame_ready held cmd first settled ready
      rw [refused] at taken
      exact taken
    refine ⟨fun empty => ?_, fun code params spells => ?_⟩
    · rw [empty] at refuses
      exact refuses rfl
    rw [spells] at refuses
    have refuses {st : Status} (refused : performCode code params s = refuse st s) : refusedBy code st := refuses refused
    refine ⟨fun listed more => ?_, fun listed wrong => ?_, fun force wrong => ?_, fun listed short => ?_,
      fun table i1 i0 rest listed split => ?_, fun x one => ⟨fun mode above => ?_, fun lamp above => ?_⟩,
      fun e x force both above => ⟨fun test => ?_, fun other => ?_⟩⟩
    · obtain ⟨act, performs⟩ := performCode_bare listed s
      exact refuses ((performs params).trans (bareCommand_length more act))
    · obtain ⟨act, performs⟩ := performCode_byte listed s
      exact refuses ((performs params).trans (byteCommand_length wrong act))
    · subst force
      exact refuses (forceParams_length wrong)
    · obtain ⟨act, performs, -⟩ := performCode_entry listed s
      exact refuses ((performs params).trans (entryCommand_length short act))
    · obtain ⟨act, performs, bare⟩ := performCode_entry listed s
      subst split
      refine ⟨fun unlisted => refuses ((performs _).trans (entryCommand_unlisted unlisted i1 i0 rest act)), fun known code more => ?_⟩
      obtain ⟨read, rfl⟩ := bare code
      exact refuses ((performs _).trans (entryCommand_bare known i1 i0 more read))
    · subst one mode
      exact refuses (setMode_unlisted above)
    · subst one lamp
      exact refuses (lampTest_unlisted above)
    · subst force both
      exact refuses ((forceParams_unlisted above e).trans (if_neg (not_not.mpr test)))
    · subst force both
      exact refuses ((forceParams_unlisted above e).trans (if_pos other))

end Sys2Proof.Machine

/-! O50: definitions travel as their entry bytes (R163, R175), field by field. -/

namespace Sys2Proof.Machine

/-! ### Fields: what is read of a field as it is sent -/

theorem lowByte_toNat {k : Nat} (h : k < 256) : (lowByte k).toNat = k := Nat.mod_eq_of_lt h

theorem natOfBytes_word {k : Nat} (h : k < 65536) : natOfBytes [lowByte (k / 256), lowByte k] = k := by
  rw [natOfBytes_pair, lowByte_toNat (by omega)]
  change k / 256 * 256 + k % 256 = k
  omega

theorem bytesOfNat_word (k : Nat) : bytesOfNat 2 k = [lowByte (k / 256), lowByte k] := rfl

theorem ranged_of {low high k : Nat} (h : low ≤ k) (l : k ≤ high) : ranged low high k = some k := if_pos ⟨h, l⟩

theorem ranged_lowByte {low high k : Nat} (h : low ≤ k) (l : k ≤ high) (fits : high < 256) : ranged low high (lowByte k).toNat = some k := by
  rw [lowByte_toNat (by omega), ranged_of h l]

theorem ranged_word {low high k : Nat} (h : low ≤ k) (l : k ≤ high) (fits : high < 65536) :
    ranged low high (natOfBytes [lowByte (k / 256), lowByte k]) = some k := by
  rw [natOfBytes_word (by omega), ranged_of h l]

theorem ranged_some {low high k n : Nat} (h : ranged low high k = some n) : n = k ∧ low ≤ n ∧ n ≤ high := by
  unfold ranged at h
  split at h
  · cases h; exact ⟨rfl, ‹_›⟩
  · cases h

theorem linkAddress_lowByte {k : Nat} (h : 1 ≤ k) (l : k ≤ 239) : linkAddress (lowByte k) = some k := by
  have sent := lowByte_toNat (k := k) (by omega)
  rw [linkAddress_of (by omega) (by omega), sent]

theorem linkAddress_some {b : Byte} {n : Nat} (h : linkAddress b = some n) : n = b.toNat ∧ 1 ≤ n ∧ n ≤ 239 := by
  unfold linkAddress at h
  split at h
  · cases h; exact ⟨rfl, ‹_›⟩
  · cases h

theorem finOf_lowByte {n : Nat} (i : Fin n) (fits : n ≤ 256) : finOf n (lowByte i.val).toNat = some i :=
  finOf_of (lowByte_toNat (by have := i.isLt; omega))

theorem optionalFin_indexByte {n : Nat} (x : Option (Fin n)) (fits : n ≤ 255) : optionalFin n (indexByte x) = some x := by
  cases x with
  | none => rfl
  | some i =>
    have sent : (lowByte i.val).toNat = i.val := lowByte_toNat (by have := i.isLt; omega)
    have present : lowByte i.val ≠ 0xFF := by
      intro absent
      rw [absent] at sent
      have : i.val = 255 := sent.symm
      have := i.isLt
      omega
    unfold optionalFin indexByte
    rw [if_neg present, finOf_lowByte i (by omega)]

theorem optionalAddress_numberByte {x : Option Nat} (h : ∀ n, x = some n → 1 ≤ n ∧ n ≤ 239) : optionalAddress (numberByte x) = some x := by
  cases x with
  | none => rfl
  | some n =>
    obtain ⟨low, high⟩ := h n rfl
    have sent := lowByte_toNat (k := n) (by omega)
    change optionalAddress (lowByte n) = _
    rw [optionalAddress_of (by omega) (by omega), sent]

theorem chatterLimitOf_lowByte {k : Nat} (h : k ≤ 15) (one : k ≠ 1) : chatterLimitOf (lowByte k) = some k := by
  unfold chatterLimitOf
  rw [lowByte_toNat (by omega), if_pos ⟨h, one⟩]

theorem chatterLimitOf_some {b : Byte} {k : Nat} (h : chatterLimitOf b = some k) : k ≤ 15 ∧ k ≠ 1 := by
  unfold chatterLimitOf at h
  split at h
  · cases h; assumption
  · cases h

theorem twoValued_bool (b : Bool) : twoValued false true (boolByte b) = some b := by cases b <;> rfl
theorem twoValued_polarity (x : Polarity) : twoValued Polarity.alarmOnClosed .alarmOnOpen (lowByte x.code) = some x := by cases x <;> rfl
theorem twoValued_kind (x : PointKind) : twoValued PointKind.maintained .momentary (lowByte x.code) = some x := by cases x <;> rfl
theorem twoValued_class (x : RecClass) : twoValued RecClass.alarm .trip (lowByte x.code) = some x := by cases x <;> rfl
theorem twoValued_sequence (x : SequenceType) : twoValued SequenceType.manualReset .autoReset (lowByte x.code) = some x := by cases x <;> rfl
theorem twoValued_sound (x : Sound) : twoValued Sound.continuous .pulsed (lowByte x.code) = some x := by cases x <;> rfl
theorem twoValued_sense (x : Sense) : twoValued Sense.onAlarm .onNormal (lowByte x.code) = some x := by cases x <;> rfl
theorem readPolicy_code (x : Policy) : readPolicy (lowByte x.code) = some x := by cases x <;> rfl
theorem readDelayMode_code (x : DelayMode) : readDelayMode (lowByte x.code) = some x := by cases x <;> rfl

/-! ### Definitions of fixed length -/

theorem readSettings_entry {v : Settings} (h : v.inRange) : readSettings v.entry = some v := by
  obtain ⟨g1, g2, c1, c2, ha1, ha2, la, hb1, hb2, lb, l1, l2, b, s1, s2⟩ := h
  simp only [Settings.entry, bytesOfNat_word, List.cons_append, List.nil_append, readSettings, Option.bind_eq_bind, Option.bind_some,
    linkAddress_lowByte g1 g2, ranged_word c1 c2 (by omega), ranged_lowByte ha1 ha2 (by omega),
    ranged_lowByte (Nat.zero_le _) (Nat.le_sub_one_of_lt la) (by omega), ranged_lowByte hb1 hb2 (by omega),
    ranged_lowByte (Nat.zero_le _) (Nat.le_sub_one_of_lt lb) (by omega), ranged_lowByte l1 l2 (by omega),
    ranged_lowByte (Nat.zero_le _) b (by omega), ranged_word s1 s2 (by omega), optionalFin_indexByte v.systemWindow (by omega)]

theorem readSettings_inRange {bytes : List Byte} {v : Settings} (h : readSettings bytes = some v) : v.inRange := by
  unfold readSettings at h
  split at h
  · simp only [Option.bind_eq_bind, Option.bind_eq_some_iff, Option.some.injEq] at h
    obtain ⟨g, hg, c, hc, ha, hha, la, hla, hb, hhb, lb, hlb, l, hl, b, hb', y, hy, w, -, rfl⟩ := h
    have hg := linkAddress_some hg
    have hc := ranged_some hc
    have hha := ranged_some hha
    have hla := ranged_some hla
    have hhb := ranged_some hhb
    have hlb := ranged_some hlb
    have hl := ranged_some hl
    have hb' := ranged_some hb'
    have hy := ranged_some hy
    unfold Settings.inRange
    dsimp only
    omega
  · cases h

theorem readModule_entry {v : InputModule} (h : ∀ d, v.defn = some d → d.inRange) : readModule v.entry = some v.defn := by
  unfold InputModule.entry
  cases defined : v.defn with
  | none => rfl
  | some d =>
    obtain ⟨a1, a2, c1, c2, s1, s2⟩ := h d defined
    simp only [bytesOfNat_word, List.cons_append, List.nil_append, readModule, Option.bind_eq_bind, Option.bind_some,
      if_neg (show (1 : Byte) ≠ 0 by decide), if_pos, linkAddress_lowByte a1 a2, ranged_lowByte c1 c2 (by omega),
      ranged_word s1 s2 (by omega), optionalFin_indexByte d.window (by omega)]

theorem readModule_inRange {bytes : List Byte} {d : ModuleDef} (h : readModule bytes = some (some d)) : d.inRange := by
  unfold readModule at h
  split at h
  · split at h
    · cases h
    split at h
    · simp only [Option.bind_eq_bind, Option.bind_eq_some_iff, Option.some.injEq] at h
      obtain ⟨a, ha, c, hc, n, hn, w, -, rfl⟩ := h
      have ha := linkAddress_some ha
      have hc := ranged_some hc
      have hn := ranged_some hn
      unfold ModuleDef.inRange
      dsimp only
      omega
    · cases h
  · cases h

theorem readPointFields_sent {d : PointDef} (h : d.inRange) : readPointFields (lowByte d.polarity.code) (lowByte d.kind.code)
    (indexByte d.window) (lowByte d.chatterLimit) (boolByte d.inhibited) (lowByte d.cls.code) = some d := by
  simp only [readPointFields, Option.bind_eq_bind, Option.bind_some, twoValued_polarity, twoValued_kind, twoValued_bool, twoValued_class,
    chatterLimitOf_lowByte h.1 h.2, optionalFin_indexByte d.window (by omega)]

theorem readPoint_entry {v : Point} (h : ∀ d, v.defn = some d → d.inRange) : readPoint v.entry = some v.defn := by
  unfold Point.entry
  cases defined : v.defn with
  | none => rfl
  | some d =>
    simp only [readPoint, Option.bind_eq_bind, Option.bind_some, if_neg (show (1 : Byte) ≠ 0 by decide), if_pos,
      readPointFields_sent (h d defined)]

theorem readPointFields_inRange {a b c d e f : Byte} {x : PointDef} (h : readPointFields a b c d e f = some x) : x.inRange := by
  simp only [readPointFields, Option.bind_eq_bind, Option.bind_eq_some_iff, Option.some.injEq] at h
  obtain ⟨_, -, _, -, _, -, limit, hl, _, -, _, -, rfl⟩ := h
  exact chatterLimitOf_some hl

theorem readPoint_inRange {bytes : List Byte} {d : PointDef} (h : readPoint bytes = some (some d)) : d.inRange := by
  unfold readPoint at h
  split at h
  · split at h
    · simp only [Option.bind_eq_bind, Option.bind_eq_some_iff, Option.some.injEq] at h
      obtain ⟨-, -, no⟩ := h
      exact nomatch no
    split at h
    · simp only [Option.bind_eq_bind, Option.bind_eq_some_iff, Option.some.injEq] at h
      obtain ⟨x, hx, rfl⟩ := h
      exact readPointFields_inRange hx
    · cases h
  · cases h

theorem readWindow_entry (v : Window) : readWindow v.entry = some v.defn := by
  unfold Window.entry
  cases v.defn with
  | none => rfl
  | some d =>
    simp only [readWindow, Option.bind_eq_bind, Option.bind_some, if_neg (show (1 : Byte) ≠ 0 by decide), if_pos,
      finOf_lowByte d.group (by omega), twoValued_sequence, twoValued_bool]

theorem readGroup_entry {v : Group} (h : ∀ d, v.defn = some d → d.inRange) : readGroup v.entry = some v.defn := by
  unfold Group.entry
  cases defined : v.defn with
  | none => rfl
  | some d =>
    simp only [readGroup, Option.bind_eq_bind, Option.bind_some, if_neg (show (1 : Byte) ≠ 0 by decide), if_pos,
      optionalFin_indexByte d.horn (by omega), twoValued_bool, ranged_lowByte (Nat.zero_le _) (h d defined) (by omega)]

theorem readGroup_inRange {bytes : List Byte} {d : GroupDef} (h : readGroup bytes = some (some d)) : d.inRange := by
  unfold readGroup at h
  split at h
  · split at h
    · cases h
    split at h
    · simp only [Option.bind_eq_bind, Option.bind_eq_some_iff, Option.some.injEq] at h
      obtain ⟨_, -, _, -, n, hn, rfl⟩ := h
      exact (ranged_some hn).2.2
    · cases h
  · cases h

theorem readHorn_entry (v : Horn) : readHorn v.entry = some v.sound := twoValued_sound v.sound

/-- An on-time below the period is not clamped (R70). -/
theorem readPattern_entry {v : PatternEntry} (p1 : 2 ≤ v.period) (p2 : v.period ≤ 200) (o1 : 1 ≤ v.onTime) (o2 : v.onTime < v.period) :
    readPattern v.entry = some v := by
  simp only [PatternEntry.entry, readPattern, Option.bind_eq_bind, Option.bind_some, ranged_lowByte p1 p2 (by omega),
    ranged_lowByte (high := 255) o1 (by omega) (by omega), Nat.min_eq_left (Nat.le_sub_one_of_lt o2)]

theorem readOutput_entry {v : OutputModule} (h : ∀ n, v.address = some n → 1 ≤ n ∧ n ≤ 239) (t1 : 5 ≤ v.timeout) (t2 : v.timeout ≤ 100) :
    readOutput v.entry = some (v.address, v.timeout) := by
  simp only [OutputModule.entry, readOutput, Option.bind_eq_bind, Option.bind_some, optionalAddress_numberByte h,
    ranged_lowByte t1 t2 (by omega)]

theorem readChannel_entry (v : Channel) : readChannel v.entry = some v.defn := by
  unfold Channel.entry
  cases v.defn with
  | none => rfl
  | some d =>
    simp only [readChannel, Option.bind_eq_bind, Option.bind_some, if_neg (show (1 : Byte) ≠ 0 by decide), if_pos,
      finOf_lowByte d.outputModule (by omega), finOf_lowByte d.output (by omega), twoValued_bool, optionalFin_indexByte d.window (by omega)]

/-! ### Elements: two counts decide the length (R100, R115) -/

/-- The four bytes of an input (R100). -/
def ElementInput.bytes (i : ElementInput) : List Byte := bytesOfNat 2 i.point.val ++ [lowByte i.weight, lowByte i.sense.code]

theorem readInput_bytes {i : ElementInput} (h : 1 ≤ i.weight ∧ i.weight ≤ 15) :
    readInput (lowByte (i.point.val / 256)) (lowByte i.point.val) (lowByte i.weight) (lowByte i.sense.code) = some i := by
  have point : finOf 1024 (natOfBytes [lowByte (i.point.val / 256), lowByte i.point.val]) = some i.point :=
    finOf_of (natOfBytes_word (by have := i.point.isLt; omega))
  simp only [readInput, Option.bind_eq_bind, Option.bind_some, point, ranged_lowByte h.1 h.2 (by omega), twoValued_sense]

theorem readInputs_bytes {is : List ElementInput} (h : ∀ i ∈ is, 1 ≤ i.weight ∧ i.weight ≤ 15) :
    readInputs (is.flatMap ElementInput.bytes) = some is := by
  induction is with
  | nil => rfl
  | cons i is ih =>
    have rest := ih fun j mem => h j (List.mem_cons_of_mem i mem)
    simp only [List.flatMap_cons, ElementInput.bytes, bytesOfNat_word, List.cons_append, List.nil_append, readInputs,
      Option.bind_eq_bind, Option.bind_some, readInput_bytes (h i List.mem_cons_self)]
    change (readInputs (is.flatMap ElementInput.bytes)).bind _ = _
    rw [rest]
    rfl

theorem inputBytes_length (is : List ElementInput) : (is.flatMap ElementInput.bytes).length = 4 * is.length := by
  induction is with
  | nil => rfl
  | cons i is ih =>
    rw [List.flatMap_cons, List.length_append, ih, List.length_cons, show i.bytes.length = 4 from rfl]
    omega

theorem readTargets_bytes (cs : List (Fin 16)) : readTargets (cs.map fun c => lowByte c.val) = some cs := by
  induction cs with
  | nil => rfl
  | cons c cs ih => simp only [List.map_cons, readTargets, Option.bind_eq_bind, finOf_lowByte c (by omega), Option.bind_some, ih]

theorem readInputs_some {bytes : List Byte} {is : List ElementInput} (h : readInputs bytes = some is) :
    bytes.length = 4 * is.length ∧ ∀ i ∈ is, 1 ≤ i.weight ∧ i.weight ≤ 15 := by
  induction is generalizing bytes with
  | nil =>
    unfold readInputs at h
    split at h
    · simp only [Option.bind_eq_bind, Option.bind_eq_some_iff, Option.some.injEq] at h
      obtain ⟨_, -, _, -, no⟩ := h
      exact nomatch no
    · exact ⟨rfl, nofun⟩
    · cases h
  | cons i is ih =>
    unfold readInputs at h
    split at h
    · simp only [Option.bind_eq_bind, Option.bind_eq_some_iff, Option.some.injEq] at h
      obtain ⟨j, hj, js, hjs, same⟩ := h
      cases same
      obtain ⟨length, weights⟩ := ih hjs
      refine ⟨by simp only [List.length_cons, length]; omega, ?_⟩
      simp only [readInput, Option.bind_eq_bind, Option.bind_eq_some_iff, Option.some.injEq] at hj
      obtain ⟨_, -, _, hw, _, -, rfl⟩ := hj
      exact List.forall_mem_cons.mpr ⟨(ranged_some hw).2, weights⟩
    · cases h
    · cases h

theorem readTargets_some {bytes : List Byte} {cs : List (Fin 16)} (h : readTargets bytes = some cs) : bytes.length = cs.length := by
  induction bytes generalizing cs with
  | nil => cases h; rfl
  | cons b bytes ih =>
    simp only [readTargets, Option.bind_eq_bind, Option.bind_eq_some_iff, Option.some.injEq] at h
    obtain ⟨_, -, ds, hds, rfl⟩ := h
    exact congrArg (· + 1) (ih hds)

/-- The six bytes after the inputs (R100). -/
def ElementDef.settingBytes (d : ElementDef) : List Byte :=
  [lowByte d.pickup, lowByte d.dropout, lowByte d.policy.code, lowByte d.mode.code] ++ bytesOfNat 2 d.delay

theorem ElementDef.entry_eq (d : ElementDef) : d.entry = 1 :: lowByte d.inputs.length ::
    (d.inputs.flatMap ElementInput.bytes ++ (d.settingBytes ++ lowByte d.targets.length :: d.targets.map fun c => lowByte c.val)) := by
  simp only [ElementDef.entry, ElementDef.settingBytes, List.append_assoc, List.cons_append, List.nil_append]
  rfl

theorem readElementFields_sent {d : ElementDef} (h : d.inRange) : readElementFields d.inputs d.targets d.settingBytes = some d := by
  obtain ⟨-, -, -, inputs, p1, p2, below, delay, pulse, -, -, targets⟩ := h
  have least : (if d.mode = .pulse then 1 else 0) ≤ d.delay := by
    split
    · exact pulse ‹_›
    · exact Nat.zero_le _
  simp only [ElementDef.settingBytes, bytesOfNat_word, List.cons_append, List.nil_append, readElementFields, Option.bind_eq_bind,
    Option.bind_some, ranged_lowByte p1 p2 (by omega), ranged_lowByte (Nat.zero_le _) (Nat.le_sub_one_of_lt below) (by omega),
    readPolicy_code, readDelayMode_code, ranged_word least delay (by omega)]
  exact if_pos ⟨targets, inputs⟩

theorem readElementValues_of {k : Nat} {body : List Byte} {inputs : List ElementInput} {targets : List (Fin 16)} {d : ElementDef}
    (hi : readInputs (body.take (4 * k)) = some inputs) (ht : readTargets (body.drop (4 * k + 7)) = some targets)
    (hf : readElementFields inputs targets ((body.drop (4 * k)).take 6) = some d) : readElementValues k body = .define d := by
  simp only [readElementValues, Option.bind_eq_bind, hi, ht, hf, Option.bind_some]

theorem readElement_entry {d : ElementDef} (h : d.inRange) : readElement d.entry = .define d := by
  have fields := readElementFields_sent h
  obtain ⟨i1, i2, weights, -, -, -, -, -, -, t1, t2, -⟩ := h
  have inputs := readInputs_bytes weights
  have long := inputBytes_length d.inputs
  have inputCount := lowByte_toNat (k := d.inputs.length) (by omega)
  have targetCount := lowByte_toNat (k := d.targets.length) (by omega)
  rw [ElementDef.entry_eq]
  change readElementBody _ _ = _
  generalize d.inputs.flatMap ElementInput.bytes = first at *
  have head (rest : List Byte) : (first ++ rest).take (4 * d.inputs.length) = first := List.take_left' long
  have tail (rest : List Byte) : (first ++ rest).drop (4 * d.inputs.length) = rest := List.drop_left' long
  have beyond (rest : List Byte) (n : Nat) : (first ++ rest).drop (4 * d.inputs.length + n) = rest.drop n := by
    rw [← List.drop_drop, tail]
  have count (rest : List Byte) : (first ++ rest)[4 * d.inputs.length + 6]? = rest[6]? := by
    rw [← List.getElem?_drop, tail]
  unfold readElementBody
  dsimp only
  rw [inputCount, if_neg (by omega), count]
  change (if _ then _ else if _ then _ else _) = _
  rw [targetCount, if_neg (by omega), if_neg]
  · refine readElementValues_of ((congrArg readInputs (head _)).trans inputs) ?_ ?_ (targets := d.targets)
    · rw [beyond]; exact readTargets_bytes d.targets
    · rw [tail]; exact fields
  · rw [List.length_append, List.length_append, List.length_cons, List.length_map, long, show d.settingBytes.length = 6 from rfl]
    omega

/-- What the fields after the inputs say is in range (R115 step 6). -/
theorem readElementFields_some {inputs : List ElementInput} {targets : List (Fin 16)} {bytes : List Byte} {d : ElementDef}
    (h : readElementFields inputs targets bytes = some d) :
    d.inputs = inputs ∧ d.targets = targets ∧ targets.Nodup ∧ (inputs.map fun i => (i.point, i.sense)).Nodup ∧
      1 ≤ d.pickup ∧ d.pickup ≤ 120 ∧ d.dropout < d.pickup ∧ d.delay ≤ 65535 ∧ (d.mode = .pulse → 1 ≤ d.delay) := by
  unfold readElementFields at h
  split at h
  · simp only [Option.bind_eq_bind, Option.bind_eq_some_iff] at h
    obtain ⟨pickup, hp, dropout, hd, policy, -, mode, -, delay, hn, both⟩ := h
    split at both
    · rename_i distinct
      cases both
      have hp := ranged_some hp
      have hd := ranged_some hd
      have hn := ranged_some hn
      refine ⟨rfl, rfl, distinct.1, distinct.2, hp.2.1, hp.2.2, by dsimp only; omega, hn.2.2, fun pulse => ?_⟩
      have least := hn.2.1
      rwa [if_pos pulse] at least
    · cases both
  · cases h

theorem readElementValues_define {k : Nat} {body : List Byte} {d : ElementDef} (h : readElementValues k body = .define d) :
    ∃ inputs targets, readInputs (body.take (4 * k)) = some inputs ∧ readTargets (body.drop (4 * k + 7)) = some targets ∧
      readElementFields inputs targets ((body.drop (4 * k)).take 6) = some d := by
  unfold readElementValues at h
  dsimp only at h
  split at h
  · rename_i found
    cases h
    simp only [Option.bind_eq_bind, Option.bind_eq_some_iff] at found
    obtain ⟨inputs, hi, targets, ht, hf⟩ := found
    exact ⟨inputs, targets, hi, ht, hf⟩
  · cases h

theorem readElement_inRange {bytes : List Byte} {d : ElementDef} (h : readElement bytes = .define d) : d.inRange := by
  unfold readElement at h
  split at h
  · cases h
  split at h
  · cases h
  split at h
  · split at h
    · cases h
    · rename_i count body
      unfold readElementBody at h
      dsimp only at h
      split at h
      · cases h
      rename_i inputCount
      split at h
      · cases h
      rename_i m _
      split at h
      · cases h
      rename_i targetCount
      split at h
      · cases h
      rename_i whole
      obtain ⟨inputs, targets, hi, ht, hf⟩ := readElementValues_define h
      obtain ⟨inputLength, weights⟩ := readInputs_some hi
      have targetLength := readTargets_some ht
      obtain ⟨rfl, rfl, distinctTargets, distinctInputs, p1, p2, below, delay, pulse⟩ := readElementFields_some hf
      rw [List.length_take] at inputLength
      rw [List.length_drop] at targetLength
      exact ⟨by omega, by omega, weights, distinctInputs, p1, p2, below, delay, pulse, by omega, by omega, distinctTargets⟩
  · cases h

/-- Settles O50. -/
theorem definitionsRoundTrip : Obligations.DefinitionsRoundTrip :=
  ⟨fun _ => readSettings_entry, fun _ _ => readSettings_inRange, fun _ => readModule_entry, fun _ _ => readModule_inRange,
    fun _ => readPoint_entry, fun _ _ => readPoint_inRange, readWindow_entry, fun _ => optionalAddress_numberByte,
    fun _ => readGroup_entry, fun _ _ => readGroup_inRange, readHorn_entry, fun _ => readPattern_entry, fun _ => readElement_entry,
    fun _ _ => readElement_inRange, fun _ => readOutput_entry, readChannel_entry⟩

end Sys2Proof.Machine

/-! O51: what READ ENTRY, READ STATE and READ STATUS return (R174 to R176, R178). -/

namespace Sys2Proof.Machine

variable {s : State}

/-! ### Reads by table and index -/

/-- The number of entries of a table (R174). -/
def TableId.size : TableId → Nat
  | .settings => 1
  | .module => 16
  | .point => 1024
  | .window => 192
  | .driver => 6
  | .group => 32
  | .horn => 4
  | .pattern => 4
  | .element => 64
  | .output => 8
  | .channel => 16

theorem map_finOf {n : Nat} (f : Fin n → List Byte) (i : Fin n) : (finOf n i.val).map f = some (f i) := by
  rw [finOf_val]; rfl

theorem map_finOf_isSome {n : Nat} (f : Fin n → List Byte) (k : Nat) : ((finOf n k).map f).isSome = decide (k < n) := by
  unfold finOf
  split <;> simp [*]

theorem entryAt_isSome (t : TableId) (k : Nat) (s : State) : (entryAt t k s).isSome = decide (k < t.size) := by
  cases t
  case settings => cases k <;> simp [entryAt, TableId.size]
  all_goals exact map_finOf_isSome _ k

theorem dynamicAt_isSome (t : TableId) (k : Nat) (s : State) : (dynamicAt t k s).isSome = decide (k < t.size) := by
  cases t
  case settings => cases k <;> simp [dynamicAt, TableId.size]
  all_goals exact map_finOf_isSome _ k

theorem readAnswer_found (t : TableId) (index : BitVec 16) (bytes : List Byte) (src code : Byte) (s : State) :
    (entryReply t index (readAnswer (some bytes) s)).replied src code = s.answered src (entryOk code t index ++ bytes) := by
  simp [entryReply, readAnswer, Answer.replied, State.answered, entryOk]

theorem readAnswer_absent (t : TableId) (index : BitVec 16) (src code : Byte) (s : State) :
    (entryReply t index (readAnswer none s)).replied src code = s.refused src code .range := by
  simp [entryReply, readAnswer, refuse, Answer.replied, State.refused, State.answered]

theorem readEntry_code (t : TableId) (index : BitVec 16) (s : State) :
    readEntry t.code index s = entryReply t index (readAnswer (entryAt t index.toNat s) s) := by
  unfold readEntry; rw [tableOf_code]

theorem readState_code (t : TableId) (index : BitVec 16) (s : State) :
    readState t.code index s = entryReply t index (readAnswer (dynamicAt t index.toNat s) s) := by
  unfold readState; rw [tableOf_code]

theorem exec_readEntry {src : Byte} (ready : s.ready src) (table : Byte) (index : BitVec 16) :
    exec (.readEntry src table index) s = .next ((readEntry table index s).replied src 0x01) :=
  exec_of_ready (c := .readEntry src table index) rfl ready

theorem exec_readState {src : Byte} (ready : s.ready src) (table : Byte) (index : BitVec 16) :
    exec (.readState src table index) s = .next ((readState table index s).replied src 0x04) :=
  exec_of_ready (c := .readState src table index) rfl ready

/-! ### Fields -/

theorem boolByte_decide (p : Prop) [Decidable p] : boolByte (decide p) = if p then 1 else 0 := by
  by_cases h : p <;> simp [boolByte, h]

theorem bytesOfNat_length (k n : Nat) : (bytesOfNat k n).length = k := by
  induction k generalizing n with
  | zero => rfl
  | succ k ih => rw [bytesOfNat, List.length_append, ih]; rfl

theorem statusBytes_length (s : State) : (statusBytes s).length = 55 := by
  simp only [statusBytes, PortState.counterBytes, List.length_append, bytesOfNat_length, List.length_map, List.length_finRange,
    List.length_cons, List.length_nil]

theorem imageBytes_length (s : State) (d : Fin 6) : (imageBytes s d).length = 16 := by
  rw [imageBytes, List.length_map, List.length_finRange]

/-- Two windows share a byte of their driver's image (section 9.4). -/
theorem imageBytes_get {d : Fin 6} {k : Fin 16} {w x : Fin 192} (even : w.val = 32 * d.val + 2 * k.val)
    (odd : x.val = 32 * d.val + 2 * k.val + 1) :
    (imageBytes s d)[k.val]? = some (lowByte ((s.window w).shown.code * 16 + (s.window x).shown.code)) := by
  have first : lampWindow d ⟨2 * k.val, by omega⟩ = w := Fin.ext (by change d.val * 32 + 2 * k.val = w.val; omega)
  have second : lampWindow d ⟨2 * k.val + 1, by omega⟩ = x := Fin.ext (by change d.val * 32 + (2 * k.val + 1) = x.val; omega)
  have at_k : (List.finRange 16)[k.val]? = some k := by
    rw [List.getElem?_eq_getElem (by rw [List.length_finRange]; exact k.isLt), List.getElem_finRange]; rfl
  rw [imageBytes, List.getElem?_map, at_k, ← first, ← second]
  rfl

/-- Settles O51. -/
theorem readsReturnTheState : Obligations.ReadsReturnTheState := by
  refine ⟨?_, ?_, ?_⟩
  · intro src t index s ready size
    have sized : size = t.size := by cases t <;> rfl
    clear_value size
    subst sized
    refine ⟨fun inside => ?_, fun above => ⟨?_, ?_⟩, fun table unlisted => ⟨?_, ?_⟩⟩
    · obtain ⟨entry, entered⟩ := Option.isSome_iff_exists.mp ((entryAt_isSome t index.toNat s).trans (decide_eq_true inside))
      obtain ⟨dynamic, moved⟩ := Option.isSome_iff_exists.mp ((dynamicAt_isSome t index.toNat s).trans (decide_eq_true inside))
      refine ⟨entry, dynamic, entered, moved, ?_, ?_⟩
      · rw [exec_readEntry ready, readEntry_code, entered, readAnswer_found]
      · rw [exec_readState ready, readState_code, moved, readAnswer_found]
    · have none := Option.isSome_eq_false_iff.mp ((entryAt_isSome t index.toNat s).trans (decide_eq_false (by omega)))
      rw [exec_readEntry ready, readEntry_code, Option.isNone_iff_eq_none.mp none, readAnswer_absent]
    · have none := Option.isSome_eq_false_iff.mp ((dynamicAt_isSome t index.toNat s).trans (decide_eq_false (by omega)))
      rw [exec_readState ready, readState_code, Option.isNone_iff_eq_none.mp none, readAnswer_absent]
    · rw [exec_readEntry ready, readEntry, tableOf_unlisted unlisted, replied_refuse]
    · rw [exec_readState ready, readState, tableOf_unlisted unlisted, replied_refuse]
  · intro s present link
    have present_eq : ∀ {n : Nat} (x : Option (Fin n)), present x = indexByte x := fun x => by cases x <;> rfl
    have link_eq : ∀ x : Option Nat, link x = numberByte x := fun x => by cases x <;> rfl
    clear_value present link
    simp only [present_eq, link_eq]
    refine ⟨⟨rfl, rfl⟩, fun i => ⟨map_finOf _ i, map_finOf _ i⟩, fun m => ?_, fun p => ?_, fun w => ?_, map_finOf _, fun g => ?_,
      fun h => ?_, fun e => ?_, map_finOf _, fun c => ?_, fun m => ?_, fun p => ?_, fun w => ?_, fun d => ?_,
      fun d k w x even odd => ⟨imageBytes_length s d, imageBytes_get even odd⟩, fun g => ?_, fun h => ?_, fun e => ?_, fun k => ?_, fun c => ?_⟩
    · refine (map_finOf _ m).trans (congrArg some ?_)
      unfold InputModule.entry
      cases (s.inputModule m).defn <;> rfl
    · refine (map_finOf _ p).trans (congrArg some ?_)
      unfold Point.entry
      cases (s.point p).defn with
      | none => rfl
      | some d =>
        have polarity : lowByte d.polarity.code = if d.polarity = .alarmOnOpen then 1 else 0 := by cases d.polarity <;> rfl
        have kind : lowByte d.kind.code = if d.kind = .momentary then 1 else 0 := by cases d.kind <;> rfl
        have cls : lowByte d.cls.code = if d.cls = .trip then 1 else 0 := by cases d.cls <;> rfl
        dsimp only
        rw [polarity, kind, cls]
        rfl
    · refine (map_finOf _ w).trans (congrArg some ?_)
      unfold Window.entry
      cases (s.window w).defn with
      | none => rfl
      | some d =>
        have sequence : lowByte d.sequence.code = if d.sequence = .autoReset then 1 else 0 := by cases d.sequence <;> rfl
        dsimp only
        rw [sequence]
        rfl
    · refine (map_finOf _ g).trans (congrArg some ?_)
      unfold Group.entry
      cases (s.group g).defn <;> rfl
    · refine (map_finOf _ h).trans (congrArg some ?_)
      unfold Horn.entry
      cases (s.horn h).sound <;> rfl
    · refine (map_finOf _ e).trans (congrArg some ?_)
      unfold Element.entry
      have sense : ∀ x : Sense, lowByte x.code = if x = .onNormal then 1 else 0 := fun x => by cases x <;> rfl
      refine congrArg₂ (· ++ ·) ?_ (congrArg ([·]) ?_)
      · cases (s.element e).defn with
        | none => rfl
        | some d =>
          simp only [ElementDef.entry, sense]
          cases d.policy <;> cases d.mode <;> rfl
      · cases (s.element e).pending <;> rfl
    · refine (map_finOf _ c).trans (congrArg some ?_)
      unfold Channel.entry
      cases (s.channel c).defn <;> rfl
    · refine (map_finOf _ m).trans (congrArg some ?_)
      unfold InputModule.dynamic
      generalize s.inputModule m = v
      refine congrArg (· ++ _) (congrArg (· ++ _) (congrArg (· ++ _) (congrArg (· ++ _)
        (congrArg₂ (· ++ ·) (congrArg₂ (· ++ ·) (congrArg ([·]) ?_) ?_) ?_))))
      · cases v.state <;> rfl
      · cases v.lastSeq <;> rfl
      · cases v.supervision <;> rfl
    · refine (map_finOf _ p).trans (congrArg some ?_)
      generalize s.point p = v
      have condition (x : Condition) : lowByte x.code = if x = .alarm then 1 else 0 := by cases x <;> rfl
      have quality : lowByte v.quality.code = if v.quality = .bad then 1 else 0 := by cases v.quality <;> rfl
      unfold Point.dynamic
      rw [condition, condition, quality]
      rfl
    · refine (map_finOf _ w).trans (congrArg some ?_)
      generalize s.window w = v
      refine congrArg₂ List.cons ?_ (congrArg (_ :: _ :: ·) (congrArg ([·]) ?_))
      · cases v.state <;> rfl
      · cases v.shown <;> rfl
    · refine (map_finOf _ d).trans (congrArg some ?_)
      unfold driverDynamic
      rw [boolByte_decide]
    · refine (map_finOf _ g).trans (congrArg some ?_)
      generalize s.group g = v
      refine congrArg₂ (· ++ ·) (congrArg (· ++ _) (congrArg₂ (· ++ ·) (congrArg₂ (fun x y => [x, y]) ?_ ?_) ?_)) (congrArg ([·]) ?_)
      · cases v.state <;> rfl
      · cases v.foWindow <;> rfl
      · cases v.foPoint <;> rfl
      · cases v.settle <;> rfl
    · refine (map_finOf _ h).trans (congrArg some ?_)
      unfold Horn.dynamic
      cases (s.horn h).state <;> rfl
    · refine (map_finOf _ e).trans (congrArg some ?_)
      generalize s.element e = v
      refine congrArg (· ++ _) (congrArg₂ (· ++ ·) (congrArg (· ++ _) (congrArg₂ List.cons ?_ (congrArg₂ List.cons ?_
        (congrArg (_ :: ·) (congrArg₂ List.cons ?_ (congrArg (_ :: ·) (congrArg ([·]) ?_))))))) (congrArg ([·]) ?_))
      · cases v.state <;> rfl
      · cases v.state <;> rfl
      · cases v.pending <;> rfl
      · cases v.timer <;> rfl
      · cases v.defn <;> rfl
    · refine (map_finOf _ k).trans (congrArg some ?_)
      unfold outputDynamic
      dsimp only
      generalize s.outputModule k = v
      rw [boolByte_decide]
      refine congrArg (· ++ _) (congrArg (· ++ _) (congrArg (· ++ _) ?_))
      cases v.awaitedSeq <;> cases v.deadline <;> rfl
    · refine (map_finOf _ c).trans (congrArg some ?_)
      generalize s.channel c = v
      refine congrArg₂ List.cons ?_ (congrArg₂ List.cons ?_ (congrArg (_ :: ·) (congrArg (· :: _) ?_)))
      · cases v.state <;> rfl
      · cases v.state <;> rfl
      · cases v.confirmation <;> rfl
  · intro src s ready counts bytes clear
    have answer {a : Answer} {flag : Byte} (h : readStatus flag s = a) :
        exec (.readStatus src flag) s = .next (a.replied src 0x40) := by
      rw [← h]; exact exec_of_ready (c := .readStatus src flag) rfl ready
    refine ⟨statusBytes_length s, ?_, ?_, fun flag other => ?_⟩
    · exact answer (flag := 0x00) rfl
    · exact answer (flag := 0x01) rfl
    · refine answer (a := refuse .range s) ?_
      unfold readStatus
      rw [if_neg (by rintro rfl; simp at other), if_neg (by rintro rfl; simp at other)]

end Sys2Proof.Machine

/-! O52: the settings record is installed, the marks judged, and the sources of the system window moved (R61, R166, R177). -/

namespace Sys2Proof.Machine

variable {s t : State}

/-! ### An activation and a clear of the system window: the windows they leave alone -/

/-- A standing activation adds one source, and moves no other window. -/
theorem activate_counts (w : Fin 192) (s : State) : ((activate w none s).window w).count = (s.window w).count + 1 ∧
    ∀ j, j ≠ w → ((activate w none s).window j).state = (s.window j).state ∧ ((activate w none s).window j).count = (s.window j).count := by
  cases runs : sequenceRuns s w with
  | false =>
    have shown := activate_rest_onlyShown runs none
    refine ⟨?_, fun j other => ?_⟩
    · rw [shown.window, countActivation_window, if_pos rfl]
    · rw [shown.window, countActivation_window, if_neg other]; exact ⟨rfl, rfl⟩
  | true =>
    have same := activate_sequence runs none
    refine ⟨?_, fun j other => ?_⟩
    · rw [same.count, activated_window, if_pos rfl]
    · rw [same.state, same.count, activated_window, if_neg other]; exact ⟨rfl, rfl⟩

theorem activateAt_count (name : Option (Fin 192)) (w : Fin 192) (s : State) :
    ((activateAt name none s).window w).count = (s.window w).count + (if name = some w then 1 else 0) := by
  cases name with
  | none => rfl
  | some j =>
    have counted := activate_counts j s
    by_cases same : j = w
    · subst same
      rw [if_pos rfl]
      exact counted.1
    · rw [if_neg fun eq => same (Option.some.inj eq)]
      exact (counted.2 w fun eq => same eq.symm).2

theorem activateAt_other {name : Option (Fin 192)} {w : Fin 192} (other : name ≠ some w) (s : State) :
    ((activateAt name none s).window w).state = (s.window w).state := by
  cases name with
  | none => rfl
  | some j => exact ((activate_counts j s).2 w fun eq => other (congrArg some eq.symm)).1

theorem clearAt_other {name : Option (Fin 192)} {w : Fin 192} (other : name ≠ some w) (s : State) :
    ((clearAt name s).window w).state = (s.window w).state := by
  cases name with
  | none => rfl
  | some j => exact congrArg Window.state ((clearSource_counts j s).2.2 w fun eq => other (congrArg some eq.symm))

/-! ### The sources that move -/

/-- The source of one MISSING channel moves from the old system window to the new (R61). -/
def moveSource (old new : Option (Fin 192)) (s : State) : State := activateAt new none (clearAt old s)

theorem moveSource_panel (old new : Option (Fin 192)) (s : State) : s.onlyPanel (moveSource old new s) :=
  (clearAt_panel old s).trans (activateAt_none_panel new _)

theorem moveSources_count (old new : Option (Fin 192)) (cs : List (Fin 16)) (w : Fin 192) (apart : old ≠ new) (s : State) :
    ((State.each cs (fun _ => moveSource old new) s).window w).count =
      (s.window w).count - (if old = some w then cs.length else 0) + (if new = some w then cs.length else 0) := by
  induction cs generalizing s with
  | nil => simp [State.each]
  | cons c cs ih =>
    rw [State.each_cons, ih, moveSource, activateAt_count, clearAt_count, List.length_cons]
    by_cases left : old = some w
    · have entered : new ≠ some w := fun eq => apart (left.trans eq.symm)
      simp only [if_pos left, if_neg entered]
      omega
    · simp only [if_neg left]
      split <;> omega

theorem moveSources_other {old new : Option (Fin 192)} {w : Fin 192} (notOld : old ≠ some w) (notNew : new ≠ some w) (cs : List (Fin 16))
    (s : State) : ((State.each cs (fun _ => moveSource old new) s).window w).state = (s.window w).state := by
  induction cs generalizing s with
  | nil => rfl
  | cons c cs ih => rw [State.each_cons, ih, moveSource, activateAt_other notNew, clearAt_other notOld]

/-! ### The record -/

/-- The state with the record installed and both ports judged at its marks. -/
def settingsJudged (v : Settings) (s : State) : State :=
  { s with settings := v, portA := s.portA.judge v.highA v.lowA, portB := s.portB.judge v.highB v.lowB }

theorem applySettings_eq (v : Settings) (s : State) : applySettings v s =
    if s.settings.systemWindow = v.systemWindow then settingsJudged v s
    else State.each (missingChannels s) (fun _ => moveSource s.settings.systemWindow v.systemWindow) (settingsJudged v s) := rfl

theorem missingChannels_length (canonical : s.canonical = true) : (missingChannels s).length =
    ((List.finRange 16).filter fun c => decide ((s.channel c).confirmation = .missing)).length := by
  refine congrArg List.length (Table.keys_filter_eq (canonical_channels canonical) fun c missing initial => ?_)
  rw [decide_eq_true_eq, State.channel, initial] at missing
  exact nomatch missing

theorem PortState.judge_eq (high low : Nat) (v : PortState) : v.judge high low =
    if v.pauseAsserted = false ∧ high ≤ v.buf.length then { v with pauseAsserted := true, control := some .pause }
    else if v.pauseAsserted = true ∧ v.buf.length ≤ low then { v with pauseAsserted := false, control := some .resume }
    else v := by
  unfold PortState.judge
  simp only [Bool.and_eq_true, Bool.not_eq_true', decide_eq_true_eq]
  rfl

theorem writeSettings_accepts {entry : List Byte} {v : Settings} (read : readSettings entry = some v)
    (known : s.mode ≠ .configuring → windowKnown s v.systemWindow = true) : writeSettings 0 entry s = accept (applySettings v s) := by
  unfold writeSettings
  rw [if_neg (not_not.mpr (readSettings_length (by rw [read]; nofun))), if_neg (not_not.mpr rfl), read]
  refine if_neg fun unknown => ?_
  rw [known unknown.1] at unknown
  exact nomatch unknown.2

/-- Settles O52. -/
theorem settingsAreWrittenAndCleared : Obligations.SettingsAreWrittenAndCleared := by
  intro src s ready canonical missing judged installed
  have judge (high low : Nat) (v : PortState) : judged high low v = v.judge high low := (v.judge_eq high low).symm
  have installs (v : Settings) : installed v (applySettings v s) := by
    have base : settingsJudged v s =
        { s with settings := v, portA := judged v.highA v.lowA s.portA, portB := judged v.highB v.lowB s.portB } := by
      rw [judge, judge]; rfl
    have counted : (missingChannels s).length = missing := missingChannels_length canonical
    rw [applySettings_eq]
    by_cases same : s.settings.systemWindow = v.systemWindow
    · rw [if_pos same]
      exact ⟨base, fun _ => rfl, fun moved => absurd same.symm moved⟩
    · rw [if_neg same]
      refine ⟨?_, fun still => ?_, fun _ w => ⟨fun left => ?_, fun entered => ?_, fun notOld notNew => ⟨?_, ?_⟩⟩⟩
      · have panel := each_panel (fun _ => moveSource_panel s.settings.systemWindow v.systemWindow) (missingChannels s) (settingsJudged v s)
        unfold State.onlyPanel at panel
        rw [base] at panel ⊢
        exact panel
      · have none : missingChannels s = [] := List.length_eq_zero_iff.mp (counted.trans (still.resolve_left fun eq => same eq.symm))
        rw [none]
        rfl
      · rw [moveSources_count _ _ _ w same, if_pos left, if_neg fun entered => same (left.trans entered.symm), counted]
        rfl
      · rw [moveSources_count _ _ _ w same, if_pos entered, if_neg fun left => same (left.trans entered.symm), counted]
        rfl
      · exact moveSources_other notOld notNew _ _
      · rw [moveSources_count _ _ _ w same, if_neg notOld, if_neg notNew]
        rfl
  refine ⟨fun entry v read known => ⟨_, ?_, installs v⟩, _, ?_, installs {}⟩
  · rw [exec_of_ready (c := .writeSettings src 0 entry) rfl ready]
    dsimp only
    rw [show writeSettings (0 : BitVec 16).toNat entry s = _ from writeSettings_accepts read known, entryReply_accept]
  · rw [exec_of_ready (c := .clearSettings src 0) rfl ready]
    dsimp only
    rw [show clearSettings (0 : BitVec 16).toNat s = accept (applySettings {} s) from rfl, entryReply_accept]

end Sys2Proof.Machine

/-! O53, the bytes: an entry with a field outside its rule's values is read as no definition (R18, R27, R59, R70, R71, R83, R95, R115, R126,
R129, R176). -/

namespace Sys2Proof.Machine

/-! ### Fields: what was read of a field says about its byte -/

theorem twoValued_some {α : Type} {x y z : α} {b : Byte} (h : twoValued x y b = some z) : b.toNat ≤ 1 := by
  unfold twoValued at h
  split at h
  · rename_i zero; rw [zero]; decide
  split at h
  · rename_i one; rw [one]; decide
  · cases h

theorem finOf_some {n k : Nat} {i : Fin n} (h : finOf n k = some i) : i.val = k := by
  unfold finOf at h
  split at h
  · cases h; rfl
  · cases h

theorem finOf_lt {n k : Nat} {i : Fin n} (h : finOf n k = some i) : k < n := finOf_some h ▸ i.isLt

theorem optionalFin_some {n : Nat} {b : Byte} {x : Option (Fin n)} (h : optionalFin n b = some x) : b = 0xFF ∨ b.toNat < n := by
  unfold optionalFin at h
  split at h
  · exact .inl ‹_›
  split at h
  · exact .inr (finOf_lt ‹_›)
  · cases h

theorem windowByteOut_of {b : Byte} {x : Option (Fin 192)} (h : optionalFin 192 b = some x) : windowByteOut b = false := by
  refine decide_eq_false fun out => ?_
  rcases optionalFin_some h with absent | inside
  · exact out.2 absent
  · exact absurd out.1 (Nat.not_le.mpr inside)

theorem addressByteOut_of {b : Byte} {x : Option Nat} (h : optionalAddress b = some x) : addressByteOut b = false := by
  refine decide_eq_false fun out => ?_
  unfold optionalAddress at h
  split at h
  · exact out.2 ‹_›
  split at h
  · rename_i found
    have inside := linkAddress_some found
    omega
  · cases h

theorem ranged_pair {low high n : Nat} {b c : Byte} (h : ranged low high (natOfBytes [b, c]) = some n) :
    n = wordOf b c ∧ low ≤ n ∧ n ≤ high := by
  rw [natOfBytes_pair] at h
  exact ranged_some h

theorem chatterLimitOf_byte {b : Byte} {k : Nat} (h : chatterLimitOf b = some k) : b.toNat ≤ 15 ∧ b.toNat ≠ 1 := by
  unfold chatterLimitOf at h
  split at h
  · assumption
  · cases h

theorem orAbsent_cases (b : Byte) : b = 0xFF ∨ orAbsent b = b := by
  unfold orAbsent
  split
  · exact .inl ‹_›
  · exact .inr rfl

/-! ### Definitions of fixed length -/

theorem settingsBytesOut_of {e : List Byte} {v : Settings} (h : readSettings e = some v) : settingsBytesOut e = false := by
  unfold readSettings at h
  split at h
  · simp only [Option.bind_eq_bind, Option.bind_eq_some_iff, Option.some.injEq] at h
    obtain ⟨g, hg, c, hc, ha, hha, la, hla, hb, hhb, lb, hlb, l, hl, b, hb', y, hy, w, hw, -⟩ := h
    have hg := linkAddress_some hg
    have hc := ranged_pair hc
    have hha := ranged_some hha
    have hla := ranged_some hla
    have hhb := ranged_some hhb
    have hlb := ranged_some hlb
    have hl := ranged_some hl
    have hb' := ranged_some hb'
    have hy := ranged_pair hy
    exact Bool.or_eq_false_iff.mpr ⟨decide_eq_false (by omega), windowByteOut_of hw⟩
  · cases h

theorem moduleBytesOut_of {e : List Byte} {v : Option ModuleDef} (h : readModule e = some v) : moduleBytesOut e = false := by
  unfold readModule at h
  split at h
  · split at h
    · rename_i zero
      rw [zero]; rfl
    split at h
    · rename_i one
      rw [one]
      simp only [Option.bind_eq_bind, Option.bind_eq_some_iff, Option.some.injEq] at h
      obtain ⟨a, ha, c, hc, n, hn, w, hw, -⟩ := h
      have ha := linkAddress_some ha
      have hc := ranged_some hc
      have hn := ranged_pair hn
      exact Bool.or_eq_false_iff.mpr ⟨decide_eq_false (by omega), windowByteOut_of hw⟩
    · cases h
  · cases h

/-- With defined yes every field is in its range, and with defined no it may be absent too (log entry 10). -/
theorem pointBytesOut_of {e : List Byte} {v : Option PointDef} (h : readPoint e = some v) : pointBytesOut e = false := by
  unfold readPoint at h
  split at h
  · rename_i df pol kind w limit inh cls
    have fields {a b c d e : Byte} {x : PointDef} (h : readPointFields a b w c d e = some x) :
        a.toNat ≤ 1 ∧ b.toNat ≤ 1 ∧ windowByteOut w = false ∧ (c.toNat ≤ 15 ∧ c.toNat ≠ 1) ∧ d.toNat ≤ 1 ∧ e.toNat ≤ 1 := by
      simp only [readPointFields, Option.bind_eq_bind, Option.bind_eq_some_iff, Option.some.injEq] at h
      obtain ⟨_, ha, _, hb, _, hw, _, hl, _, hd, _, he, -⟩ := h
      exact ⟨twoValued_some ha, twoValued_some hb, windowByteOut_of hw, chatterLimitOf_byte hl, twoValued_some hd, twoValued_some he⟩
    unfold pointBytesOut
    simp only [Bool.or_eq_false_iff, Bool.and_eq_false_iff, Bool.not_eq_false', decide_eq_true_eq, decide_eq_false_iff_not]
    split at h
    · rename_i zero
      subst zero
      simp only [Option.bind_eq_bind, Option.bind_eq_some_iff] at h
      obtain ⟨x, hx, -⟩ := h
      obtain ⟨h1, h2, hw, h3, h4, h5⟩ := fields hx
      have two {b : Byte} (h : (orAbsent b).toNat ≤ 1) : ¬ 1 < b.toNat ∨ (0 : Byte).toNat = 0 ∧ b = 0xFF := by
        rcases orAbsent_cases b with absent | present
        · exact .inr ⟨rfl, absent⟩
        · rw [present] at h; exact .inl (by omega)
      refine ⟨⟨⟨⟨⟨⟨by decide, hw⟩, two h1⟩, two h2⟩, ?_⟩, two h4⟩, two h5⟩
      rcases orAbsent_cases limit with absent | present
      · exact .inr ⟨rfl, absent⟩
      · rw [present] at h3; exact .inl (by omega)
    split at h
    · rename_i one
      subst one
      simp only [Option.bind_eq_bind, Option.bind_eq_some_iff] at h
      obtain ⟨x, hx, -⟩ := h
      obtain ⟨h1, h2, hw, h3, h4, h5⟩ := fields hx
      exact ⟨⟨⟨⟨⟨⟨by decide, hw⟩, .inl (by omega)⟩, .inl (by omega)⟩, .inl (by omega)⟩, .inl (by omega)⟩, .inl (by omega)⟩
    · cases h
  · cases h

theorem windowBytesOut_of {e : List Byte} {v : Option WindowDef} (h : readWindow e = some v) : windowBytesOut e = false := by
  unfold readWindow at h
  split at h
  · split at h
    · rename_i zero
      rw [zero]; rfl
    split at h
    · rename_i one
      rw [one]
      simp only [Option.bind_eq_bind, Option.bind_eq_some_iff, Option.some.injEq] at h
      obtain ⟨g, hg, _, ht, _, he, -⟩ := h
      have hg := finOf_lt hg
      have ht := twoValued_some ht
      have he := twoValued_some he
      exact decide_eq_false (by rintro (first | ⟨-, rest⟩); exacts [absurd first (by decide), by omega])
    · cases h
  · cases h

theorem driverBytesOut_of {e : List Byte} {v : Option Nat} (h : readDriver e = some v) : driverBytesOut e = false := by
  unfold readDriver at h
  split at h
  · exact addressByteOut_of h
  · cases h

theorem groupBytesOut_of {e : List Byte} {v : Option GroupDef} (h : readGroup e = some v) : groupBytesOut e = false := by
  unfold readGroup at h
  split at h
  · split at h
    · rename_i zero
      rw [zero]; rfl
    split at h
    · rename_i one
      rw [one]
      simp only [Option.bind_eq_bind, Option.bind_eq_some_iff, Option.some.injEq] at h
      obtain ⟨_, hh, _, hf, _, hs, -⟩ := h
      have hf := twoValued_some hf
      have hs := ranged_some hs
      refine decide_eq_false ?_
      rintro (first | ⟨-, ⟨above, present⟩ | other⟩)
      · exact absurd first (by decide)
      · rcases optionalFin_some hh with absent | inside
        · exact present absent
        · omega
      · omega
    · cases h
  · cases h

theorem hornBytesOut_of {e : List Byte} {v : Sound} (h : readHorn e = some v) : hornBytesOut e = false := by
  unfold readHorn at h
  split at h
  · exact decide_eq_false (Nat.not_lt.mpr (twoValued_some h))
  · cases h

theorem patternBytesOut_of {e : List Byte} {v : PatternEntry} (h : readPattern e = some v) : patternBytesOut e = false := by
  unfold readPattern at h
  split at h
  · simp only [Option.bind_eq_bind, Option.bind_eq_some_iff, Option.some.injEq] at h
    obtain ⟨_, hp, _, ho, -⟩ := h
    have hp := ranged_some hp
    have ho := ranged_some ho
    exact decide_eq_false (by omega)
  · cases h

theorem outputBytesOut_of {e : List Byte} {v : Option Nat × Nat} (h : readOutput e = some v) : outputBytesOut e = false := by
  unfold readOutput at h
  split at h
  · simp only [Option.bind_eq_bind, Option.bind_eq_some_iff, Option.some.injEq] at h
    obtain ⟨_, ha, _, ht, -⟩ := h
    have ht := ranged_some ht
    exact Bool.or_eq_false_iff.mpr ⟨addressByteOut_of ha, decide_eq_false (by omega)⟩
  · cases h

theorem channelBytesOut_of {e : List Byte} {v : Option ChannelDef} (h : readChannel e = some v) : channelBytesOut e = false := by
  unfold readChannel at h
  split at h
  · split at h
    · rename_i zero
      rw [zero]; rfl
    split at h
    · rename_i one
      rw [one]
      simp only [Option.bind_eq_bind, Option.bind_eq_some_iff, Option.some.injEq] at h
      obtain ⟨_, hm, _, ho, _, hl, _, hw, -⟩ := h
      have hm := finOf_lt hm
      have ho := finOf_lt ho
      have hl := twoValued_some hl
      exact Bool.or_eq_false_iff.mpr ⟨decide_eq_false (by omega), windowByteOut_of hw⟩
    · cases h
  · cases h

/-! ### Elements -/

/-- Each input is read from its own four bytes. -/
theorem readInputs_get {bytes : List Byte} {is : List ElementInput} (h : readInputs bytes = some is) {i : Nat} {x : ElementInput}
    (at_i : is[i]? = some x) : readInput (bytes.getD (4 * i) 0) (bytes.getD (4 * i + 1) 0) (bytes.getD (4 * i + 2) 0)
      (bytes.getD (4 * i + 3) 0) = some x := by
  induction is generalizing bytes i with
  | nil => cases at_i
  | cons y is ih =>
    unfold readInputs at h
    split at h
    · simp only [Option.bind_eq_bind, Option.bind_eq_some_iff, Option.some.injEq] at h
      obtain ⟨z, hz, zs, hzs, same⟩ := h
      cases same
      cases i with
      | zero => cases at_i; exact hz
      | succ i => exact ih hzs at_i
    · cases h
    · cases h

theorem readTargets_get {bytes : List Byte} {cs : List (Fin 16)} (h : readTargets bytes = some cs) {i : Nat} {c : Fin 16}
    (at_i : cs[i]? = some c) : c.val = (bytes.getD i 0).toNat := by
  induction bytes generalizing cs i with
  | nil => cases h; cases at_i
  | cons b bytes ih =>
    simp only [readTargets, Option.bind_eq_bind, Option.bind_eq_some_iff, Option.some.injEq] at h
    obtain ⟨_, hb, ds, hds, rfl⟩ := h
    cases i with
    | zero => cases at_i; exact finOf_some hb
    | succ i => exact ih hds at_i

/-- What one input's four bytes say (R100). -/
theorem readInput_some {p1 p0 w se : Byte} {x : ElementInput} (h : readInput p1 p0 w se = some x) :
    x.point.val = wordOf p1 p0 ∧ 1 ≤ w.toNat ∧ w.toNat ≤ 15 ∧ se.toNat ≤ 1 ∧ twoValued Sense.onAlarm .onNormal se = some x.sense := by
  simp only [readInput, Option.bind_eq_bind, Option.bind_eq_some_iff, Option.some.injEq] at h
  obtain ⟨_, hp, _, hw, _, hs, rfl⟩ := h
  rw [natOfBytes_pair] at hp
  have hw := ranged_some hw
  exact ⟨finOf_some hp, by omega, by omega, twoValued_some hs, hs⟩

/-- No two places of a list without repetition hold the same. -/
theorem get_ne_of_nodup {α : Type} {xs : List α} (distinct : xs.Nodup) {i j : Nat} (before : j < i) {x : α} (at_i : xs[i]? = some x) :
    xs[j]? ≠ some x := by
  intro at_j
  have inside : i < xs.length := (List.getElem?_eq_some_iff.mp at_i).1
  exact absurd ((List.getElem?_inj (by omega) distinct).mp (at_j.trans at_i.symm)) (by omega)

theorem readDelayMode_three {b : Byte} {m : DelayMode} (h : readDelayMode b = some m) : b.toNat ≤ 3 ∧ (b.toNat = 3 → m = .pulse) := by
  unfold readDelayMode at h
  split at h
  · rename_i eq; rw [eq]; exact ⟨by decide, nofun⟩
  split at h
  · rename_i eq; rw [eq]; exact ⟨by decide, nofun⟩
  split at h
  · rename_i eq; rw [eq]; exact ⟨by decide, nofun⟩
  split at h
  · rename_i eq; rw [eq]; cases h; exact ⟨by decide, fun _ => rfl⟩
  · cases h

theorem readPolicy_two {b : Byte} {x : Policy} (h : readPolicy b = some x) : b.toNat ≤ 2 := by
  unfold readPolicy at h
  split at h
  · rename_i eq; rw [eq]; decide
  split at h
  · rename_i eq; rw [eq]; decide
  split at h
  · rename_i eq; rw [eq]; decide
  · cases h

/-- What the six bytes after the inputs say (R115 step 6). -/
theorem readElementFields_bytes {inputs : List ElementInput} {targets : List (Fin 16)} {pk dr po mo d1 d0 : Byte} {d : ElementDef}
    (h : readElementFields inputs targets [pk, dr, po, mo, d1, d0] = some d) :
    1 ≤ pk.toNat ∧ pk.toNat ≤ 120 ∧ dr.toNat < pk.toNat ∧ po.toNat ≤ 2 ∧ mo.toNat ≤ 3 ∧ (mo.toNat = 3 → wordOf d1 d0 ≠ 0) := by
  simp only [readElementFields, Option.bind_eq_bind, Option.bind_eq_some_iff] at h
  obtain ⟨pickup, hp, dropout, hd, policy, ho, mode, hm, delay, hn, -⟩ := h
  have hp := ranged_some hp
  have hd := ranged_some hd
  have hm := readDelayMode_three hm
  have hn := ranged_pair hn
  refine ⟨by omega, by omega, by omega, readPolicy_two ho, hm.1, fun three zero => ?_⟩
  have least := hn.2.1
  rw [if_pos (hm.2 three), hn.1, zero] at least
  exact absurd least (by decide)

theorem six_bytes {xs : List Byte} (h : 6 ≤ xs.length) :
    xs.take 6 = [xs.getD 0 0, xs.getD 1 0, xs.getD 2 0, xs.getD 3 0, xs.getD 4 0, xs.getD 5 0] := by
  match xs, h with
  | _ :: _ :: _ :: _ :: _ :: _ :: _, _ => rfl

theorem drop_getD (xs : List Byte) (n j : Nat) : (xs.drop n).getD j 0 = xs.getD (n + j) 0 := by
  rw [List.getD_eq_getElem?_getD, List.getElem?_drop, List.getD_eq_getElem?_getD]

theorem take_getD (xs : List Byte) {n j : Nat} (h : j < n) : (xs.take n).getD j 0 = xs.getD j 0 := by
  rw [List.getD_eq_getElem?_getD, List.getElem?_take_of_lt h, List.getD_eq_getElem?_getD]

/-- The values of an entry whose length agrees with its counts (R115 step 6). -/
theorem elementBytesOut_of {k : Nat} {body : List Byte} {d : ElementDef} (whole : body.length = 4 * k + 7 + (body.getD (4 * k + 6) 0).toNat)
    (h : readElementValues k body = .define d) : elementBytesOut k body = false := by
  obtain ⟨inputs, targets, hi, ht, hf⟩ := readElementValues_define h
  have inputCount := (readInputs_some hi).1
  have targetCount := readTargets_some ht
  obtain ⟨-, -, distinctTargets, distinctInputs, -⟩ := readElementFields_some hf
  rw [List.length_take] at inputCount
  rw [List.length_drop] at targetCount
  rw [six_bytes (by rw [List.length_drop]; omega)] at hf
  simp only [drop_getD, Nat.add_zero] at hf
  have fields := readElementFields_bytes hf
  have input {i : Nat} (inside : i < k) : ∃ x, inputs[i]? = some x ∧ readInput (body.getD (4 * i) 0) (body.getD (4 * i + 1) 0)
      (body.getD (4 * i + 2) 0) (body.getD (4 * i + 3) 0) = some x := by
    have at_i : inputs[i]? = some (inputs[i]'(by omega)) := List.getElem?_eq_getElem (by omega)
    have read := readInputs_get hi at_i
    rw [take_getD body (by omega), take_getD body (by omega), take_getD body (by omega), take_getD body (by omega)] at read
    exact ⟨_, at_i, read⟩
  have target {i : Nat} (inside : i < (body.getD (4 * k + 6) 0).toNat) :
      ∃ c, targets[i]? = some c ∧ c.val = (body.getD (4 * k + 7 + i) 0).toNat := by
    have at_i : targets[i]? = some (targets[i]'(by omega)) := List.getElem?_eq_getElem (by omega)
    have read := readTargets_get ht at_i
    rw [drop_getD] at read
    exact ⟨_, at_i, read⟩
  unfold elementBytesOut
  dsimp only
  rw [Bool.or_eq_false_iff, Bool.or_eq_false_iff, List.any_eq_false, List.any_eq_false]
  refine ⟨⟨decide_eq_false ?_, fun i mem => ?_⟩, fun i mem => ?_⟩
  · omega
  · obtain ⟨x, at_i, read⟩ := input (List.mem_range.mp mem)
    obtain ⟨point, w1, w2, sense, twoSense⟩ := readInput_some read
    have bound := x.point.isLt
    rw [decide_eq_true_eq]
    rintro (out | out | out | out | ⟨j, before, samePoint, sameSense⟩)
    iterate 4 omega
    obtain ⟨y, at_j, readOther⟩ := input (Nat.lt_trans before (List.mem_range.mp mem))
    obtain ⟨otherPoint, -, -, -, otherSense⟩ := readInput_some readOther
    rw [sameSense, twoSense] at otherSense
    have same : (y.point, y.sense) = (x.point, x.sense) :=
      Prod.ext (Fin.ext (by rw [otherPoint, point, samePoint])) (Option.some.inj otherSense).symm
    refine get_ne_of_nodup distinctInputs before (x := (x.point, x.sense)) ?_ ?_
    · rw [List.getElem?_map, at_i]; rfl
    · rw [List.getElem?_map, at_j, ← same]; rfl
  · obtain ⟨c, at_i, value⟩ := target (List.mem_range.mp mem)
    have bound := c.isLt
    rw [decide_eq_true_eq]
    rintro (out | ⟨j, before, same⟩)
    · omega
    obtain ⟨b, at_j, otherValue⟩ := target (Nat.lt_trans before (List.mem_range.mp mem))
    have both : b = c := Fin.ext (by rw [otherValue, value, same])
    exact get_ne_of_nodup distinctTargets before at_i (both ▸ at_j)

end Sys2Proof.Machine

/-! O53: the checks of the entry commands, in their order (R174 and each table's rule). -/

namespace Sys2Proof.Machine

variable {s : State} {k : Nat} {e : List Byte}

/-- An entry command that is refused answers with the status (R172, R174). -/
theorem exec_refused_entry {c : Instr} {src code : Byte} {t : TableId} {index : BitVec 16} {act : State → Answer}
    (named : command c = some { src := src, code := code, act := fun s => entryReply t index (act s) }) (ready : s.ready src) {st : Status}
    (no : st ≠ .ok) (refused : act s = refuse st s) : exec c s = .next (s.refused src code st) :=
  exec_refused named ready ((congrArg _ refused).trans (entryReply_refuse t index no s))

/-! ### Length -/

theorem writeSettings_length (h : e.length ≠ 12) : writeSettings k e s = refuse .length s := if_pos h
theorem writeModule_length (h : e.length ≠ 6) : writeModule k e s = refuse .length s := if_pos h
theorem writePoint_length (h : e.length ≠ 7) : writePoint k e s = refuse .length s := if_pos h
theorem writeWindow_length (h : e.length ≠ 4) : writeWindow k e s = refuse .length s := if_pos h
theorem writeGroup_length (h : e.length ≠ 4) : writeGroup k e s = refuse .length s := if_pos h
theorem writeDriver_length (h : e.length ≠ 1) : writeDriver k e s = refuse .length s := if_pos h
theorem writeHorn_length (h : e.length ≠ 1) : writeHorn k e s = refuse .length s := if_pos h
theorem writePattern_length (h : e.length ≠ 2) : writePattern k e s = refuse .length s := if_pos h
theorem writeOutput_length (h : e.length ≠ 2) : writeOutput k e s = refuse .length s := if_pos h
theorem writeChannel_length (h : e.length ≠ 5) : writeChannel k e s = refuse .length s := if_pos h
theorem writeElement_length (h : e = []) : writeElement k e s = refuse .length s := by subst h; rfl

/-! ### Mode and latch -/

section
variable (service : s.mode ≠ .configuring)
include service

theorem writeModule_mode (h : e.length = 6) : writeModule k e s = refuse .wrongMode s :=
  (if_neg (not_not.mpr h)).trans (if_pos service)

theorem clearModule_mode : clearModule k s = refuse .wrongMode s := if_pos service

end

section
variable (frozen : s.frozen = true)
include frozen

theorem writeElement_frozen (h : e ≠ []) : writeElement k e s = refuse .frozen s :=
  (if_neg (by have := List.length_pos_iff.mpr h; omega)).trans (if_pos frozen)

theorem writeOutput_frozen (h : e.length = 2) : writeOutput k e s = refuse .frozen s := (if_neg (not_not.mpr h)).trans (if_pos frozen)
theorem writeChannel_frozen (h : e.length = 5) : writeChannel k e s = refuse .frozen s := (if_neg (not_not.mpr h)).trans (if_pos frozen)
theorem clearElement_frozen : clearElement k s = refuse .frozen s := if_pos frozen
theorem clearOutput_frozen : clearOutput k s = refuse .frozen s := if_pos frozen
theorem clearChannel_frozen : clearChannel k s = refuse .frozen s := if_pos frozen

end

/-! ### Index and fields -/

/-- A read that finds nothing, from what it would say of the bytes if it found something. -/
theorem read_none {α : Type} {x : Option α} {out : Bool} (inside : ∀ v, x = some v → out = false) (h : out = true) : x = none :=
  Option.eq_none_iff_forall_ne_some.mpr fun v found => by rw [inside v found] at h; cases h

theorem writeSettings_range (length : e.length = 12) (out : k ≠ 0 ∨ settingsBytesOut e = true) : writeSettings k e s = refuse .range s := by
  unfold writeSettings
  rw [if_neg (not_not.mpr length)]
  by_cases above : k ≠ 0
  · exact if_pos above
  · rw [if_neg above, read_none (fun _ => settingsBytesOut_of) (out.resolve_left above)]

theorem writeModule_range (length : e.length = 6) (configuring : s.mode = .configuring) (out : 16 ≤ k ∨ moduleBytesOut e = true) :
    writeModule k e s = refuse .range s := by
  unfold writeModule
  rw [if_neg (not_not.mpr length), if_neg (not_not.mpr configuring)]
  rcases out with above | out
  · rw [finOf_above above]
  · rw [read_none (fun _ => moduleBytesOut_of) out]; cases finOf 16 k <;> rfl

theorem writePoint_range (length : e.length = 7) (out : 1024 ≤ k ∨ pointBytesOut e = true) : writePoint k e s = refuse .range s := by
  unfold writePoint
  rw [if_neg (not_not.mpr length)]
  rcases out with above | out
  · rw [finOf_above above]
  · rw [read_none (fun _ => pointBytesOut_of) out]; cases finOf 1024 k <;> rfl

theorem writeWindow_range (length : e.length = 4) (out : 192 ≤ k ∨ windowBytesOut e = true) : writeWindow k e s = refuse .range s := by
  unfold writeWindow
  rw [if_neg (not_not.mpr length)]
  rcases out with above | out
  · rw [finOf_above above]
  · rw [read_none (fun _ => windowBytesOut_of) out]; cases finOf 192 k <;> rfl

theorem writeGroup_range (length : e.length = 4) (out : 32 ≤ k ∨ groupBytesOut e = true) : writeGroup k e s = refuse .range s := by
  unfold writeGroup
  rw [if_neg (not_not.mpr length)]
  rcases out with above | out
  · rw [finOf_above above]
  · rw [read_none (fun _ => groupBytesOut_of) out]; cases finOf 32 k <;> rfl

theorem writeDriver_range (length : e.length = 1) (out : 6 ≤ k ∨ driverBytesOut e = true) : writeDriver k e s = refuse .range s := by
  unfold writeDriver
  rw [if_neg (not_not.mpr length)]
  rcases out with above | out
  · rw [finOf_above above]
  · rw [read_none (fun _ => driverBytesOut_of) out]; cases finOf 6 k <;> rfl

theorem writeHorn_range (length : e.length = 1) (out : 4 ≤ k ∨ hornBytesOut e = true) : writeHorn k e s = refuse .range s := by
  unfold writeHorn
  rw [if_neg (not_not.mpr length)]
  rcases out with above | out
  · rw [finOf_above above]
  · rw [read_none (fun _ => hornBytesOut_of) out]; cases finOf 4 k <;> rfl

theorem writePattern_range (length : e.length = 2) (out : 4 ≤ k ∨ patternBytesOut e = true) : writePattern k e s = refuse .range s := by
  unfold writePattern
  rw [if_neg (not_not.mpr length)]
  rcases out with above | out
  · rw [finOf_above above]
  · rw [read_none (fun _ => patternBytesOut_of) out]; cases finOf 4 k <;> rfl

section
variable (thawed : s.frozen = false)
include thawed

theorem thawed_checks : ¬ s.frozen = true := by rw [thawed]; exact Bool.false_ne_true

theorem writeOutput_range (length : e.length = 2) (out : 8 ≤ k ∨ outputBytesOut e = true) : writeOutput k e s = refuse .range s := by
  unfold writeOutput
  rw [if_neg (not_not.mpr length), if_neg (thawed_checks thawed)]
  rcases out with above | out
  · rw [finOf_above above]
  · rw [read_none (fun _ => outputBytesOut_of) out]; cases finOf 8 k <;> rfl

theorem writeChannel_range (length : e.length = 5) (out : 16 ≤ k ∨ channelBytesOut e = true) : writeChannel k e s = refuse .range s := by
  unfold writeChannel
  rw [if_neg (not_not.mpr length), if_neg (thawed_checks thawed)]
  rcases out with above | out
  · rw [finOf_above above]
  · rw [read_none (fun _ => channelBytesOut_of) out]; cases finOf 16 k <;> rfl

theorem writeElement_above (some : e ≠ []) (above : 64 ≤ k) : writeElement k e s = refuse .range s := by
  unfold writeElement
  rw [if_neg (by have := List.length_pos_iff.mpr some; omega), if_neg (thawed_checks thawed), finOf_above above]

/-- What R115 finds in the entry bytes of an element in range is the answer. -/
theorem writeElement_refused {st : Status} (some : e ≠ []) (inside : k < 64) (refused : readElement e = .refused st) :
    writeElement k e s = refuse st s := by
  unfold writeElement
  rw [if_neg (by have := List.length_pos_iff.mpr some; omega), if_neg (thawed_checks thawed), finOf_of (i := ⟨k, inside⟩) rfl, refused]

theorem clearElement_above (above : 64 ≤ k) : clearElement k s = refuse .range s := by
  unfold clearElement; rw [if_neg (thawed_checks thawed), finOf_above above]

theorem clearOutput_above (above : 8 ≤ k) : clearOutput k s = refuse .range s := by
  unfold clearOutput; rw [if_neg (thawed_checks thawed), finOf_above above]

theorem clearChannel_above (above : 16 ≤ k) : clearChannel k s = refuse .range s := by
  unfold clearChannel; rw [if_neg (thawed_checks thawed), finOf_above above]

end

theorem clearSettings_above (above : k ≠ 0) : clearSettings k s = refuse .range s := if_pos above

theorem clearModule_above (configuring : s.mode = .configuring) (above : 16 ≤ k) : clearModule k s = refuse .range s := by
  unfold clearModule; rw [if_neg (not_not.mpr configuring), finOf_above above]

theorem clearPoint_above (above : 1024 ≤ k) : clearPoint k s = refuse .range s := by unfold clearPoint; rw [finOf_above above]
theorem clearWindow_above (above : 192 ≤ k) : clearWindow k s = refuse .range s := by unfold clearWindow; rw [finOf_above above]
theorem clearDriver_above (above : 6 ≤ k) : clearDriver k s = refuse .range s := by unfold clearDriver; rw [finOf_above above]
theorem clearGroup_above (above : 32 ≤ k) : clearGroup k s = refuse .range s := by unfold clearGroup; rw [finOf_above above]
theorem clearHorn_above (above : 4 ≤ k) : clearHorn k s = refuse .range s := by unfold clearHorn; rw [finOf_above above]
theorem clearPattern_above (above : 4 ≤ k) : clearPattern k s = refuse .range s := by unfold clearPattern; rw [finOf_above above]

/-! ### The entry bytes of an element (R115) -/

theorem readElement_defined {df : Byte} (h : 1 < df.toNat) (body : List Byte) : readElement (df :: body) = .refused .range := by
  unfold readElement
  dsimp only
  rw [if_neg (by rintro rfl; simp at h), if_neg (by rintro rfl; simp at h)]

theorem readElementBody_inputs {count : Byte} {body : List Byte} (h : count.toNat < 1 ∨ 8 < count.toNat) :
    readElementBody count body = .refused .range := if_pos h

section
variable {count : Byte} {body : List Byte} (least : 1 ≤ count.toNat) (most : count.toNat ≤ 8)
include least most

theorem readElementBody_short (h : body.length ≤ 4 * count.toNat + 6) : readElementBody count body = .refused .length := by
  unfold readElementBody
  dsimp only
  rw [if_neg (by omega), List.getElem?_eq_none h]

/-- The checks after the target count is found. -/
theorem readElementBody_long (h : 4 * count.toNat + 6 < body.length) : readElementBody count body =
    if (body.getD (4 * count.toNat + 6) 0).toNat < 1 ∨ 4 < (body.getD (4 * count.toNat + 6) 0).toNat then .refused .range
    else if body.length ≠ 4 * count.toNat + 7 + (body.getD (4 * count.toNat + 6) 0).toNat then .refused .length
    else readElementValues count.toNat body := by
  unfold readElementBody
  dsimp only
  rw [if_neg (by omega), List.getD_eq_getElem?_getD, List.getElem?_eq_getElem h]
  rfl

end

theorem readElementValues_out {n : Nat} {body : List Byte} (whole : body.length = 4 * n + 7 + (body.getD (4 * n + 6) 0).toNat)
    (out : elementBytesOut n body = true) : readElementValues n body = .refused .range := by
  have none : ∀ d, readElementValues n body ≠ .define d := fun d found => by rw [elementBytesOut_of whole found] at out; cases out
  unfold readElementValues at none ⊢
  dsimp only at none ⊢
  split
  · rename_i found
    rw [found] at none
    exact absurd rfl (none _)
  · rfl

/-! ### Output modules (R126) -/

section Outputs

variable {m : Fin 8} (thawed : s.frozen = false) (named : k = m.val)
include thawed named

theorem clearOutput_at : clearOutput k s = changeOutput m none ({} : OutputModule).timeout s := by
  unfold clearOutput
  rw [if_neg (thawed_checks thawed), finOf_of named]

theorem writeOutput_at {address : Option Nat} {timeout : Nat} (read : readOutput e = some (address, timeout)) :
    writeOutput k e s = if outputAddressTaken s m address then refuse .range s else changeOutput m address timeout s := by
  unfold writeOutput
  rw [if_neg (not_not.mpr (readOutput_length (by rw [read]; nofun))), if_neg (thawed_checks thawed), finOf_of named, read]

end Outputs

theorem hostsAsserted_of {m : Fin 8} {c : Fin 16} (hosts : (hostedBy s m).contains c = true) (asserted : (s.channel c).state.asserted = true) :
    hostsAsserted s m = true := List.any_eq_true.mpr ⟨c, List.contains_iff_mem.mp hosts, asserted⟩

theorem changeOutput_asserted {m : Fin 8} (asserted : hostsAsserted s m = true) (address : Option Nat) (timeout : Nat) :
    changeOutput m address timeout s = refuse .stillActive s := if_pos asserted

theorem changeOutput_used {m : Fin 8} {c : Fin 16} (hosts : (hostedBy s m).contains c = true) (rest : hostsAsserted s m = false)
    (service : s.mode ≠ .configuring) (timeout : Nat) : changeOutput m none timeout s = refuse .inUse s := by
  unfold changeOutput
  rw [rest, if_neg Bool.false_ne_true, if_pos ⟨service, rfl, List.ne_nil_of_mem (List.contains_iff_mem.mp hosts)⟩]

theorem outputAddressTaken_none (m : Fin 8) : outputAddressTaken s m none = false := rfl

theorem outputAddressTaken_of {m j : Fin 8} {a : Nat} (other : j ≠ m) (holds : (s.outputModule j).address = some a) :
    outputAddressTaken s m (some a) = true := by
  refine Bool.and_eq_true_iff.mpr ⟨rfl, List.any_eq_true.mpr ⟨j, List.mem_finRange j, ?_⟩⟩
  rw [decide_eq_true other, decide_eq_true holds]
  rfl

/-! ### Windows named (R18) -/

theorem windowKnown_none {w : Fin 192} (h : (s.window w).defn = none) : windowKnown s (some w) = false := by
  change (s.window w).defn.isSome = false
  rw [h]; rfl

theorem windowKnown_some {w : Fin 192} (h : (s.window w).defn ≠ none) : windowKnown s (some w) = true := Option.isSome_iff_ne_none.mpr h

theorem windowFull_of {already : Fin 192 → Bool} {w : Fin 192} (new : already w = false) (full : 32 ≤ ordinarySources s w) :
    windowFull s already (some w) = true := by
  change (decide (32 ≤ ordinarySources s w) && !already w) = true
  rw [new, decide_eq_true full]
  rfl

theorem pointNames_iff (w : Fin 192) (p : Fin 1024) : pointNames s w p = true ↔ ∃ d, (s.point p).defn = some d ∧ d.window = some w := by
  unfold pointNames
  cases (s.point p).defn <;> simp

theorem moduleNames_iff (w : Fin 192) (m : Fin 16) : moduleNames s w m = true ↔ ∃ d, (s.inputModule m).defn = some d ∧ d.window = some w := by
  unfold moduleNames
  cases (s.inputModule m).defn <;> simp

theorem channelNames_iff (w : Fin 192) (c : Fin 16) : channelNames s w c = true ↔ ∃ d, (s.channel c).defn = some d ∧ d.window = some w := by
  unfold channelNames
  cases (s.channel c).defn <;> simp

/-! ### Channels (R129) -/

section Channels

variable {c : Fin 16} (thawed : s.frozen = false) (named : k = c.val)
include thawed named

theorem clearChannel_at : clearChannel k s = if (s.channel c).state.asserted then refuse .stillActive s else clearChannelAt c s := by
  unfold clearChannel
  rw [if_neg (thawed_checks thawed), finOf_of named]

theorem writeChannel_asserted {found : Option ChannelDef} (read : readChannel e = some found) (asserted : (s.channel c).state.asserted = true) :
    writeChannel k e s = refuse .stillActive s := by
  unfold writeChannel
  rw [if_neg (not_not.mpr (readChannel_length (by rw [read]; nofun))), if_neg (thawed_checks thawed), finOf_of named, read]
  exact if_pos asserted

section
variable (rest : (s.channel c).state.asserted = false)
include rest

theorem writeChannel_no (read : readChannel e = some none) : writeChannel k e s = clearChannelAt c s := by
  unfold writeChannel
  rw [if_neg (not_not.mpr (readChannel_length (by rw [read]; nofun))), if_neg (thawed_checks thawed), finOf_of named, read]
  dsimp only
  rw [rest]
  exact if_neg Bool.false_ne_true

theorem writeChannel_yes {d : ChannelDef} (read : readChannel e = some (some d)) : writeChannel k e s = defineChannel c d s := by
  unfold writeChannel
  rw [if_neg (not_not.mpr (readChannel_length (by rw [read]; nofun))), if_neg (thawed_checks thawed), finOf_of named, read]
  dsimp only
  rw [rest]
  exact if_neg Bool.false_ne_true

end

end Channels

theorem clearChannelAt_used {c : Fin 16} {el : Fin 64} (targets : elementTargets s c el = true) : clearChannelAt c s = refuse .inUse s :=
  if_pos (List.any_eq_true.mpr ⟨el, List.mem_finRange el, targets⟩)

theorem outputTaken_of {c j : Fin 16} {d x : ChannelDef} (other : j ≠ c) (defined : (s.channel j).defn = some x)
    (sameModule : x.outputModule = d.outputModule) (sameOutput : x.output = d.output) : outputTaken s c d = true := by
  refine List.any_eq_true.mpr ⟨j, (mem_definedChannels s j).mpr (by rw [defined]; rfl), ?_⟩
  rw [decide_eq_true other, defined]
  exact decide_eq_true ⟨sameModule, sameOutput⟩

theorem defineChannel_taken {c : Fin 16} {d : ChannelDef} (taken : outputTaken s c d = true) : defineChannel c d s = refuse .range s := if_pos taken

theorem defineChannel_unknown {c : Fin 16} {d : ChannelDef} (service : s.mode ≠ .configuring)
    (unknown : (s.outputModule d.outputModule).address = none ∨ windowKnown s d.window = false) : defineChannel c d s = refuse .range s := by
  unfold defineChannel
  split
  · rfl
  · exact if_pos ⟨service, unknown⟩

theorem defineChannel_full {c : Fin 16} {d : ChannelDef} {w : Fin 192} (free : outputTaken s c d = false)
    (known : s.mode = .configuring ∨ ((s.outputModule d.outputModule).address ≠ none ∧ (s.window w).defn ≠ none)) (names : d.window = some w)
    (new : channelNames s w c = false) (full : 32 ≤ ordinarySources s w) : defineChannel c d s = refuse .full s := by
  unfold defineChannel
  rw [free, if_neg Bool.false_ne_true, if_neg, names]
  · exact if_pos (windowFull_of new full)
  · rintro ⟨service, unknown⟩
    obtain ⟨addressed, defined⟩ := known.resolve_left service
    rw [names, windowKnown_some defined] at unknown
    exact unknown.elim addressed nofun

/-! ### Elements named (R115 step 7) -/

theorem writeElement_unknown {el : Fin 64} {d : ElementDef} (thawed : s.frozen = false) (named : k = el.val) (read : readElement e = .define d)
    (service : s.mode ≠ .configuring) (unknown : (∃ i ∈ d.inputs, (s.point i.point).defn = none) ∨ ∃ c ∈ d.targets, (s.channel c).defn = none) :
    writeElement k e s = refuse .range s := by
  have listed : elementKnown s d = false := by
    refine Bool.and_eq_false_iff.mpr ?_
    rcases unknown with ⟨i, mem, none⟩ | ⟨c, mem, none⟩
    · exact .inl (List.all_eq_false.mpr ⟨i, mem, by rw [none]; nofun⟩)
    · exact .inr (List.all_eq_false.mpr ⟨c, mem, by rw [none]; nofun⟩)
  have some : e ≠ [] := by rintro rfl; cases read
  unfold writeElement
  rw [if_neg (by have := List.length_pos_iff.mpr some; omega), if_neg (thawed_checks thawed), finOf_of named, read]
  exact if_pos ⟨service, listed⟩

/-! ### Settings, modules, points, windows, groups and drivers -/

theorem writeSettings_unknown {v : Settings} {w : Fin 192} (read : readSettings e = some v) (names : v.systemWindow = some w)
    (service : s.mode ≠ .configuring) (undefined : (s.window w).defn = none) : writeSettings k e s = refuse .range s := by
  unfold writeSettings
  rw [if_neg (not_not.mpr (readSettings_length (by rw [read]; nofun)))]
  split
  · rfl
  · rw [read]
    exact if_pos ⟨service, by rw [names]; exact windowKnown_none undefined⟩

section Modules

variable {m : Fin 16} {d : ModuleDef} (named : k = m.val) (configuring : s.mode = .configuring) (read : readModule e = some (some d))
include named configuring read

theorem writeModule_at : writeModule k e s = if moduleAddressTaken s m d.address then refuse .range s
    else if windowFull s (fun w => moduleNames s w m) d.window then refuse .full s else accept (applyModuleWrite m d s) := by
  unfold writeModule
  rw [if_neg (not_not.mpr (readModule_length (by rw [read]; nofun))), if_neg (not_not.mpr configuring), finOf_of named, read]

theorem writeModule_taken {j : Fin 16} {x : ModuleDef} (other : j ≠ m) (enabled : (s.inputModule j).defn = some x) (same : x.address = d.address) :
    writeModule k e s = refuse .range s := by
  rw [writeModule_at named configuring read]
  refine if_pos (List.any_eq_true.mpr ⟨j, mem_enabledModules enabled, ?_⟩)
  rw [decide_eq_true other, enabled]
  exact decide_eq_true same

theorem writeModule_full {w : Fin 192} (free : moduleAddressTaken s m d.address = false) (names : d.window = some w)
    (new : moduleNames s w m = false) (full : 32 ≤ ordinarySources s w) : writeModule k e s = refuse .full s := by
  rw [writeModule_at named configuring read, free, if_neg Bool.false_ne_true, names]
  exact if_pos (windowFull_of (already := fun w => moduleNames s w m) new full)

end Modules

section Points

variable {p : Fin 1024} (named : k = p.val)
include named

theorem clearPoint_at : clearPoint k s = clearPointAt p s := by unfold clearPoint; rw [finOf_of named]

theorem writePoint_no (read : readPoint e = some none) : writePoint k e s = clearPointAt p s := by
  unfold writePoint
  rw [if_neg (not_not.mpr (readPoint_length (by rw [read]; nofun))), finOf_of named, read]

section
variable {d : PointDef} (read : readPoint e = some (some d))
include read

theorem writePoint_at : writePoint k e s = if s.mode ≠ .configuring ∧ (windowKnown s d.window = false ∨ pointPlaced s p = false) then refuse .range s
    else if windowFull s (fun w => pointNames s w p) d.window then refuse .full s else accept (applyPointWrite p d s) := by
  unfold writePoint
  rw [if_neg (not_not.mpr (readPoint_length (by rw [read]; nofun))), finOf_of named, read]

theorem writePoint_unplaced (service : s.mode ≠ .configuring) (outside : ∀ x, (s.inputModule (moduleOf p)).defn = some x → x.channels ≤ p.val % 64) :
    writePoint k e s = refuse .range s := by
  rw [writePoint_at named read]
  refine if_pos ⟨service, .inr ?_⟩
  unfold pointPlaced
  split
  · rename_i x enabled
    exact decide_eq_false (Nat.not_lt.mpr (outside x enabled))
  · rfl

theorem writePoint_unknown {w : Fin 192} (names : d.window = some w) (service : s.mode ≠ .configuring) (undefined : (s.window w).defn = none) :
    writePoint k e s = refuse .range s := by
  rw [writePoint_at named read]
  exact if_pos ⟨service, .inl (by rw [names]; exact windowKnown_none undefined)⟩

theorem writePoint_full {w : Fin 192} (names : d.window = some w)
    (known : s.mode = .configuring ∨ ((s.window w).defn ≠ none ∧ pointPlaced s p = true)) (new : pointNames s w p = false)
    (full : 32 ≤ ordinarySources s w) : writePoint k e s = refuse .full s := by
  rw [writePoint_at named read, if_neg, names]
  · exact if_pos (windowFull_of (already := fun w => pointNames s w p) new full)
  · rintro ⟨service, unknown⟩
    obtain ⟨defined, placed⟩ := known.resolve_left service
    rw [names, windowKnown_some defined, placed] at unknown
    exact unknown.elim nofun nofun

end

end Points

theorem clearPointAt_used {p : Fin 1024} {el : Fin 64} (lists : elementLists s p el = true) : clearPointAt p s = refuse .inUse s :=
  if_pos (List.any_eq_true.mpr ⟨el, List.mem_finRange el, lists⟩)

theorem writeWindow_unknown {w : Fin 192} {d : WindowDef} (named : k = w.val) (read : readWindow e = some (some d))
    (service : s.mode ≠ .configuring) (undefined : (s.group d.group).defn = none) : writeWindow k e s = refuse .range s := by
  unfold writeWindow
  rw [if_neg (not_not.mpr (readWindow_length (by rw [read]; nofun))), finOf_of named, read]
  exact if_pos ⟨service, undefined⟩

theorem groupInUse_of {g : Fin 32} {w : Fin 192} {d : WindowDef} (defined : (s.window w).defn = some d) (names : d.group = g) :
    groupInUse s g = true := by
  have mem : w ∈ windowsOf s g := (mem_windowsOf s g w).mpr ⟨d, defined, names⟩
  unfold groupInUse
  cases windows : windowsOf s g with
  | nil => rw [windows] at mem; cases mem
  | cons => rfl

theorem writeDriver_taken {d j : Fin 6} {a : Nat} (named : k = d.val) (other : j ≠ d) (read : readDriver e = some (some a))
    (holds : s.driver j = some a) : writeDriver k e s = refuse .range s := by
  have length : e.length = 1 := by
    unfold readDriver at read
    split at read
    · rfl
    · cases read
  unfold writeDriver
  rw [if_neg (not_not.mpr length), finOf_of named, read]
  refine if_pos (List.any_eq_true.mpr ⟨j, List.mem_finRange j, ?_⟩)
  rw [decide_eq_true other, decide_eq_true holds]
  rfl

end Sys2Proof.Machine

/-! O53: the checks put together, table by table. -/

namespace Sys2Proof.Machine

variable {s : State}

/-! ### References, in canonical tables -/

theorem windowInUse_iff (w : Fin 192) : windowInUse s w = true ↔ (∃ p, pointNames s w p = true) ∨ (∃ m, moduleNames s w m = true) ∨
    (∃ c, channelNames s w c = true) ∨ s.settings.systemWindow = some w := by
  have points : s.definedPoints.any (pointNames s w) = true ↔ ∃ p, pointNames s w p = true := by
    rw [List.any_eq_true]
    refine exists_congr fun p => and_iff_right_of_imp fun names => ?_
    obtain ⟨d, defined, -⟩ := (pointNames_iff w p).mp names
    exact (mem_definedPoints s p).mpr (by rw [defined]; rfl)
  have modules : s.enabledModules.any (moduleNames s w) = true ↔ ∃ m, moduleNames s w m = true := by
    rw [List.any_eq_true]
    refine exists_congr fun m => and_iff_right_of_imp fun names => ?_
    obtain ⟨d, enabled, -⟩ := (moduleNames_iff w m).mp names
    exact mem_enabledModules enabled
  have channels : s.definedChannels.any (channelNames s w) = true ↔ ∃ c, channelNames s w c = true := by
    rw [List.any_eq_true]
    refine exists_congr fun c => and_iff_right_of_imp fun names => ?_
    obtain ⟨d, defined, -⟩ := (channelNames_iff w c).mp names
    exact (mem_definedChannels s c).mpr (by rw [defined]; rfl)
  unfold windowInUse
  rw [Bool.or_eq_true, Bool.or_eq_true, Bool.or_eq_true, points, modules, channels, decide_eq_true_eq, or_assoc, or_assoc]

theorem canonical_modules (canonical : s.canonical = true) : Table.wf {} s.modules = true := by
  unfold State.canonical at canonical
  simp only [Bool.and_eq_true] at canonical
  tauto

/-- A filter of the defined entries that lets only defined ones pass is one of all entries. -/
theorem keys_filter_filter {n : Nat} {α : Type} [DecidableEq α] {d : α} {tab : Table n α} (canonical : Table.wf d tab = true) {q r : Fin n → Bool}
    (narrows : ∀ i, r i = true → q i = true) (listed : ∀ i, r i = true → Table.get d tab i ≠ d) :
    ((Table.keys tab).filter q).filter r = (List.finRange n).filter r := by
  rw [List.filter_filter, ← Table.keys_filter_eq canonical listed]
  refine List.filter_congr fun i _ => ?_
  cases passes : r i with
  | false => rfl
  | true => exact narrows i passes

theorem ordinarySources_eq (canonical : s.canonical = true) (w : Fin 192) : ordinarySources s w =
    ((List.finRange 1024).filter (pointNames s w)).length + ((List.finRange 16).filter (moduleNames s w)).length +
      ((List.finRange 16).filter (channelNames s w)).length := by
  have points : s.definedPoints.filter (pointNames s w) = (List.finRange 1024).filter (pointNames s w) := by
    refine keys_filter_filter (canonical_points canonical) (fun p names => ?_) (fun p names => point_listed ?_)
    all_goals
      obtain ⟨d, defined, -⟩ := (pointNames_iff w p).mp names
      rw [defined]
      rfl
  have modules : s.enabledModules.filter (moduleNames s w) = (List.finRange 16).filter (moduleNames s w) := by
    refine keys_filter_filter (canonical_modules canonical) (fun m names => ?_) (fun m names initial => ?_)
    all_goals obtain ⟨d, enabled, -⟩ := (moduleNames_iff w m).mp names
    · rw [enabled]; rfl
    · rw [State.inputModule, initial] at enabled; cases enabled
  have channels : s.definedChannels.filter (channelNames s w) = (List.finRange 16).filter (channelNames s w) := by
    refine keys_filter_filter (canonical_channels canonical) (fun c names => ?_) (fun c names initial => ?_)
    all_goals obtain ⟨d, defined, -⟩ := (channelNames_iff w c).mp names
    · rw [defined]; rfl
    · rw [State.channel, initial] at defined; cases defined
  unfold ordinarySources
  rw [points, modules, channels]

/-- Settles O53. -/
theorem entryChecksComeInOrder : Obligations.EntryChecksComeInOrder := by
  refine ⟨?_, ?_, ?_, ?_, fun w s canonical => ⟨windowInUse_iff w, ordinarySources_eq canonical w, pointNames_iff w, moduleNames_iff w,
    channelNames_iff w⟩⟩
  · intro src index entry s ready no
    have refused {c : Instr} {code : Byte} {t : TableId} {act : State → Answer} {st : Status}
        (named : command c = some { src := src, code := code, act := fun s => entryReply t index (act s) }) (notOk : st ≠ .ok)
        (answer : act s = refuse st s) : no c code st := exec_refused_entry named ready notOk answer
    refine ⟨fun h => ?_, fun h => ?_, fun h => ?_, fun h => ⟨?_, ?_⟩, fun h => ⟨?_, ?_⟩, fun h => ⟨?_, ?_⟩, fun h => ?_, fun h => ?_,
      fun service => ⟨fun h => ?_, ?_⟩, fun frozen => ⟨fun h => ?_, fun h => ?_, fun h => ?_, ?_, ?_, ?_⟩, ?_⟩
    · exact refused rfl nofun (writeSettings_length h)
    · exact refused rfl nofun (writeModule_length h)
    · exact refused rfl nofun (writePoint_length h)
    · exact refused rfl nofun (writeWindow_length h)
    · exact refused rfl nofun (writeGroup_length h)
    · exact refused rfl nofun (writeDriver_length h)
    · exact refused rfl nofun (writeHorn_length h)
    · exact refused rfl nofun (writePattern_length h)
    · exact refused rfl nofun (writeOutput_length h)
    · exact refused rfl nofun (writeChannel_length h)
    · exact refused rfl nofun (writeElement_length h)
    · exact refused rfl nofun (writeModule_mode service h)
    · exact refused rfl nofun (clearModule_mode service)
    · exact refused rfl nofun (writeElement_frozen frozen h)
    · exact refused rfl nofun (writeOutput_frozen frozen h)
    · exact refused rfl nofun (writeChannel_frozen frozen h)
    · exact refused rfl nofun (clearElement_frozen frozen)
    · exact refused rfl nofun (clearOutput_frozen frozen)
    · exact refused rfl nofun (clearChannel_frozen frozen)
    refine ⟨fun length out => ?_, fun length mode out => ?_, fun length out => ?_, fun length => ⟨fun out => ?_, fun out => ?_⟩,
      fun length => ⟨fun out => ?_, fun out => ?_⟩, fun length => ⟨fun out => ?_, fun thawed out => ?_⟩, fun length thawed out => ?_,
      fun some thawed above => ?_, fun above => ?_, fun above => ⟨fun mode => ?_, fun thawed => ?_⟩, fun above => ?_, fun above => ?_,
      fun above => ?_, fun above => ?_, fun above => ⟨?_, ?_⟩, fun above thawed => ?_, fun above thawed => ?_⟩
    · exact refused rfl nofun (writeSettings_range length out)
    · exact refused rfl nofun (writeModule_range length mode out)
    · exact refused rfl nofun (writePoint_range length out)
    · exact refused rfl nofun (writeWindow_range length out)
    · exact refused rfl nofun (writeGroup_range length out)
    · exact refused rfl nofun (writeDriver_range length out)
    · exact refused rfl nofun (writeHorn_range length out)
    · exact refused rfl nofun (writePattern_range length out)
    · exact refused rfl nofun (writeOutput_range thawed length out)
    · exact refused rfl nofun (writeChannel_range thawed length out)
    · exact refused rfl nofun (writeElement_above thawed some above)
    · exact refused rfl nofun (clearSettings_above above)
    · exact refused rfl nofun (clearModule_above mode above)
    · exact refused rfl nofun (clearChannel_above thawed above)
    · exact refused rfl nofun (clearPoint_above above)
    · exact refused rfl nofun (clearWindow_above above)
    · exact refused rfl nofun (clearDriver_above above)
    · exact refused rfl nofun (clearGroup_above above)
    · exact refused rfl nofun (clearHorn_above above)
    · exact refused rfl nofun (clearPattern_above above)
    · exact refused rfl nofun (clearElement_above thawed above)
    · exact refused rfl nofun (clearOutput_above thawed above)
  · intro src index df count body s ready thawed inside no k m
    have refused {b : Byte} {rest : List Byte} {st : Status} (notOk : st ≠ .ok) (found : readElement (b :: rest) = .refused st) :
        no (b :: rest) st :=
      exec_refused_entry (c := .writeElement src index (b :: rest)) rfl ready notOk (writeElement_refused thawed nofun inside found)
    refine ⟨fun defined => refused nofun (readElement_defined defined body), refused nofun rfl,
      fun inputs => refused nofun (readElementBody_inputs inputs), fun least most => ⟨fun short => ?_, fun long => ⟨fun targets => ?_,
        fun few many => ⟨fun length => ?_, fun whole out => ?_⟩⟩⟩⟩
    · exact refused nofun (readElementBody_short least most short)
    · exact refused nofun ((readElementBody_long least most long).trans (if_pos targets))
    · exact refused nofun ((readElementBody_long least most long).trans ((if_neg (by omega : ¬ (m < 1 ∨ 4 < m))).trans (if_pos length)))
    · exact refused nofun ((readElementBody_long least most long).trans ((if_neg (by omega : ¬ (m < 1 ∨ 4 < m))).trans
        ((if_neg (not_not.mpr whole)).trans (readElementValues_out whole out))))
  · intro src index entry s ready thawed no
    have refused {c : Instr} {code : Byte} {t : TableId} {act : State → Answer} {st : Status}
        (named : command c = some { src := src, code := code, act := fun s => entryReply t index (act s) }) (notOk : st ≠ .ok)
        (answer : act s = refuse st s) : no c code st := exec_refused_entry named ready notOk answer
    refine ⟨fun k c named hosts => ⟨fun asserted => ⟨?_, fun address timeout read free => ?_⟩,
      fun rest service => ⟨?_, fun timeout read => ?_⟩⟩, fun k j a timeout named other read holds => ?_,
      fun e d named read service unknown => ?_, fun c named => ⟨fun asserted => ⟨?_, fun found read => ?_⟩,
        fun rest => ⟨fun e targets => ⟨?_, fun read => ?_⟩, fun d read => ?_⟩⟩⟩
    · exact refused rfl nofun ((clearOutput_at thawed named).trans (changeOutput_asserted (hostsAsserted_of hosts asserted) _ _))
    · exact refused rfl nofun ((writeOutput_at thawed named read).trans ((if_neg (by rw [free]; exact Bool.false_ne_true)).trans
        (changeOutput_asserted (hostsAsserted_of hosts asserted) _ _)))
    · exact refused rfl nofun ((clearOutput_at thawed named).trans (changeOutput_used hosts rest service _))
    · exact refused rfl nofun ((writeOutput_at thawed named read).trans ((if_neg (by rw [outputAddressTaken_none]; exact Bool.false_ne_true)).trans
        (changeOutput_used hosts rest service _)))
    · exact refused rfl nofun ((writeOutput_at thawed named read).trans (if_pos (outputAddressTaken_of other holds)))
    · exact refused rfl nofun (writeElement_unknown thawed named read service unknown)
    · exact refused rfl nofun ((clearChannel_at thawed named).trans (if_pos asserted))
    · exact refused rfl nofun (writeChannel_asserted thawed named read asserted)
    · exact refused rfl nofun ((clearChannel_at thawed named).trans ((if_neg (by rw [rest]; exact Bool.false_ne_true)).trans
        (clearChannelAt_used targets)))
    · exact refused rfl nofun ((writeChannel_no thawed named rest read).trans (clearChannelAt_used targets))
    have write := writeChannel_yes thawed named rest read
    refine ⟨fun j x other defined sameModule sameOutput => ?_, fun service unaddressed => ?_, fun w names => ⟨fun service undefined => ?_,
      fun free known new full => ?_⟩⟩
    · exact refused rfl nofun (write.trans (defineChannel_taken (outputTaken_of other defined sameModule sameOutput)))
    · exact refused rfl nofun (write.trans (defineChannel_unknown service (.inl unaddressed)))
    · exact refused rfl nofun (write.trans (defineChannel_unknown service (.inr (by rw [names]; exact windowKnown_none undefined))))
    · exact refused rfl nofun (write.trans (defineChannel_full free known names new full))
  · intro src index entry s ready no
    have refused {c : Instr} {code : Byte} {t : TableId} {act : State → Answer} {st : Status}
        (named : command c = some { src := src, code := code, act := fun s => entryReply t index (act s) }) (notOk : st ≠ .ok)
        (answer : act s = refuse st s) : no c code st := exec_refused_entry named ready notOk answer
    refine ⟨fun v w read names service undefined => ?_, fun m d named configuring read => ⟨fun j x other enabled same => ?_,
      fun w free names new full => ?_⟩, fun p named => ⟨fun e lists => ⟨?_, fun read => ?_⟩, fun d read => ⟨fun service outside => ?_,
        fun w names => ⟨fun service undefined => ?_, fun known new full => ?_⟩⟩⟩, fun w named service => ⟨fun used => ⟨?_, fun read => ?_⟩,
      fun d read undefined => ?_⟩, fun g w d named service defined names => ⟨?_, fun read => ?_⟩, fun d j a named other read holds => ?_⟩
    · exact refused rfl nofun (writeSettings_unknown read names service undefined)
    · exact refused rfl nofun (writeModule_taken named configuring read other enabled same)
    · exact refused rfl nofun (writeModule_full named configuring read free names new full)
    · exact refused rfl nofun ((clearPoint_at named).trans (clearPointAt_used lists))
    · exact refused rfl nofun ((writePoint_no named read).trans (clearPointAt_used lists))
    · exact refused rfl nofun (writePoint_unplaced named read service outside)
    · exact refused rfl nofun (writePoint_unknown named read names service undefined)
    · exact refused rfl nofun (writePoint_full named read names known new full)
    · exact refused rfl nofun ((clearWindow_named named).trans (if_pos ⟨service, used⟩))
    · exact refused rfl nofun ((writeWindow_undefine named read).trans (if_pos ⟨service, used⟩))
    · exact refused rfl nofun (writeWindow_unknown named read service undefined)
    · exact refused rfl nofun ((clearGroup_named named).trans (if_pos ⟨service, groupInUse_of defined names⟩))
    · exact refused rfl nofun ((writeGroup_undefine named read).trans (if_pos ⟨service, groupInUse_of defined names⟩))
    · exact refused rfl nofun (writeDriver_taken named other read holds)

end Sys2Proof.Machine

/-! O58: the annunciation restart (R24, R80, R99, R185). -/

namespace Sys2Proof.Machine

variable {s t u : State}

/-- Updates of one entry each that may be made twice reach the entries listed, where they read the mode too. -/
theorem State.each_updates_in {ι α : Type} [DecidableEq ι] {f : ι → State → State} {get : State → ι → α} {φ : Mode → α → α}
    (mode : ∀ i s, (f i s).mode = s.mode) (updates : ∀ i j s, get (f i s) j = if j = i then φ s.mode (get s i) else get s j)
    (twice : ∀ m v, φ m (φ m v) = φ m v) (is : List ι) (s : State) (j : ι) :
    get (State.each is f s) j = if j ∈ is then φ s.mode (get s j) else get s j := by
  have both := State.each_updates (f := f) (get := fun s j => (s.mode, get s j)) (φ := fun x => (x.1, φ x.1 x.2))
    (fun i j s => by
      dsimp only
      rw [mode, updates]
      split
      · rfl
      · rfl)
    (fun x => by rw [twice]) is s j
  have second := congrArg Prod.snd both
  rw [apply_ite Prod.snd] at second
  exact second

/-! ### Points (R24) -/

/-- A derivation changes the announced condition alone. -/
theorem Point.reannounced_eq (mode : Mode) (v : Point) : v.reannounced mode = { v with announced := (v.reannounced mode).announced } := by
  rcases Option.eq_none_or_eq_some v.defn with undefined | ⟨d, defined⟩
  · rw [Point.reannounced_of_undefined undefined]
  · rw [Point.reannounced_of_defined defined]
    split
    · rfl
    · rfl

theorem Point.reannounced_again (mode : Mode) (v : Point) : (v.reannounced mode).reannounced mode = v.reannounced mode := by
  rcases Option.eq_none_or_eq_some v.defn with undefined | ⟨d, defined⟩
  · rw [Point.reannounced_of_undefined undefined, Point.reannounced_of_undefined undefined]
  by_cases configuring : mode = .configuring
  · rw [Point.reannounced_of_defined defined, if_pos configuring, Point.reannounced_of_defined defined, if_pos configuring]
  · rw [Point.reannounced_of_defined defined, if_neg configuring,
      Point.reannounced_of_defined (v := { v with announced := d.announce v v.announced }) defined, if_neg configuring]
    dsimp only
    rw [PointDef.announce_again]

/-- A restart twice is a restart once. -/
theorem Point.restarted_again (mode : Mode) (v : Point) : (v.restarted mode).restarted mode = v.restarted mode := by
  have rests : { v.restarted mode with chatter := 0, suppressed := false } = v.restarted mode := by
    unfold Point.restarted
    rw [Point.reannounced_eq]
  conv_lhs => rw [Point.restarted]
  rw [rests]
  exact Point.reannounced_again mode _

theorem Point.restarted_service {mode : Mode} {v : Point} {d : PointDef} (defined : v.defn = some d) (service : mode ≠ .configuring) :
    v.restarted mode = { v with
      chatter := 0
      suppressed := false
      announced := d.announce { v with chatter := 0, suppressed := false } v.announced } :=
  (Point.reannounced_of_defined (v := { v with chatter := 0, suppressed := false }) defined mode).trans (if_neg service)

theorem pointsRestart_point (s : State) (p : Fin 1024) :
    (pointsRestart s).point p = if (s.point p).defn.isSome = true then (s.point p).restarted s.mode else s.point p := by
  have all := State.each_updates_in (get := State.point) (φ := Point.restarted) (fun p s => (pointRestart_turns p s).1)
    (fun p j s => (pointRestart_turns p s).2 j) Point.restarted_again s.definedPoints s p
  simp only [mem_definedPoints] at all
  exact all

/-! ### Counts alone (R80) -/

/-- Of the annunciation only counts of windows differ, and beside it points (R80). -/
structure State.onlyCounts (s t : State) : Prop where
  frame : t = { s with points := t.points, ann := { s.ann with windows := t.ann.windows } }
  window : ∀ w, t.window w = { s.window w with count := (t.window w).count }

namespace State.onlyCounts

theorem refl (s : State) : s.onlyCounts s := ⟨rfl, fun _ => rfl⟩

theorem trans (h : s.onlyCounts t) (k : t.onlyCounts u) : s.onlyCounts u := by
  refine ⟨?_, fun w => ?_⟩
  · rw [k.frame, h.frame]
  · rw [k.window, h.window]

theorem mode (h : s.onlyCounts t) : t.mode = s.mode := by rw [h.frame]
theorem events (h : s.onlyCounts t) : t.events = s.events := by rw [h.frame]
theorem group (h : s.onlyCounts t) (g : Fin 32) : t.group g = s.group g := by rw [h.frame]; rfl
theorem horn (h : s.onlyCounts t) (x : Fin 4) : t.horn x = s.horn x := by rw [h.frame]; rfl

end State.onlyCounts

theorem countActivation_counts (w : Fin 192) (s : State) : s.onlyCounts (countActivation w s) := by
  refine ⟨rfl, fun j => ?_⟩
  rw [countActivation_window]
  split
  · rename_i at_w; rw [at_w]
  · rfl

theorem countClear_counts (w : Fin 192) (s : State) : s.onlyCounts (countClear w s) := by
  refine ⟨rfl, fun j => ?_⟩
  rw [countClear_window]
  split
  · rename_i at_w; rw [at_w]
  · rfl

theorem setPoint_counts (p : Fin 1024) (v : Point) (s : State) : s.onlyCounts (s.setPoint p v) := ⟨rfl, fun _ => rfl⟩

theorem deliverCount_counts (p : Fin 1024) (w : Option (Fin 192)) (a : Condition) (s : State) :
    s.onlyCounts (deliverSource .countOnly p w a s) := by
  cases w with
  | none => cases a <;> exact .refl s
  | some w =>
    cases a with
    | alarm => exact countActivation_counts w s
    | normal => exact countClear_counts w s

theorem pointRestart_counts (p : Fin 1024) (s : State) : s.onlyCounts (pointRestart p s) := by
  have left := setPoint_counts p { s.point p with chatter := 0, suppressed := false } s
  unfold pointRestart reannounce
  split
  · dsimp only
    split
    · exact left
    · exact left.trans ((setPoint_counts p _ _).trans (deliverCount_counts p _ _ _))
  · exact left

theorem pointsRestart_counts (s : State) : s.onlyCounts (pointsRestart s) :=
  State.each_rel State.onlyCounts.refl State.onlyCounts.trans pointRestart_counts _ s

/-! ### The unit at rest -/

theorem phaseOnWait_lampTest (s : State) : (phaseOnWait s).ann.lampTest = s.ann.lampTest := rfl

theorem panelAtRest_lampTest (f : Window → WindowState) (s : State) : (panelAtRest f s).ann.lampTest = false := by
  rw [panelAtRest, lampEnds_lampTest]

/-- A unit that returned to rest and derived every pattern. -/
theorem restShown_window (f : Window → WindowState) (s : State) (w : Fin 192) : (redisplayAll (panelAtRest f s)).window w =
    { s.window w with state := f (s.window w), mark := false, shown := derivedPattern (panelAtRest f s) w } := by
  rw [redisplayAll_window, panelAtRest_window]

theorem restShown_group (f : Window → WindowState) (s : State) (g : Fin 32) :
    (redisplayAll (panelAtRest f s)).group g = (s.group g).rearmed := by
  rw [← panelAtRest_group f s g, State.group, redisplayAll_groups]
  rfl

theorem restShown_horn (f : Window → WindowState) (s : State) (h : Fin 4) : (redisplayAll (panelAtRest f s)).horn h = (s.horn h).quieted := by
  rw [← panelAtRest_horn f s h, State.horn, redisplayAll_horns]
  rfl

/-- A unit in service whose windows are STEADY or DARK and unmarked shows ON or OFF (R69). -/
theorem restShown_steady (service : s.mode ≠ .configuring) {f : Window → WindowState} (w : Fin 192)
    (two : f (s.window w) = .steady ∧ (s.window w).defn ≠ none ∨ f (s.window w) = .dark) :
    derivedPattern (panelAtRest f s) w = if f (s.window w) = .steady then .on else .off := by
  have here := panelAtRest_window f s w
  rw [derivedPattern_cases, panelAtRest_lampTest, if_neg Bool.false_ne_true, panelAtRest_mode, here]
  rcases two with ⟨steady, defined⟩ | dark
  · rw [if_neg (fun rest => rest.elim service defined), steady]
    rfl
  · rw [dark]
    split
    · rfl
    · rfl

/-- The state that a restart gives a window: STEADY with active sources, else DARK (R80). -/
def Window.restartState (v : Window) : WindowState := if v.defn.isSome ∧ 0 < v.count then .steady else .dark

theorem annRestart_shape (s : State) : annRestart s = phaseOnWait (redisplayAll (panelAtRest Window.restartState s)) := rfl

theorem annRestart_window (service : s.mode ≠ .configuring) (w : Fin 192) : (annRestart s).window w = { s.window w with
    state := (s.window w).restartState
    mark := false
    shown := if (s.window w).restartState = .steady then .on else .off } := by
  rw [annRestart_shape, phaseOnWait_window, restShown_window, restShown_steady service]
  by_cases active : (s.window w).defn.isSome = true ∧ 0 < (s.window w).count
  · exact .inl ⟨if_pos active, Option.isSome_iff_ne_none.mp active.1⟩
  · exact .inr (if_neg active)

theorem annRestart_group (s : State) (g : Fin 32) : (annRestart s).group g = (s.group g).rearmed := by
  rw [annRestart_shape, phaseOnWait_group, restShown_group]

theorem annRestart_horn (s : State) (h : Fin 4) : (annRestart s).horn h = (s.horn h).quieted := by
  rw [annRestart_shape, phaseOnWait_horn, restShown_horn]

theorem annRestart_lampTest (s : State) : (annRestart s).ann.lampTest = false := by
  rw [annRestart_shape, phaseOnWait_lampTest, redisplayAll_lampTest, panelAtRest_lampTest]

theorem annRestart_phase (s : State) : (annRestart s).ann.phaseWaiting = true := rfl

/-- Settles O58. -/
theorem annunciationRestartReturnsTheAlarms : Obligations.AnnunciationRestartReturnsTheAlarms := by
  intro src s ready
  refine ⟨fun configuring => exec_refused (c := .annunciationRestart src) rfl ready (if_pos configuring), fun service => ?_⟩
  have offered := offerNow_touches .restart .alarm noSubject 0 0 s
  have answer : exec (.annunciationRestart src) s = .next ((restartAnnunciation s).answered src [0x12, 0x00]) := by
    rw [exec_of_ready (c := .annunciationRestart src) rfl ready]
    dsimp only
    rw [annunciationRestart, if_neg service, replied_accept]
    rfl
  refine ⟨restartAnnunciation s, answer, ?_⟩
  unfold restartAnnunciation
  rw [show (65535 : Nat) = noSubject from rfl]
  generalize offerNow .restart .alarm noSubject 0 0 s = v at *
  have counts := pointsRestart_counts v
  have points := pointsRestart_point v
  generalize pointsRestart v = u at *
  have mode : v.mode = s.mode := offered.keepsPoints.1
  have running : u.mode ≠ .configuring := by rw [counts.mode, mode]; exact service
  have defn (w : Fin 192) : (u.window w).defn = (s.window w).defn := by rw [counts.window w, offered]; rfl
  have panel := annRestart_panel u
  refine ⟨?_, fun p => ?_, fun w => ?_, fun g => ?_, fun h => ?_, annRestart_lampTest u, annRestart_phase u⟩
  · rw [panel, counts.frame, offered]
  · rw [panel.ann.keepsPoints.point, points, mode, offered.keepsPoints.point]
    generalize s.point p = x
    rcases x with ⟨defn, contact, condition, quality, announced, chatter, suppressed, lastEvent⟩
    cases defn with
    | none => rfl
    | some d => exact Point.restarted_service (v := ⟨some d, contact, condition, quality, announced, chatter, suppressed, lastEvent⟩) rfl service
  · rw [annRestart_window running]
    refine ⟨defn w, rfl, ?_, rfl⟩
    rw [← defn w]
    exact if_congr (and_congr_left' Option.isSome_iff_ne_none) rfl rfl
  · have same : u.group g = s.group g := by rw [counts.group, offered]; rfl
    rw [annRestart_group, same]
    rfl
  · have same : u.horn h = s.horn h := by rw [counts.horn, offered]; rfl
    rw [annRestart_horn, same]
    rfl

end Sys2Proof.Machine

/-! O56: SET MODE CONFIGURING returns every unit to rest (R22, R77, R98, R121, R141, R179, R183). -/

namespace Sys2Proof.Machine

variable {s t u : State}

theorem anyAsserted_iff (s : State) : anyAsserted s = true ↔ ∃ c, (s.channel c).state.asserted = true := by
  unfold anyAsserted
  rw [List.any_eq_true]
  refine exists_congr fun c => and_iff_right_of_imp fun asserted => Table.mem_keys_of_get_ne (d := {}) fun initial => ?_
  rw [State.channel, initial] at asserted
  cases asserted

theorem anyAsserted_none (h : ∀ c, (s.channel c).state.asserted = false) : anyAsserted s = false := by
  rw [← Bool.not_eq_true, anyAsserted_iff]
  rintro ⟨c, asserted⟩
  rw [h c] at asserted
  cases asserted

/-! ### Backup lines (R141) -/

/-- Outside RUN no line is asserted. -/
theorem judgeLines_rest (other : s.mode ≠ .run) : judgeLines s = { s with trip := { s.trip with bkt0 := false, bkt1 := false } } := by
  have line (u : State) (mode : u.mode = s.mode) (l : Fin 2) : lineCondition u l = false := by
    unfold lineCondition
    rw [mode, decide_eq_false other, Bool.false_and]
  have first : judgeLine 0 s = { s with trip := { s.trip with bkt0 := false } } := by
    rw [← line s rfl 0]; rfl
  unfold judgeLines
  rw [first, ← line { s with trip := { s.trip with bkt0 := false } } rfl 1]
  rfl

/-! ### Points (R22) -/

/-- A point at rest in CONFIGURING (R22). -/
def Point.quieted (v : Point) : Point := { v with announced := .normal, chatter := 0, suppressed := false }

theorem pointsToConfiguring_point (s : State) (p : Fin 1024) : (pointsToConfiguring s).point p = (s.point p).quieted := by
  have listed := State.each_updates (get := State.point) (φ := Point.quieted) (fun p j s => (pointToConfiguring_turns p s).2 j) (fun _ => rfl)
    (Table.keys s.points) { s with decay := none } p
  refine listed.trans ?_
  split
  · rfl
  · rename_i unlisted
    have initial : s.point p = {} := not_not.mp fun other => unlisted (Table.mem_keys_of_get_ne other)
    rw [initial]
    exact initial

/-- Points, counts and displayed patterns alone differ: what a clear does in CONFIGURING (R22, R62). -/
structure State.onlyRests (s t : State) : Prop where
  frame : t = { s with points := t.points, ann := t.ann }
  defn : ∀ w, (t.window w).defn = (s.window w).defn
  groups : t.ann.groups = s.ann.groups
  horns : t.ann.horns = s.ann.horns

namespace State.onlyRests

theorem refl (s : State) : s.onlyRests s := ⟨rfl, fun _ => rfl, rfl, rfl⟩

theorem trans (h : s.onlyRests t) (k : t.onlyRests u) : s.onlyRests u :=
  ⟨by rw [k.frame, h.frame], fun w => (k.defn w).trans (h.defn w), k.groups.trans h.groups, k.horns.trans h.horns⟩

theorem mode (h : s.onlyRests t) : t.mode = s.mode := by rw [h.frame]

end State.onlyRests

theorem setPoint_rests (p : Fin 1024) (v : Point) (s : State) : s.onlyRests (s.setPoint p v) := ⟨rfl, fun _ => rfl, rfl, rfl⟩

theorem State.onlyPanel.pointsPanel (h : s.onlyPanel t) : t = { s with points := t.points, ann := t.ann } := by
  unfold State.onlyPanel at h
  rw [h]

theorem clearAt_rests (configuring : s.mode = .configuring) (w : Option (Fin 192)) : s.onlyRests (clearAt w s) := by
  cases w with
  | none => exact .refl s
  | some w =>
    have shape : clearSource w s = redisplay w (countClear w s) := clearSource_rests (.inl configuring)
    refine ⟨?_, fun j => ?_, ?_, clearSource_horns w s⟩
    · exact (clearSource_panel w s).pointsPanel
    · by_cases at_w : j = w
      · subst at_w; exact (clearSource_counts j s).2.1
      · exact congrArg Window.defn ((clearSource_counts w s).2.2 j at_w)
    · change (clearSource w s).ann.groups = _
      rw [shape, redisplay_groups]
      rfl

theorem pointToConfiguring_rests (p : Fin 1024) (configuring : s.mode = .configuring) : s.onlyRests (pointToConfiguring p s) := by
  have turned := setPoint_rests p { s.point p with announced := .normal, chatter := 0, suppressed := false } s
  unfold pointToConfiguring
  dsimp only
  split
  · split
    · exact turned.trans (clearAt_rests (turned.mode.trans configuring) _)
    · exact turned
  · exact turned

theorem pointsToConfiguring_rests (configuring : s.mode = .configuring) : { s with decay := none }.onlyRests (pointsToConfiguring s) := by
  refine State.each_keeps (P := fun u => { s with decay := none }.onlyRests u) (fun p u rests => ?_) _ _ (.refl _)
  exact rests.trans (pointToConfiguring_rests p (rests.mode.trans configuring))

/-! ### Elements (R121) -/

/-- An element at the entry into CONFIGURING (R121). -/
def Element.rested (s : State) (v : Element) : Element :=
  let r := { v with
    state := if decide (v.state = .timing) || decide (v.state = .spent) then .idle else v.state
    timer := none
    forced := false }
  match v.pending with
  | .none => r
  | .definition d => r.installed s d
  | .clear => {}

theorem elementToConfiguring_eq (e : Fin 64) (s : State) : elementToConfiguring e s = s.setElement e ((s.element e).rested s) := by
  unfold elementToConfiguring Element.rested
  dsimp only
  cases (s.element e).pending with
  | none => rfl
  | definition d =>
    dsimp only
    rw [installDefinition_eq, State.setElement_setElement, State.setElement_element_self]
    exact congrArg _ (Element.installed_congr _ fun _ => rfl)
  | clear => exact State.setElement_setElement s e _ _

/-- The definition that stands once what is pending is done. -/
def Pending.settles (standing : Option ElementDef) : Pending → Option ElementDef
  | .definition d => some d
  | _ => standing

/-- What the entry into CONFIGURING makes of an element (R121). -/
structure Element.restsAs (v w : Element) : Prop where
  pending : w.pending = .none
  cleared : v.pending = .clear → w = {}
  kept : v.pending ≠ .clear → w.timer = none ∧ w.forced = false ∧
    w.state = (if v.state = .timing ∨ v.state = .spent then .idle else v.state) ∧ w.defn = v.pending.settles v.defn

theorem Element.rested_rests (s : State) (v : Element) : v.restsAs (v.rested s) := by
  have state : (if decide (v.state = .timing) || decide (v.state = .spent) then ElementState.idle else v.state) =
      if v.state = .timing ∨ v.state = .spent then .idle else v.state := by
    simp only [Bool.or_eq_true, decide_eq_true_eq]
  unfold Element.rested
  rw [state]
  rcases v with ⟨defn, pending, current, forced, sum, timer, contrib, held⟩
  cases pending with
  | none => exact ⟨rfl, nofun, fun _ => ⟨rfl, rfl, rfl, rfl⟩⟩
  | definition d => exact ⟨rfl, nofun, fun _ => ⟨rfl, rfl, rfl, rfl⟩⟩
  | clear => exact ⟨rfl, fun _ => rfl, fun other => absurd rfl other⟩

/-- An element at rest is left as it is. -/
theorem Element.restsAs.again {v w : Element} (h : v.restsAs w) (s : State) : w.rested s = w := by
  have idle : (decide (w.state = .timing) || decide (w.state = .spent)) = false ∧ w.timer = none ∧ w.forced = false := by
    by_cases clear : v.pending = .clear
    · rw [h.cleared clear]; exact ⟨rfl, rfl, rfl⟩
    · obtain ⟨timer, forced, state, -⟩ := h.kept clear
      refine ⟨?_, timer, forced⟩
      rw [state, Bool.or_eq_false_iff, decide_eq_false_iff_not, decide_eq_false_iff_not]
      split
      · exact ⟨nofun, nofun⟩
      · exact not_or.mp ‹_›
  obtain ⟨state, timer, forced⟩ := idle
  have pending := h.pending
  clear h
  unfold Element.rested
  rw [pending, state]
  dsimp only
  rcases w with ⟨_, _, _, _, _, _, _, _⟩
  cases pending
  cases timer
  cases forced
  rfl

theorem Element.initial_rests : ({} : Element).restsAs {} := ⟨rfl, fun _ => rfl, fun _ => ⟨rfl, rfl, rfl, rfl⟩⟩

theorem elementsToConfiguring_element (s : State) (e : Fin 64) : (s.element e).restsAs ((elementsToConfiguring s).element e) := by
  -- throughout, each element is as it was or at rest
  have changes (i e : Fin 64) (u : State) : (elementToConfiguring i u).element e = if e = i then (u.element i).rested u else u.element e := by
    rw [elementToConfiguring_eq, State.setElement_element]
  have establishes (i : Fin 64) (u : State) (hu : ∀ e, u.element e = s.element e ∨ (s.element e).restsAs (u.element e)) :
      (s.element i).restsAs ((elementToConfiguring i u).element i) := by
    rw [changes, if_pos rfl]
    rcases hu i with same | rests
    · rw [same]; exact Element.rested_rests u _
    · rw [rests.again]; exact rests
  have holds (i e : Fin 64) (u : State) (hu : ∀ e, u.element e = s.element e ∨ (s.element e).restsAs (u.element e))
      (rests : (s.element e).restsAs (u.element e)) : (s.element e).restsAs ((elementToConfiguring i u).element e) := by
    by_cases same : e = i
    · subst same; exact establishes e u hu
    · rw [changes, if_neg same]; exact rests
  have keeps (i : Fin 64) (u : State) (hu : ∀ e, u.element e = s.element e ∨ (s.element e).restsAs (u.element e)) (e : Fin 64) :
      (elementToConfiguring i u).element e = s.element e ∨ (s.element e).restsAs ((elementToConfiguring i u).element e) := by
    by_cases same : e = i
    · subst same; exact .inr (establishes e u hu)
    · rw [changes, if_neg same]; exact hu e
  by_cases listed : e ∈ Table.keys s.elements
  · exact State.each_establishes keeps establishes holds (Table.keys s.elements) (fun _ => .inl rfl) e listed
  · have initial : s.element e = {} := not_not.mp fun other => listed (Table.mem_keys_of_get_ne other)
    rcases State.each_keeps keeps (Table.keys s.elements) s (fun _ => .inl rfl) e with same | rests
    · refine Eq.mpr (congrArg (Element.restsAs _) same) ?_
      rw [initial]
      exact Element.initial_rests
    · exact rests

/-- The element table alone differs. -/
def State.onlyElementTable (s t : State) : Prop := t = { s with elements := t.elements }

theorem elementsToConfiguring_table (s : State) : s.onlyElementTable (elementsToConfiguring s) := by
  refine State.each_rel (R := State.onlyElementTable) (fun _ => rfl) (fun {s t u} h k => ?_) (fun e s => ?_) _ s
  · unfold State.onlyElementTable at *
    rw [k, h]
  · rw [elementToConfiguring_eq]; rfl

/-! ### The unit at rest -/

theorem annEnterConfiguring_window (configuring : s.mode = .configuring) (w : Fin 192) : (annEnterConfiguring s).window w =
    { s.window w with state := .dark, mark := false, shown := .off } := by
  rw [annEnterConfiguring_eq, restShown_window, derivedPattern_configuring ((panelAtRest_mode _ s).trans configuring), panelAtRest_lampTest]
  rfl

theorem annEnterConfiguring_group (s : State) (g : Fin 32) : (annEnterConfiguring s).group g = (s.group g).rearmed := by
  rw [annEnterConfiguring_eq, restShown_group]

theorem annEnterConfiguring_horn (s : State) (h : Fin 4) : (annEnterConfiguring s).horn h = (s.horn h).quieted := by
  rw [annEnterConfiguring_eq, restShown_horn]

theorem annEnterConfiguring_lampTest (s : State) : (annEnterConfiguring s).ann.lampTest = false := by
  rw [annEnterConfiguring_eq, redisplayAll_lampTest, panelAtRest_lampTest]

/-! ### The command -/

theorem setModeConfiguring_frozen (service : s.mode ≠ .configuring) (frozen : s.frozen = true) :
    setModeConfiguring s = refuse .frozen s := (if_neg service).trans (if_pos frozen)

theorem setModeConfiguring_asserted (service : s.mode ≠ .configuring) (thawed : s.frozen = false)
    (asserted : ∃ c, (s.channel c).state.asserted = true) : setModeConfiguring s = refuse .stillActive s :=
  (if_neg service).trans ((if_neg (thawed_checks thawed)).trans (if_pos ((anyAsserted_iff s).mpr asserted)))

theorem setModeConfiguring_accepts (service : s.mode ≠ .configuring) (thawed : s.frozen = false)
    (rest : ∀ c, (s.channel c).state.asserted = false) : setModeConfiguring s = accept (enterConfiguring s) :=
  (if_neg service).trans ((if_neg (thawed_checks thawed)).trans (if_neg (by rw [anyAsserted_none rest]; exact Bool.false_ne_true)))

/-- Settles O56. -/
theorem setModeConfiguringReturnsToRest : Obligations.SetModeConfiguringReturnsToRest := by
  intro src s ready
  refine ⟨fun configuring => ?_, fun service frozen => ?_, fun service thawed asserted => ?_, fun service thawed rest => ?_⟩
  · rw [exec_of_ready (c := .setModeConfiguring src) rfl ready]
    dsimp only
    rw [show setModeConfiguring s = accept s from if_pos configuring]
    rfl
  · exact exec_refused (c := .setModeConfiguring src) rfl ready (setModeConfiguring_frozen service frozen)
  · exact exec_refused (c := .setModeConfiguring src) rfl ready (setModeConfiguring_asserted service thawed asserted)
  have answer : exec (.setModeConfiguring src) s = .next ((enterConfiguring s).answered src [0x10, 0x00]) := by
    rw [exec_of_ready (c := .setModeConfiguring src) rfl ready]
    dsimp only
    rw [setModeConfiguring_accepts service thawed rest]
    rfl
  refine ⟨enterConfiguring s, answer, ?_⟩
  have offered := offerModeChange_touches .configuring s
  rw [show offerNow .modeChange .trip 65535 0 0 s = offerModeChange .configuring s from rfl, enterConfiguring_eq]
  unfold configuringEntered
  generalize offerModeChange .configuring s = v at *
  have points := pointsToConfiguring_point { v with mode := .configuring }
  have rests := pointsToConfiguring_rests (s := { v with mode := .configuring }) rfl
  generalize pointsToConfiguring { v with mode := .configuring } = p at *
  have configuring : p.mode = .configuring := rests.mode
  have panel := annEnterConfiguring_panel p
  have window := annEnterConfiguring_window configuring
  have group := annEnterConfiguring_group p
  have horn := annEnterConfiguring_horn p
  have lampTest := annEnterConfiguring_lampTest p
  generalize annEnterConfiguring p = a at *
  have table := elementsToConfiguring_table a
  have elements := elementsToConfiguring_element a
  generalize elementsToConfiguring a = e at *
  have resting : e.mode ≠ .run := by rw [table, panel, configuring]; nofun
  rw [judgeLines_rest resting]
  have ann : e.ann = a.ann := by rw [table]
  refine ⟨?_, fun j => ?_, fun w => ?_, fun g => ?_, fun h => ?_, ?_, fun j => ?_⟩
  · unfold joinAscending
    rw [table, panel, rests.frame, offered]
  · change e.point j = _
    rw [table]
    change a.point j = _
    rw [panel.ann.keepsPoints.point, points j]
    change (v.point j).quieted = _
    rw [offered.keepsPoints.point]
    rfl
  · change (e.window w).defn = _ ∧ (e.window w).state = _ ∧ (e.window w).mark = _ ∧ (e.window w).shown = _
    rw [State.window, ann]
    change (a.window w).defn = _ ∧ (a.window w).state = _ ∧ (a.window w).mark = _ ∧ (a.window w).shown = _
    rw [window w]
    refine ⟨(rests.defn w).trans ?_, rfl, rfl, rfl⟩
    rw [offered]
    rfl
  · change e.group g = _
    rw [State.group, ann]
    change a.group g = _
    rw [group g, State.group, rests.groups, offered]
    rfl
  · change e.horn h = _
    rw [State.horn, ann]
    change a.horn h = _
    rw [horn h, State.horn, rests.horns, offered]
    rfl
  · change e.ann.lampTest = false
    rw [ann, lampTest]
  · have same : a.element j = s.element j := by rw [panel, rests.frame, offered]; rfl
    have done := elements j
    rw [same] at done
    refine ⟨done.pending, done.cleared, fun other => ?_⟩
    obtain ⟨timer, forced, state, defn⟩ := done.kept other
    refine ⟨timer, forced, state, defn.trans ?_⟩
    cases (s.element j).pending <;> rfl

end Sys2Proof.Machine

/-! What the changes of mode share: records that only join the queue, counts that follow an evaluation, lines judged and modules and
drivers that join (R72, R131, R135, R141, R149). -/

namespace Sys2Proof.Machine

variable {s t u : State}

/-! ### Records join the queue -/

/-- The queue of `t` begins with the records `r`. -/
def State.beginsWith (r : List Record) (t : State) : Prop := ∃ later, t.events.records = r ++ later

theorem State.beginsWith.refl (s : State) : s.beginsWith s.events.records := ⟨[], (List.append_nil _).symm⟩

theorem State.beginsWith.of_events {r : List Record} (h : s.beginsWith r) (events : t.events = s.events) : t.beginsWith r := by
  obtain ⟨later, joined⟩ := h
  exact ⟨later, by rw [events, joined]⟩

theorem State.beginsWith.accepted {r : List Record} (h : s.beginsWith r) (o : Offer) : (acceptRecord o s).beginsWith r := by
  obtain ⟨later, joined⟩ := h
  exact ⟨later ++ [completeRecord o s], by rw [(acceptRecord_queue o s).1, joined, List.append_assoc]⟩

theorem State.beginsWith.offered {r : List Record} (h : s.beginsWith r) (o : Offer) : (offer o s).beginsWith r := by
  unfold offer
  split
  · exact h
  split
  · exact h.accepted o
  · exact h

theorem State.beginsWith.overflowed {r : List Record} (h : s.beginsWith r) : (queueOverflow s).beginsWith r := by
  unfold queueOverflow
  split
  · exact h.accepted _
  · exact h

/-- No delivery takes a record out of the queue (R149). -/
theorem beginsWith_deliveries (r : List Record) : KeptByDeliveries (State.beginsWith r) where
  frame := fun h _ _ events _ => h.of_events events
  offer := fun o _ h => h.offered o
  activate := fun w capture s h => by
    rcases activate_offers w capture s with same | ⟨o, offered⟩
    · exact h.of_events same
    · exact (h.offered o).of_events offered
  clearSource := fun w s h => h.of_events (clearSource_panel w s).events
  setChannel := fun _ h => h
  setOutputModule := fun _ h => h
  joinTrip := fun k s h => h.of_events (joinTrip_events k s)
  judgeLine := fun k s h => by
    refine h.of_events ?_
    unfold judgeLine
    split
    · rfl
    · rfl

/-! ### Counts that follow (R131) -/

/-- Elements, counts of channels and records alone differ: what an evaluation leaves while the channels take the counts only. -/
structure State.takesCounts (s t : State) : Prop where
  frame : t = { s with elements := t.elements, trip := { s.trip with channels := t.trip.channels }, events := t.events }
  channel : ∀ c, t.channel c = { s.channel c with demand := (t.channel c).demand }
  canonical : Table.wf {} s.trip.channels = true → Table.wf {} t.trip.channels = true

namespace State.takesCounts

theorem refl (s : State) : s.takesCounts s := ⟨rfl, fun _ => rfl, id⟩

theorem trans (h : s.takesCounts t) (k : t.takesCounts u) : s.takesCounts u :=
  ⟨by rw [k.frame, h.frame], fun c => by rw [k.channel, h.channel], k.canonical ∘ h.canonical⟩

theorem of_events (h : s.onlyEvents t) : s.takesCounts t := by
  unfold State.onlyEvents at h
  rw [h]
  exact ⟨rfl, fun _ => rfl, id⟩

theorem mode (h : s.takesCounts t) : t.mode = s.mode := by rw [h.frame]
theorem ann (h : s.takesCounts t) : t.ann = s.ann := by rw [h.frame]

end State.takesCounts

theorem setElement_counts (e : Fin 64) (v : Element) (s : State) : s.takesCounts (s.setElement e v) := ⟨rfl, fun _ => rfl, id⟩

theorem deliverDemand_takes (asserted : Bool) (c : Fin 16) (s : State) : s.takesCounts (deliverDemand .countsOnly asserted c s) := by
  rw [deliverDemand_counts]
  refine ⟨rfl, fun j => ?_, Table.wf_set _ _ _ _⟩
  rw [State.setChannel_channel]
  split
  · rename_i same; rw [same]
  · rfl

/-! ### Relations kept by an evaluation (R111 to R116) -/

section
variable {R : State → State → Prop} {taking : Taking} (refl : ∀ s, R s s) (trans : ∀ {s t u}, R s t → R t u → R s u)
  (element : ∀ e v s, R s (s.setElement e v)) (events : ∀ {s t : State}, s.onlyEvents t → R s t)
  (demand : ∀ asserted c s, R s (deliverDemand taking asserted c s))
include refl trans element events demand

theorem performMove_rel (e : Fin 64) (d : ElementDef) (mv : Move) (s : State) : R s (performMove taking e d mv s) := by
  rw [performMove_eq]
  have moved := element e { s.element e with state := mv.state, timer := mv.timer } s
  refine trans (trans moved (events (recordsOf_touches e (s.element e).sum mv.records _))) ?_
  unfold targetsTake
  split
  · exact State.each_rel refl trans (fun c u => demand _ c u) _ _
  · exact refl _

theorem evaluateOnce_rel (e : Fin 64) (s : State) : R s (evaluateOnce taking e s) := by
  rcases moves_or_rests e s with ⟨d, mv, defined, move⟩ | rests
  · rw [evaluateOnce_move defined move]; exact performMove_rel refl trans element events demand e d mv s
  · rw [evaluateOnce_none rests]; exact refl s

theorem moveAndInstall_rel (e : Fin 64) (d : ElementDef) (mv : Move) (s : State) : R s (moveAndInstall taking e d mv s) := by
  have moved := performMove_rel refl trans element events demand e d mv s
  by_cases stays : mv.state ≠ .idle ∨ (s.element e).pending = .none
  · rw [moveAndInstall_stays stays]; exact moved
  obtain ⟨idle, pending⟩ := not_or.mp stays
  cases held : (s.element e).pending with
  | none => exact absurd held pending
  | definition x =>
    rw [moveAndInstall_installs (not_not.mp idle) held]
    exact trans moved (trans (element e _ _) (evaluateOnce_rel refl trans element events demand e _))
  | clear =>
    rw [moveAndInstall_clears (not_not.mp idle) held]
    exact trans moved (element e _ _)

theorem evaluateElement_rel (e : Fin 64) (s : State) : R s (evaluateElement taking e s) := by
  rcases moves_or_rests e s with ⟨d, mv, defined, move⟩ | rests
  · rw [evaluateElement_move defined move]; exact moveAndInstall_rel refl trans element events demand e d mv s
  · rw [evaluateElement_none rests]; exact refl s

end

theorem evaluateElement_counts (e : Fin 64) (s : State) : s.takesCounts (evaluateElement .countsOnly e s) :=
  evaluateElement_rel State.takesCounts.refl State.takesCounts.trans setElement_counts State.takesCounts.of_events deliverDemand_takes e s

/-! ### Forces cleared (R120) -/

/-- An evaluation forces nothing. -/
theorem evaluateElement_unforced {e : Fin 64} (unforced : (s.element e).forced = false) (taking : Taking) :
    ((evaluateElement taking e s).element e).forced = false := by
  rcases moves_or_rests e s with ⟨d, mv, defined, move⟩ | rests
  · rw [evaluateElement_move defined move]
    by_cases stays : mv.state ≠ .idle ∨ (s.element e).pending = .none
    · rw [moveAndInstall_stays stays, performMove_element]; exact unforced
    obtain ⟨idle, pending⟩ := not_or.mp stays
    cases held : (s.element e).pending with
    | none => exact absurd held pending
    | definition x =>
      rw [moveAndInstall_installs (not_not.mp idle) held, (evaluateOnce_shifts taking e _).2, State.setElement_element_self]
      exact unforced
    | clear => rw [moveAndInstall_clears (not_not.mp idle) held, State.setElement_element_self]
  · rw [evaluateElement_none rests]; exact unforced

theorem forceElement_held {e : Fin 64} {on : Bool} (same : (s.element e).forced = on) (taking : Taking) : forceElement taking on e s = s :=
  if_pos same

theorem forceElement_changed {e : Fin 64} {on : Bool} (other : (s.element e).forced ≠ on) (taking : Taking) : forceElement taking on e s =
    evaluateElement taking e (s.setElement e { s.element e with forced := on }) := if_neg other

theorem forceElement_shifts (taking : Taking) (on : Bool) (e : Fin 64) (s : State) : s.shifts e (forceElement taking on e s) := by
  by_cases same : (s.element e).forced = on
  · rw [forceElement_held same]; exact .refl s e
  · rw [forceElement_changed same]
    exact (setElement_shifts e _ s).trans (evaluateElement_shifts taking e _)

theorem forceElement_releases (taking : Taking) (e : Fin 64) (s : State) : ((forceElement taking false e s).element e).forced = false := by
  by_cases same : (s.element e).forced = false
  · rw [forceElement_held same]; exact same
  · rw [forceElement_changed same]
    exact evaluateElement_unforced (by rw [State.setElement_element_self]) taking

theorem forceElement_counts (on : Bool) (e : Fin 64) (s : State) : s.takesCounts (forceElement .countsOnly on e s) := by
  by_cases same : (s.element e).forced = on
  · rw [forceElement_held same]; exact .refl s
  · rw [forceElement_changed same]
    exact (setElement_counts e _ s).trans (evaluateElement_counts e _)

theorem clearForces_counts (s : State) : s.takesCounts (clearForces s) :=
  State.each_rel State.takesCounts.refl State.takesCounts.trans (forceElement_counts false) _ s

/-- An element that is undefined or not forced is left as it stands (R120). -/
theorem clearForces_leaves {e : Fin 64} (leaves : (s.element e).defn = none ∨ (s.element e).forced = false) :
    (clearForces s).element e = s.element e := by
  refine State.each_keeps_on (P := fun u => u.element e = s.element e) (fun i u listed same => ?_) rfl
  by_cases at_e : e = i
  · subst at_e
    have defined := (mem_definedElements s e).mp listed
    have unforced : (u.element e).forced = false := by
      rw [same]
      refine leaves.resolve_left fun undefined => ?_
      rw [undefined] at defined
      cases defined
    rw [forceElement_held unforced]
    exact same
  · rw [(forceElement_shifts _ _ _ u).2 e at_e]
    exact same

theorem clearForces_releases {e : Fin 64} (defined : ((clearForces s).element e).defn ≠ none) : ((clearForces s).element e).forced = false := by
  by_cases was : (s.element e).defn = none
  · rw [clearForces_leaves (.inl was)] at defined
    exact absurd was defined
  · refine State.each_establishes (I := fun _ => True) (Q := fun e u => (u.element e).forced = false) (fun _ _ _ => trivial)
      (fun i u _ => forceElement_releases .countsOnly i u) (fun i j u _ unforced => ?_) s.definedElements trivial e
      ((mem_definedElements s e).mpr (Option.isSome_iff_ne_none.mpr was))
    by_cases same : j = i
    · rw [same]; exact forceElement_releases .countsOnly i u
    · rw [(forceElement_shifts _ _ _ u).2 j same]; exact unforced

/-- Only forced elements are evaluated, each once, by rising number (R120). -/
theorem clearForces_forced (canonical : Table.wf {} s.elements = true) : clearForces s = State.each
    ((List.finRange 64).filter fun e => (s.element e).defn.isSome && (s.element e).forced)
    (fun e u => evaluateElement .countsOnly e (u.setElement e { u.element e with forced := false })) s := by
  have selected := State.each_selected (f := forceElement .countsOnly false)
    (g := fun e u => evaluateElement .countsOnly e (u.setElement e { u.element e with forced := false }))
    (q := fun e => (s.element e).forced) (get := State.element) (P := fun _ => True) (fun _ _ _ => trivial)
    (fun i j u other => (forceElement_shifts _ _ i u).2 j other) (definedElements_once canonical) (s := s) (t := s)
    (fun e _ u _ same => by
      cases forced : (s.element e).forced with
      | false => rw [forceElement_held (by rw [same, forced])]; rfl
      | true => rw [forceElement_changed (by rw [same, forced]; nofun)]; rfl)
    (fun _ _ => rfl) trivial
  unfold clearForces
  rw [selected, definedElements_eq canonical, List.filter_filter]
  refine congrArg (fun es => State.each es _ s) (List.filter_congr fun e _ => ?_)
  exact Bool.and_comm _ _

/-! ### Joins and lines -/

/-- What the modules' joins and the judgement of both lines leave (R135, R141). -/
theorem joined_judged (s : State) : judgeLines (joinTripAll s) = { s with trip := { s.trip with
    waiting := s.trip.waiting ++ (List.finRange 8).filter (fun k => (s.outputModule k).address.isSome && !(hostedBy s k).isEmpty &&
      !s.trip.waiting.contains k)
    bkt0 := lineCondition s 0
    bkt1 := lineCondition s 1 } } := by
  unfold joinTripAll
  rw [each_joinTrip (List.nodup_finRange 8)]
  rfl

theorem joinAscending_ann (before : List (Fin 6)) (s : State) : (joinAscending before s).ann = { s.ann with
    waiting := before ++ (List.finRange 6).filter fun d => s.ann.waiting.contains d && !before.contains d } := by
  unfold joinAscending
  dsimp only
  refine congrArg (fun ds => ({ s.ann with waiting := before ++ ds } : Annunciator)) (List.filter_congr fun d _ => ?_)
  simp

/-! ### Channels at the exit from TEST (R143) -/

/-- A channel at the exit from TEST (R143). -/
def Channel.exited (v : Channel) : Channel := { v with state := if 0 < v.demand then .tripped else .normal }

/-- The channel's state moved, with CHANNEL_TRIP where it has demand (R143 steps 1 and 2). -/
def channelExits (c : Fin 16) (s : State) : State :=
  if 0 < (s.channel c).demand then channelRecord .channelTrip c (s.setChannel c { s.channel c with state := .tripped })
  else s.setChannel c { s.channel c with state := .normal }

theorem channelExits_touches (c : Fin 16) (s : State) : (s.setChannel c (s.channel c).exited).onlyEvents (channelExits c s) := by
  unfold channelExits Channel.exited
  split
  · exact channelRecord_touches .channelTrip c _
  · rfl

theorem State.onlyEvents.channel (h : s.onlyEvents t) (c : Fin 16) : t.channel c = s.channel c := by
  unfold State.onlyEvents at h
  rw [h]
  rfl

theorem channelExits_channel (c : Fin 16) (s : State) : (channelExits c s).channel c = (s.channel c).exited := by
  rw [(channelExits_touches c s).channel, State.setChannel_channel_self]

theorem exitChannel_delivers (c : Fin 16) (s : State) : (channelExits c s).onlyAnnunciation (exitChannel c s) := by
  change (channelExits c s).onlyAnnunciation (match ((channelExits c s).channel c).defn with
    | some d =>
      if (s.channel c).state.asserted = ((channelExits c s).channel c).state.asserted then channelExits c s
      else if ((channelExits c s).channel c).state.asserted then activateAt d.window none (channelExits c s)
      else clearAt d.window (channelExits c s)
    | none => channelExits c s)
  split
  · split
    · exact .refl _
    split
    · exact activateAt_touches _ _ _
    · exact clearAt_touches _ _
  · exact .refl _

/-- The state of channels, the annunciation and the queue alone differ. -/
def State.onlyExits (s t : State) : Prop :=
  t = { s with trip := { s.trip with channels := t.trip.channels }, ann := t.ann, events := t.events }

theorem exitChannel_exits (c : Fin 16) (s : State) : s.onlyExits (exitChannel c s) := by
  have delivered := exitChannel_delivers c s
  have moved := channelExits_touches c s
  unfold State.onlyAnnunciation at delivered
  unfold State.onlyEvents at moved
  unfold State.onlyExits
  rw [delivered, moved]
  rfl

theorem exitChannel_channel (c j : Fin 16) (s : State) : (exitChannel c s).channel j = if j = c then (s.channel c).exited else s.channel j := by
  have delivered := exitChannel_delivers c s
  unfold State.onlyAnnunciation at delivered
  rw [delivered]
  change (channelExits c s).channel j = _
  rw [(channelExits_touches c s).channel, State.setChannel_channel]

theorem exitChannels_channel (s : State) (c : Fin 16) : (State.each s.definedChannels exitChannel s).channel c =
    if (s.channel c).defn.isSome = true then (s.channel c).exited else s.channel c := by
  have all := State.each_updates (get := State.channel) (φ := Channel.exited) exitChannel_channel (fun _ => rfl) s.definedChannels s c
  simp only [mem_definedChannels] at all
  exact all

theorem exitChannels_exits (cs : List (Fin 16)) (s : State) : s.onlyExits (State.each cs exitChannel s) := by
  refine State.each_rel (R := State.onlyExits) (fun _ => rfl) (fun {s t u} h k => ?_) exitChannel_exits cs s
  unfold State.onlyExits at *
  rw [k, h]

end Sys2Proof.Machine

/-! O55: SET MODE TEST, and SET MODE RUN from TEST (R120, R131, R142, R143, R179, R182). -/

namespace Sys2Proof.Machine

variable {s t u : State}

/-! ### Entry -/

theorem setModeTest_accepts (run : s.mode = .run) (rest : ∀ c, (s.channel c).state.asserted = false) :
    setModeTest s = accept (enterTest s) := by
  unfold setModeTest
  rw [run]
  exact if_neg (by rw [anyAsserted_none rest]; exact Bool.false_ne_true)

theorem setModeTest_asserted (run : s.mode = .run) (asserted : ∃ c, (s.channel c).state.asserted = true) :
    setModeTest s = refuse .stillActive s := by
  unfold setModeTest
  rw [run]
  exact if_pos ((anyAsserted_iff s).mpr asserted)

theorem setModeTest_configuring (configuring : s.mode = .configuring) : setModeTest s = refuse .wrongMode s := by
  unfold setModeTest
  rw [configuring]

theorem setModeTest_again (test : s.mode = .test) : setModeTest s = accept s := by
  unfold setModeTest
  rw [test]

theorem enterTest_eq (s : State) : enterTest s = { s with
    mode := .test
    events := (offerModeChange .test { s with mode := .test }).events
    trip := { s.trip with
      bkt0 := false, bkt1 := false
      waiting := s.trip.waiting ++ (List.finRange 8).filter (fun k => (s.outputModule k).address.isSome &&
        !(hostedBy s k).isEmpty && !s.trip.waiting.contains k) } } := by
  have offered := offerModeChange_touches .test { s with mode := .test }
  unfold enterTest
  generalize offerModeChange .test { s with mode := .test } = v at *
  unfold State.onlyEvents at offered
  rw [judgeLines_rest (by rw [offered]; nofun), joinTripAll, each_joinTrip (List.nodup_finRange 8), offered]
  rfl

/-! ### Exit -/

theorem setModeRun_test (test : s.mode = .test) : setModeRun s = accept (leaveTest s) := by
  unfold setModeRun
  rw [test]

theorem hostedBy_isEmpty (same : ∀ c, (t.channel c).defn = (s.channel c).defn) (k : Fin 8) : (hostedBy t k).isEmpty = (hostedBy s k).isEmpty := by
  have hosts : hostedBy t k = [] ↔ hostedBy s k = [] := by
    rw [← not_iff_not]
    exact ⟨hostedBy_ne_nil_of_defns fun c => (same c).symm, hostedBy_ne_nil_of_defns same⟩
  rw [Bool.eq_iff_iff, List.isEmpty_iff, List.isEmpty_iff, hosts]

theorem definedChannels_eq (canonical : Table.wf {} s.trip.channels = true) :
    s.definedChannels = (List.finRange 16).filter fun c => (s.channel c).defn.isSome :=
  Table.keys_filter_eq canonical fun c defined initial => by
    rw [State.channel, initial] at defined
    cases defined

/-- A channel at the exit from TEST, with its window's delivery where the output changes (R143 steps 1 to 3). -/
def channelLeavesTest (c : Fin 16) (u : State) : State :=
  let v := u.channel c
  let trips := decide (0 < v.demand)
  let window := match v.defn with
    | some d => d.window
    | none => none
  let w := if trips then offerNow .channelTrip .trip c.val 0 0 (u.setChannel c { v with state := .tripped })
    else u.setChannel c { v with state := .normal }
  if v.state.asserted = trips then w
  else if trips then activateAt window none w
  else clearAt window w

theorem exitChannel_eq : exitChannel = channelLeavesTest := by
  funext c u
  unfold exitChannel channelLeavesTest channelRecord
  dsimp only
  have at_c (w : State) (same : w.channel c = (u.channel c).exited) : (w.channel c).defn = (u.channel c).defn ∧
      (w.channel c).state.asserted = decide (0 < (u.channel c).demand) := by
    rw [same]
    refine ⟨rfl, ?_⟩
    unfold Channel.exited
    dsimp only
    by_cases demand : 0 < (u.channel c).demand
    · rw [if_pos demand, decide_eq_true demand]; rfl
    · rw [if_neg demand, decide_eq_false demand]; rfl
  have moved := at_c _ (channelExits_channel c u)
  unfold channelExits channelRecord at moved
  by_cases demand : 0 < (u.channel c).demand
  · simp only [if_pos demand] at moved ⊢
    simp only [demand, decide_true, if_true] at moved ⊢
    rw [moved.1, moved.2]
    cases (u.channel c).defn with
    | none => simp only [activateAt, ite_self]
    | some d => simp only [if_true]
  · simp only [if_neg demand] at moved ⊢
    simp only [demand, decide_false] at moved ⊢
    rw [moved.1, moved.2]
    cases (u.channel c).defn with
    | none => simp [clearAt]
    | some d => simp

/-! ### The exit from TEST as a whole -/

/-- The forces cleared at the exit from TEST (R120, R131). -/
def unforced (s : State) : State := clearForces (offerModeChange .run { s with mode := .run })

/-- The channels' moves at the exit from TEST (R143). -/
def channelsExited (s : State) : State := State.each (unforced s).definedChannels exitChannel (unforced s)

theorem leaveTest_joined (s : State) : leaveTest s = joinAscending s.ann.waiting (judgeLines (joinTripAll (channelsExited s))) := rfl

theorem unforced_frame (s : State) : unforced s = { s with
    mode := .run
    elements := (unforced s).elements
    trip := { s.trip with channels := (unforced s).trip.channels }
    events := (unforced s).events } := by
  have offered := offerModeChange_touches .run { s with mode := .run }
  have counts := (clearForces_counts (offerModeChange .run { s with mode := .run })).frame
  unfold unforced
  unfold State.onlyEvents at offered
  generalize offerModeChange .run { s with mode := .run } = v at *
  generalize clearForces v = f at *
  rw [counts, offered]

theorem channelsExited_frame (s : State) : channelsExited s = { s with
    mode := .run
    ann := (channelsExited s).ann
    elements := (unforced s).elements
    trip := { s.trip with channels := (channelsExited s).trip.channels }
    events := (channelsExited s).events } := by
  have frame := unforced_frame s
  have exits := exitChannels_exits (unforced s).definedChannels (unforced s)
  unfold channelsExited
  unfold State.onlyExits at exits
  generalize unforced s = f at *
  generalize State.each f.definedChannels exitChannel f = x at *
  rw [exits, frame]

theorem unforced_channel (s : State) (c : Fin 16) :
    (unforced s).channel c = { s.channel c with demand := ((unforced s).channel c).demand } := by
  have offered := offerModeChange_touches .run { s with mode := .run }
  have counts := (clearForces_counts (offerModeChange .run { s with mode := .run })).channel c
  rw [offered.channel] at counts
  exact counts

theorem channelsExited_channel (s : State) (c : Fin 16) : (channelsExited s).channel c =
    if (s.channel c).defn.isSome = true then ((unforced s).channel c).exited else (unforced s).channel c := by
  have all := exitChannels_channel (unforced s) c
  rw [show ((unforced s).channel c).defn = (s.channel c).defn by rw [unforced_channel]] at all
  exact all

theorem channelsExited_defn (s : State) (c : Fin 16) : ((channelsExited s).channel c).defn = (s.channel c).defn := by
  rw [channelsExited_channel]
  split
  · change ((unforced s).channel c).defn = _
    rw [unforced_channel]
  · rw [unforced_channel]

/-- The channels' moves, by rising number (R143). -/
theorem channelsExited_ascending {s : State} (canonical : s.canonical = true) : channelsExited s =
    State.each ((List.finRange 16).filter fun c => (s.channel c).defn.isSome) channelLeavesTest (unforced s) := by
  unfold channelsExited
  have kept : Table.wf {} (unforced s).trip.channels = true := by
    have offered := offerModeChange_touches .run { s with mode := .run }
    refine (clearForces_counts (offerModeChange .run { s with mode := .run })).canonical ?_
    unfold State.onlyEvents at offered
    rw [offered]
    exact canonical_channels canonical
  rw [definedChannels_eq kept, exitChannel_eq]
  refine congrArg (fun cs => State.each cs channelLeavesTest (unforced s)) (List.filter_congr fun c _ => ?_)
  rw [unforced_channel]

/-- The forced elements, by rising number (R120). -/
theorem unforced_ascending {s : State} (canonical : s.canonical = true) : unforced s = State.each
    ((List.finRange 64).filter fun e => (s.element e).defn.isSome && (s.element e).forced)
    (fun e u => evaluateElement .countsOnly e (u.setElement e { u.element e with forced := false }))
    (offerModeChange .run { s with mode := .run }) := by
  have offered := offerModeChange_touches .run { s with mode := .run }
  unfold unforced
  unfold State.onlyEvents at offered
  generalize offerModeChange .run { s with mode := .run } = v at *
  have elements : v.elements = s.elements := by rw [offered]
  rw [clearForces_forced (by rw [elements]; exact canonical_elements canonical)]
  unfold State.element
  rw [elements]

/-- The drivers that join stand after those that waited, by rising number (R72, log entry 21). -/
def Annunciator.joinedAfter (before : List (Fin 6)) (a : Annunciator) : Annunciator :=
  { a with waiting := before ++ (List.finRange 6).filter fun d => a.waiting.contains d && !before.contains d }

/-- What leaving TEST gives, after the channels' moves (R135, R141, R143, log entry 21). -/
theorem leaveTest_frame (s : State) : leaveTest s = { s with
    mode := .run
    elements := (unforced s).elements
    events := (channelsExited s).events
    trip := { s.trip with
      channels := (channelsExited s).trip.channels
      waiting := s.trip.waiting ++ (List.finRange 8).filter (fun k => (s.outputModule k).address.isSome &&
        !(hostedBy s k).isEmpty && !s.trip.waiting.contains k)
      bkt0 := lineCondition (channelsExited s) 0
      bkt1 := lineCondition (channelsExited s) 1 }
    ann := (channelsExited s).ann.joinedAfter s.ann.waiting } := by
  have frame := channelsExited_frame s
  have hosts := hostedBy_isEmpty (channelsExited_defn s)
  rw [leaveTest_joined, joined_judged]
  generalize channelsExited s = x at *
  generalize unforced s = f at *
  have trip : x.trip = { s.trip with channels := x.trip.channels } := by rw [frame]
  have outputs (k : Fin 8) : x.outputModule k = s.outputModule k := by unfold State.outputModule; rw [trip]
  simp only [outputs, hosts, show x.trip.waiting = s.trip.waiting by rw [trip]]
  generalize lineCondition x 0 = l0
  generalize lineCondition x 1 = l1
  generalize hl : List.filter _ (List.finRange 8) = l
  have waits (y : State) : (joinAscending s.ann.waiting y) = { y with ann := (joinAscending s.ann.waiting y).ann } := rfl
  rw [waits, joinAscending_ann, Annunciator.joinedAfter]
  rw [frame]

/-- MODE_CHANGE stands before every record of the exit (R149, R152). -/
theorem leaveTest_begins (s : State) : (leaveTest s).beginsWith (offerModeChange .run { s with mode := .run }).events.records := by
  have deliveries := beginsWith_deliveries (offerModeChange .run { s with mode := .run }).events.records
  rw [leaveTest_eq]
  exact (deliveries.exitTest (deliveries.clearForces (.refl _))).of_events (State.onlyPanel.events (joinAscending_panel _ _))

theorem leaveTest_ann (s : State) : (leaveTest s).ann = (channelsExited s).ann.joinedAfter s.ann.waiting := by
  rw [leaveTest_frame]

theorem leaveTest_element (s : State) (e : Fin 64) : (leaveTest s).element e = (unforced s).element e := by
  unfold State.element
  rw [leaveTest_frame]

theorem leaveTest_channel (s : State) (c : Fin 16) : (leaveTest s).channel c = (channelsExited s).channel c := by
  unfold State.channel
  rw [leaveTest_frame]

theorem leaveTest_defined {s : State} {c : Fin 16} {d : ChannelDef} (defined : (s.channel c).defn = some d) :
    ((leaveTest s).channel c).defn = some d ∧
    ((leaveTest s).channel c).state = if 0 < ((leaveTest s).channel c).demand then .tripped else .normal := by
  have same := channelsExited_channel s c
  rw [defined, if_pos (show (some d).isSome = true from rfl), ← leaveTest_channel] at same
  rw [same]
  refine ⟨?_, rfl⟩
  change ((unforced s).channel c).defn = _
  rw [unforced_channel, defined]

theorem leaveTest_outputModule (s : State) (k : Fin 8) : (leaveTest s).outputModule k = s.outputModule k := by
  unfold State.outputModule
  rw [leaveTest_frame]

theorem leaveTest_waiting (s : State) : (leaveTest s).trip.waiting = s.trip.waiting ++ (List.finRange 8).filter (fun k =>
    (s.outputModule k).address.isSome && !(hostedBy s k).isEmpty && !s.trip.waiting.contains k) := by
  rw [leaveTest_frame]

/-- Every module that hosts a channel waits for a TRIP frame (R135, R143). -/
theorem leaveTest_waits {s : State} {k : Fin 8} (present : (s.outputModule k).address.isSome = true) (hosts : hostedBy s k ≠ []) :
    k ∈ (leaveTest s).trip.waiting := by
  rw [leaveTest_waiting, List.mem_append, List.mem_filter]
  by_cases waits : k ∈ s.trip.waiting
  · exact .inl waits
  · refine .inr ⟨List.mem_finRange k, ?_⟩
    simp [present, hosts, waits]

theorem leaveTest_lines (s : State) (l : Fin 2) : (leaveTest s).bktDrivenLow l = true ↔ ∃ c : Fin 16, halfOf c = l ∧
    ((leaveTest s).channel c).state.asserted = true ∧ ((leaveTest s).channel c).confirmation = .missing := by
  have drives : (leaveTest s).bktDrivenLow l = lineCondition (channelsExited s) l := by
    rw [leaveTest_frame]
    match l with
    | 0 => rfl
    | 1 => rfl
  have run : (channelsExited s).mode = .run := by rw [channelsExited_frame]
  simp only [leaveTest_channel]
  rw [drives, lineCondition_iff, and_iff_right run]

/-- An element that is undefined or not forced is left as it stands (R120). -/
theorem leaveTest_leaves {s : State} {e : Fin 64} (leaves : (s.element e).defn = none ∨ (s.element e).forced = false) :
    (leaveTest s).element e = s.element e := by
  have offered : (offerModeChange .run { s with mode := .run }).element e = s.element e := by
    have touches := offerModeChange_touches .run { s with mode := .run }
    unfold State.onlyEvents at touches
    rw [touches]
    rfl
  rw [leaveTest_element, unforced, clearForces_leaves (by rw [offered]; exact leaves), offered]

theorem leaveTest_releases {s : State} {e : Fin 64} (defined : ((leaveTest s).element e).defn ≠ none) :
    ((leaveTest s).element e).forced = false := by
  rw [leaveTest_element] at *
  exact clearForces_releases defined

/-! ### The obligation -/

/-- Settles O55. -/
theorem testIsEnteredAndLeft : Obligations.TestIsEnteredAndLeft := by
  refine ⟨fun src s ready => ⟨fun test => ?_, fun configuring => ?_, fun run asserted => ?_, fun run rest => ?_⟩, fun src s ready test => ?_⟩
  · rw [exec_of_ready (c := .setModeTest src) rfl ready]
    dsimp only
    rw [setModeTest_again test]
    rfl
  · exact exec_refused (c := .setModeTest src) rfl ready (setModeTest_configuring configuring)
  · exact exec_refused (c := .setModeTest src) rfl ready (setModeTest_asserted run asserted)
  · rw [exec_of_ready (c := .setModeTest src) rfl ready]
    dsimp only
    rw [setModeTest_accepts run rest, enterTest_eq]
    rfl
  refine ⟨leaveTest s, ?_, ?_, fun e => leaveTest_releases, fun c d => leaveTest_defined,
    fun k => ⟨leaveTest_outputModule s k, leaveTest_waits⟩, leaveTest_waiting s, leaveTest_lines s, fun e => leaveTest_leaves,
    fun canonical => ?_, leaveTest_begins s⟩
  · rw [exec_of_ready (c := .setModeRun src) rfl ready]
    dsimp only
    rw [setModeRun_test test]
    rfl
  · rw [leaveTest_frame]
  · have ascending := channelsExited_ascending canonical
    rw [unforced_ascending canonical] at ascending
    have elements : (leaveTest s).elements = (unforced s).elements := by rw [leaveTest_frame]
    rw [unforced_ascending canonical] at elements
    refine ⟨elements, ?_, ?_, ?_⟩
    · refine Eq.trans ?_ (congrArg (fun x : State => x.trip.channels) ascending)
      rw [leaveTest_frame]
    · refine Eq.trans ?_ (congrArg State.events ascending)
      rw [leaveTest_frame]
    · exact (leaveTest_ann s).trans (congrArg (fun x : State => x.ann.joinedAfter s.ann.waiting) ascending)

end Sys2Proof.Machine

/-! The consistency check, item by item (R180). -/

namespace Sys2Proof.Machine

variable {s t u : State}

/-! ### The first failure of one item -/

/-- What an item of the check reports: its table and the first index that fails it, or nothing. -/
structure Reports (table : TableId) (fails : Nat → Prop) (r : Option (TableId × Nat)) : Prop where
  first : ∀ k, fails k → (∀ j < k, ¬ fails j) → r = some (table, k)
  passes : (∀ k, ¬ fails k) → r = none

theorem Reports.of_iff {table : TableId} {p q : Nat → Prop} {r : Option (TableId × Nat)} (h : Reports table p r) (same : ∀ k, q k ↔ p k) :
    Reports table q r := by
  rw [show q = p from funext fun k => propext (same k)]
  exact h

/-- A search through the entries in ascending order reports the first that is defined and fails. -/
theorem firstFailure_reports {n : Nat} (table : TableId) (defined fails : Fin n → Bool) :
    Reports table (fun k => ∃ i : Fin n, i.val = k ∧ defined i = true ∧ fails i = true)
      (firstFailure table ((List.finRange n).filter defined) fails) := by
  unfold firstFailure
  rw [List.find?_filter]
  refine ⟨fun k failing before => ?_, fun clean => ?_⟩
  · obtain ⟨i, rfl, here, fails_i⟩ := failing
    have found : (List.finRange n).find? (fun j => decide (defined j = true ∧ fails j = true)) = some i := by
      rw [List.find?_eq_some_iff_getElem]
      refine ⟨decide_eq_true ⟨here, fails_i⟩, i.val, by rw [List.length_finRange]; exact i.isLt, by simp, fun j less => ?_⟩
      rw [Bool.not_eq_true', decide_eq_false_iff_not]
      exact fun both => before j less ⟨_, by simp, both⟩
    rw [found]
    rfl
  · rw [Option.map_eq_none_iff, List.find?_eq_none]
    intro i _ both
    exact clean i.val ⟨i, rfl, of_decide_eq_true both⟩

/-- The first item that reports gives the report of the whole check. -/
theorem findSome_of_first {items : List (TableId × (Nat → Prop))} {rs : List (Option (TableId × Nat))}
    (reports : List.Forall₂ (fun x r => Reports x.1 x.2 r) items rs) {n : Nat} {table : TableId} {fails : Nat → Prop} {k : Nat}
    (item : items[n]? = some (table, fails)) (failing : fails k) (first : ∀ j < k, ¬ fails j)
    (before : ∀ x ∈ items.take n, ∀ j, ¬ x.2 j) : rs.findSome? (fun x => x) = some (table, k) := by
  induction reports generalizing n with
  | nil => cases item
  | @cons x r items rs head tail ih =>
    cases n with
    | zero =>
      cases item
      rw [head.first k failing first, List.findSome?_cons]
    | succ n =>
      rw [head.passes (before x (by simp)), List.findSome?_cons]
      exact ih item fun y hy => before y (List.mem_cons_of_mem x hy)

theorem findSome_of_none {items : List (TableId × (Nat → Prop))} {rs : List (Option (TableId × Nat))}
    (reports : List.Forall₂ (fun x r => Reports x.1 x.2 r) items rs) (clean : ∀ x ∈ items, ∀ k, ¬ x.2 k) :
    rs.findSome? (fun x => x) = none := by
  induction reports with
  | nil => rfl
  | @cons x r items rs head tail ih =>
    rw [head.passes (clean x (by simp)), List.findSome?_cons]
    exact ih fun y hy => clean y (List.mem_cons_of_mem x hy)

/-! ### The nine items -/

theorem definedPoints_eq (canonical : s.canonical = true) :
    s.definedPoints = (List.finRange 1024).filter fun p => (s.point p).defn.isSome :=
  Table.keys_filter_eq (canonical_points canonical) fun _ => point_listed

theorem enabledModules_eq (canonical : s.canonical = true) :
    s.enabledModules = (List.finRange 16).filter fun m => (s.inputModule m).defn.isSome :=
  Table.keys_filter_eq (canonical_modules canonical) fun m defined initial => by
    rw [State.inputModule, initial] at defined
    cases defined

theorem definedWindows_eq (canonical : s.canonical = true) :
    s.definedWindows = (List.finRange 192).filter fun w => (s.window w).defn.isSome :=
  Table.keys_filter_eq (canonical_panelTables canonical).1 fun w defined initial => by
    rw [State.window, initial] at defined
    cases defined

theorem namesUnknown_iff (s : State) (w : Option (Fin 192)) : namesUnknown s w = true ↔ ∃ x, w = some x ∧ (s.window x).defn = none := by
  unfold namesUnknown windowKnown
  cases w with
  | none => simp
  | some x => simp

theorem pointPlaced_iff (s : State) (p : Fin 1024) : pointPlaced s p = true ↔
    ∃ d, (s.inputModule (moduleOf p)).defn = some d ∧ p.val % 64 < d.channels := by
  unfold pointPlaced
  cases (s.inputModule (moduleOf p)).defn with
  | none => simp
  | some d => simp

theorem targetBroken_of_defined {c : Fin 16} {d : ChannelDef} (defined : (s.channel c).defn = some d) :
    targetBroken s c = true ↔ (s.outputModule d.outputModule).address = none := by
  unfold targetBroken
  rw [defined]
  exact decide_eq_true_iff

theorem targetBroken_iff (s : State) (c : Fin 16) : targetBroken s c = true ↔
    ∀ x, (s.channel c).defn = some x → (s.outputModule x.outputModule).address = none := by
  rcases Option.eq_none_or_eq_some (s.channel c).defn with undefined | ⟨d, defined⟩
  · unfold targetBroken
    rw [undefined]
    exact ⟨fun _ => nofun, fun _ => rfl⟩
  · rw [targetBroken_of_defined defined, defined]
    exact ⟨fun h x same => by cases same; exact h, fun h => h d rfl⟩

theorem elementFails_of_defined {e : Fin 64} {d : ElementDef} (defined : (s.element e).defn = some d) (f : ElementDef → Bool) :
    elementFails s f e = f d := by
  unfold elementFails
  rw [defined]

theorem pointWindowBroken_of_defined {p : Fin 1024} {d : PointDef} (defined : (s.point p).defn = some d) :
    pointWindowBroken s p = namesUnknown s d.window := by
  unfold pointWindowBroken
  rw [defined]

theorem moduleWindowBroken_of_defined {m : Fin 16} {d : ModuleDef} (defined : (s.inputModule m).defn = some d) :
    moduleWindowBroken s m = namesUnknown s d.window := by
  unfold moduleWindowBroken
  rw [defined]

theorem channelWindowBroken_of_defined {c : Fin 16} {d : ChannelDef} (defined : (s.channel c).defn = some d) :
    channelWindowBroken s c = namesUnknown s d.window := by
  unfold channelWindowBroken
  rw [defined]

theorem windowGroupBroken_of_defined {w : Fin 192} {d : WindowDef} (defined : (s.window w).defn = some d) :
    windowGroupBroken s w = decide ((s.group d.group).defn = none) := by
  unfold windowGroupBroken
  rw [defined]

/-- An item that asks for a definition reports the first entry whose definition fails it. -/
theorem definedFailure_reports {n : Nat} {α : Type} (table : TableId) (defn : Fin n → Option α) {fails : Fin n → Bool}
    {bad : Fin n → α → Prop} (tests : ∀ i d, defn i = some d → (fails i = true ↔ bad i d)) :
    Reports table (fun k => ∃ (i : Fin n) (d : α), i.val = k ∧ defn i = some d ∧ bad i d)
      (firstFailure table ((List.finRange n).filter fun i => (defn i).isSome) fails) := by
  refine (firstFailure_reports table _ fails).of_iff fun k => exists_congr fun i => ?_
  rcases Option.eq_none_or_eq_some (defn i) with undefined | ⟨d, defined⟩
  · simp [undefined]
  · simp [defined, tests i d defined]

/-- The nine items of R180, each with the table it reports and the indices that fail it. -/
def checkItems (s : State) : List (TableId × (Nat → Prop)) :=
  let placed (p : Fin 1024) : Prop := ∃ d, (s.inputModule (moduleOf p)).defn = some d ∧ p.val % 64 < d.channels
  let unknown (w : Option (Fin 192)) : Prop := ∃ x, w = some x ∧ (s.window x).defn = none
  let unaddressed (d : ChannelDef) : Prop := (s.outputModule d.outputModule).address = none
  [ (.point, fun k => ∃ p : Fin 1024, p.val = k ∧ (s.point p).defn ≠ none ∧ ¬ placed p),
    (.element, fun k => ∃ (e : Fin 64) (d : ElementDef), e.val = k ∧ (s.element e).defn = some d ∧
      ∃ i ∈ d.inputs, (s.point i.point).defn = none),
    (.element, fun k => ∃ (e : Fin 64) (d : ElementDef), e.val = k ∧ (s.element e).defn = some d ∧
      ∃ c ∈ d.targets, ∀ x, (s.channel c).defn = some x → unaddressed x),
    (.channel, fun k => ∃ (c : Fin 16) (d : ChannelDef), c.val = k ∧ (s.channel c).defn = some d ∧ unaddressed d),
    (.point, fun k => ∃ (p : Fin 1024) (d : PointDef), p.val = k ∧ (s.point p).defn = some d ∧ unknown d.window),
    (.module, fun k => ∃ (m : Fin 16) (d : ModuleDef), m.val = k ∧ (s.inputModule m).defn = some d ∧ unknown d.window),
    (.channel, fun k => ∃ (c : Fin 16) (d : ChannelDef), c.val = k ∧ (s.channel c).defn = some d ∧ unknown d.window),
    (.settings, fun k => k = 0 ∧ unknown s.settings.systemWindow),
    (.window, fun k => ∃ (w : Fin 192) (d : WindowDef), w.val = k ∧ (s.window w).defn = some d ∧
      (s.group d.group).defn = none) ]

theorem settingsFailure_reports (s : State) : Reports .settings
    (fun k => k = 0 ∧ ∃ x, s.settings.systemWindow = some x ∧ (s.window x).defn = none)
    (if namesUnknown s s.settings.systemWindow then some (.settings, 0) else none) := by
  refine ⟨fun k failing _ => ?_, fun clean => if_neg fun unknown => clean 0 ⟨rfl, (namesUnknown_iff s _).mp unknown⟩⟩
  rw [if_pos ((namesUnknown_iff s _).mpr failing.2), failing.1]

/-- Each item of the model's check reports the first entry that fails it. -/
theorem consistencyFailures_report (canonical : s.canonical = true) :
    List.Forall₂ (fun x r => Reports x.1 x.2 r) (checkItems s) (consistencyFailures s) := by
  unfold consistencyFailures
  rw [definedPoints_eq canonical, definedElements_eq (canonical_elements canonical), definedChannels_eq (canonical_channels canonical),
    enabledModules_eq canonical, definedWindows_eq canonical]
  have inputs := definedFailure_reports .element (fun e => (s.element e).defn) (bad := fun _ d => ∃ i ∈ d.inputs, (s.point i.point).defn = none)
    (fails := elementFails s fun d => d.inputs.any fun i => (s.point i.point).defn.isNone)
    (fun e d defined => by rw [elementFails_of_defined defined, List.any_eq_true]; simp)
  have targets := definedFailure_reports .element (fun e => (s.element e).defn)
    (bad := fun _ d => ∃ c ∈ d.targets, ∀ x, (s.channel c).defn = some x → (s.outputModule x.outputModule).address = none)
    (fails := elementFails s fun d => d.targets.any (targetBroken s))
    (fun e d defined => by rw [elementFails_of_defined defined, List.any_eq_true]; simp only [targetBroken_iff])
  have placed := (firstFailure_reports .point (fun p => (s.point p).defn.isSome) (fun p => !pointPlaced s p)).of_iff
    (q := fun k => ∃ p : Fin 1024, p.val = k ∧ (s.point p).defn ≠ none ∧
      ¬ ∃ d, (s.inputModule (moduleOf p)).defn = some d ∧ p.val % 64 < d.channels)
    (fun k => exists_congr fun p => by rw [← pointPlaced_iff, Option.isSome_iff_ne_none, Bool.not_eq_true', Bool.not_eq_true])
  exact .cons placed <| .cons inputs <| .cons targets <|
    .cons (definedFailure_reports .channel (fun c => (s.channel c).defn) fun _ _ => targetBroken_of_defined) <|
    .cons (definedFailure_reports .point (fun p => (s.point p).defn) fun _ _ defined => by
      rw [pointWindowBroken_of_defined defined]; exact namesUnknown_iff s _) <|
    .cons (definedFailure_reports .module (fun m => (s.inputModule m).defn) fun _ _ defined => by
      rw [moduleWindowBroken_of_defined defined]; exact namesUnknown_iff s _) <|
    .cons (definedFailure_reports .channel (fun c => (s.channel c).defn) fun _ _ defined => by
      rw [channelWindowBroken_of_defined defined]; exact namesUnknown_iff s _) <|
    .cons (settingsFailure_reports s) <|
    .cons (definedFailure_reports .window (fun w => (s.window w).defn) fun _ _ defined => by
      rw [windowGroupBroken_of_defined defined]; exact decide_eq_true_iff) .nil

/-- A part in which no entry fails an item is consistent (R180). -/
theorem consistencyFailure_of_clean (canonical : s.canonical = true) (clean : ∀ x ∈ checkItems s, ∀ k, ¬ x.2 k) :
    consistencyFailure s = none := findSome_of_none (consistencyFailures_report canonical) clean

/-- The first failing entry of the first failing item is reported (R180). -/
theorem consistencyFailure_of_first (canonical : s.canonical = true) {n : Nat} {table : TableId} {fails : Nat → Prop} {k : Nat}
    (item : (checkItems s)[n]? = some (table, fails)) (failing : fails k) (first : ∀ j < k, ¬ fails j)
    (before : ∀ x ∈ (checkItems s).take n, ∀ j, ¬ x.2 j) : consistencyFailure s = some (table, k) :=
  findSome_of_first (consistencyFailures_report canonical) item failing first before

end Sys2Proof.Machine

/-! The entries into FAST of the entry into RUN: what the windows, the horns and the PHASE wait hold on the way (R61 to R64, R79, R95, R99). -/

namespace Sys2Proof.Machine

variable {s t u : State}

/-! ### What the entries touch -/

/-- Only modules, points, windows, horns and what waits differ. -/
def State.onlyLights (s t : State) : Prop := t = { s with
  modules := t.modules
  points := t.points
  ann := { s.ann with
    windows := t.ann.windows
    horns := t.ann.horns
    waiting := t.ann.waiting
    phaseWaiting := t.ann.phaseWaiting } }

namespace State.onlyLights

theorem refl (s : State) : s.onlyLights s := rfl

theorem trans (h : s.onlyLights t) (k : t.onlyLights u) : s.onlyLights u := by
  unfold State.onlyLights at *
  rw [k, h]

theorem group (h : s.onlyLights t) (g : Fin 32) : t.group g = s.group g := by
  unfold State.onlyLights at h
  rw [h]
  rfl

theorem mode (h : s.onlyLights t) : t.mode = s.mode := by
  unfold State.onlyLights at h
  rw [h]

end State.onlyLights

theorem setWindow_lights (w : Fin 192) (v : Window) (s : State) : s.onlyLights (s.setWindow w v) := rfl

theorem joinDriver_lights (d : Fin 6) (s : State) : s.onlyLights (joinDriver d s) := by
  unfold joinDriver
  split
  · rfl
  · rfl

theorem redisplay_lights (w : Fin 192) (s : State) : s.onlyLights (redisplay w s) := by
  unfold redisplay
  split
  · rfl
  · exact (setWindow_lights w _ s).trans (joinDriver_lights _ _)

theorem redisplayBoth_lights (v w : Fin 192) (s : State) : s.onlyLights (redisplayBoth v w s) := by
  unfold redisplayBoth
  split
  · exact (redisplay_lights v s).trans (redisplay_lights w _)
  · exact (redisplay_lights w s).trans (redisplay_lights v _)

theorem redisplayAll_lights (s : State) : s.onlyLights (redisplayAll s) := by
  rw [redisplayAll_eq]
  rfl

theorem redisplayAll_phase (s : State) : (redisplayAll s).ann.phaseWaiting = s.ann.phaseWaiting := by
  rw [redisplayAll_eq]

theorem hornEnter_lights (o : Option (Fin 4)) (s : State) : s.onlyLights (hornEnter o s) := by
  cases o with
  | none => rfl
  | some h =>
    unfold hornEnter putHorn
    dsimp only
    split
    · rfl
    · rfl

/-! ### The entries -/

/-- The windows in FAST for a horn (R95). -/
def State.entries (s : State) (h : Fin 4) : Nat := (List.finRange 192).countP (fastFor s h)

/-- A horn that `n` windows entered (R95). -/
def Horn.entered (n : Nat) (v : Horn) : Horn := if n = 0 then v else { v with state := .sounding, fastCount := v.fastCount + n }

theorem Horn.entered_again (n : Nat) (v : Horn) :
    { v.entered n with state := .sounding, fastCount := (v.entered n).fastCount + 1 } = v.entered (n + 1) := by
  unfold Horn.entered
  cases n with
  | zero => rfl
  | succ n => rfl

theorem Horn.entered_state (n : Nat) (v : Horn) : (v.entered n).state ≠ .sounding ↔ n = 0 ∧ v.state ≠ .sounding := by
  unfold Horn.entered
  split
  · rename_i none; rw [and_iff_right none]
  · rename_i some; exact ⟨fun silent => absurd rfl silent, fun both => absurd both.1 some⟩

/-- On the way into RUN from `s`: every window is DARK or has entered FAST by an active source, and each entry was handed to its horn. -/
structure State.enters (s u : State) : Prop where
  frame : s.onlyLights u
  window : ∀ w, u.window w = { s.window w with
    state := (u.window w).state
    count := (u.window w).count
    shown := (u.window w).shown }
  lit : ∀ w, (u.window w).state = .dark ∨ (u.window w).state = .fast ∧ (s.window w).defn.isSome = true ∧ 0 < (u.window w).count
  horn : ∀ h, u.horn h = (s.horn h).entered (u.entries h)
  phase : u.ann.phaseWaiting = true ↔ s.ann.phaseWaiting = true ∨ ∃ h, 0 < u.entries h ∧ (s.horn h).state ≠ .sounding

theorem entries_of_sequence (k : u.sameSequence t) (h : Fin 4) : t.entries h = u.entries h := by
  unfold State.entries
  rw [show fastFor t h = fastFor u h from funext fun w => fastFor_congr (k.state w) (k.hornOf w)]

/-- The windows all DARK, no horn is entered. -/
theorem State.enters.start (dark : ∀ w, (s.window w).state = .dark) : s.enters s := by
  have idle (h : Fin 4) : s.entries h = 0 :=
    List.countP_eq_zero.mpr fun w _ fast => nomatch (dark w).symm.trans ((fastFor_iff s h w).mp fast).1
  refine ⟨.refl s, fun _ => rfl, fun w => .inl (dark w), fun h => ?_, ?_⟩
  · rw [idle]; rfl
  · simp [idle]

namespace State.enters

variable (h : s.enters u)
include h

theorem defn (w : Fin 192) : (u.window w).defn = (s.window w).defn := by rw [h.window]

theorem hornOf (w : Fin 192) : hornOfWindow u w = hornOfWindow s w :=
  hornOfWindow_congr (h.defn w) fun _ _ => by rw [h.frame.group]

/-- Where the windows' sequence, the horns and the PHASE wait stay, the entries stay. -/
theorem of_shown (k : u.onlyShown t) (frame : u.onlyLights t) (phase : t.ann.phaseWaiting = u.ann.phaseWaiting) : s.enters t := by
  have same := entries_of_sequence k.sequence
  refine ⟨h.frame.trans frame, fun w => by rw [k.window, h.window], fun w => ?_, fun x => ?_, ?_⟩
  · rw [k.sequence.state, k.sequence.count]; exact h.lit w
  · rw [k.sequence.horn, same]; exact h.horn x
  · simp only [phase, same]; exact h.phase

theorem modules (ms : Table 16 InputModule) : s.enters { u with modules := ms } :=
  h.of_shown ⟨rfl, fun _ => rfl, rfl, rfl⟩ rfl rfl

theorem counted (w : Fin 192) : s.enters (countActivation w u) := by
  have counts (j : Fin 192) := countActivation_window w j u
  have same (x : Fin 4) : (countActivation w u).entries x = u.entries x := by
    unfold State.entries
    rw [show fastFor (countActivation w u) x = fastFor u x from funext fun j => ?_]
    refine fastFor_congr (countActivation_state w j u) (hornOfWindow_congr ?_ fun _ _ => rfl)
    rw [counts]
    split
    · rename_i at_w; rw [at_w]
    · rfl
  refine ⟨h.frame.trans (setWindow_lights w _ u), fun j => ?_, fun j => ?_, fun x => ?_, ?_⟩
  · rw [counts]
    split
    · rename_i at_w; rw [at_w, h.window]
    · exact h.window j
  · rw [counts]
    split
    · rename_i at_w; rw [at_w]; exact (h.lit w).imp id fun lit => ⟨lit.1, lit.2.1, Nat.succ_pos _⟩
    · exact h.lit j
  · rw [same]; exact h.horn x
  · simp only [same]; exact h.phase

/-- A defined window with an active source may enter FAST, once (R64, R79). -/
theorem enterFast {w : Fin 192} (defined : (s.window w).defn.isSome = true) (active : 0 < (u.window w).count) :
    s.enters (Machine.enterFast w u) := by
  have window := fun j => enterFast_window w j u
  by_cases fast : (u.window w).state = .fast
  · rw [Machine.enterFast, if_pos fast]; exact h
  have entered : Machine.enterFast w u = hornEnter (hornOfWindow u w) (u.setWindow w { u.window w with state := .fast }) := if_neg fast
  have more (x : Fin 4) : (Machine.enterFast w u).entries x = u.entries x + (decide (hornOfWindow u w = some x)).toNat := by
    rw [entered]
    have moved := countP_of_one (p := fastFor u x)
      (q := fastFor (hornEnter (hornOfWindow u w) (u.setWindow w { u.window w with state := .fast })) x)
      (List.nodup_finRange 192) (List.mem_finRange w) (fun j away => by rw [hornEnter_fastFor, setWindow_fastFor_of_ne away])
    rw [fastFor_of_left fast, hornEnter_fastFor, setState_fastFor] at moved
    exact moved
  have lights : u.onlyLights (Machine.enterFast w u) := by
    rw [entered]
    exact (setWindow_lights w _ u).trans (hornEnter_lights _ _)
  refine ⟨h.frame.trans lights, fun j => ?_, fun j => ?_, fun x => ?_, ?_⟩
  · rw [window]
    split
    · rename_i at_w; rw [at_w, h.window]
    · exact h.window j
  · rw [window]
    split
    · rename_i at_w; rw [at_w]; exact .inr ⟨rfl, defined, active⟩
    · exact h.lit j
  · rw [more, entered]
    cases named : hornOfWindow u w with
    | none => exact h.horn x
    | some y =>
      rw [hornEnter_horn]
      by_cases same : x = y
      · subst same
        rw [if_pos rfl, decide_eq_true rfl]
        change ({ u.horn x with state := .sounding, fastCount := (u.horn x).fastCount + 1 } : Horn) = _
        rw [h.horn x]
        exact Horn.entered_again _ _
      · have other : some y ≠ some x := fun eq => same (Option.some.inj eq).symm
        rw [if_neg same, decide_eq_false other]
        exact h.horn x
  · simp only [more]
    rw [entered]
    cases named : hornOfWindow u w with
    | none => exact h.phase
    | some y =>
      refine (putHorn_phase y _ _).trans ?_
      change u.ann.phaseWaiting = true ∨ (u.horn y).state ≠ .sounding ↔ _
      rw [h.phase, h.horn y, Horn.entered_state]
      constructor
      · rintro ((phase | ⟨x, some, silent⟩) | ⟨_, silent⟩)
        · exact .inl phase
        · exact .inr ⟨x, by omega, silent⟩
        · exact .inr ⟨y, by rw [decide_eq_true rfl]; exact Nat.succ_pos _, silent⟩
      · rintro (phase | ⟨x, some, silent⟩)
        · exact .inl (.inl phase)
        · by_cases before : 0 < u.entries x
          · exact .inl (.inr ⟨x, before, silent⟩)
          · have same : y = x := by
              by_contra other
              rw [decide_eq_false fun eq => other (Option.some.inj eq)] at some
              exact before some
            rw [same]
            exact .inr ⟨Nat.eq_zero_of_not_pos before, silent⟩

/-- A standing activation (R62, R64). -/
theorem activate (w : Fin 192) : s.enters (activate w none u) := by
  have counted := h.counted w
  cases runs : sequenceRuns u w with
  | false =>
    rw [activate_of_rest runs]
    exact counted.of_shown (redisplay_onlyShown w _) (redisplay_lights w _) (redisplay_phase w _)
  | true =>
    rw [activate_of_runs runs]
    have defined : (s.window w).defn.isSome = true := by
      rw [← h.defn]
      exact Option.isSome_iff_ne_none.mpr ((sequenceRuns_iff u w).mp runs).2
    have entered : s.enters (activated w u) :=
      counted.enterFast defined (by rw [countActivation_window, if_pos rfl]; exact Nat.succ_pos _)
    exact entered.of_shown (redisplayBoth_onlyShown _ w _) (redisplayBoth_lights _ w _) (redisplayBoth_phase _ w _)

theorem activateAt (name : Option (Fin 192)) : s.enters (activateAt name none u) := by
  cases name with
  | none => exact h
  | some w => exact h.activate w

/-- The windows with sources enter FAST (R79). -/
theorem entriesIntoFast : s.enters (entriesIntoFast u) := by
  refine State.each_keeps_on (P := fun v => s.enters v) (fun w v listed hv => ?_) h
  have defined := (mem_definedWindows u w).mp listed
  rw [h.defn] at defined
  split
  · rename_i active; exact hv.enterFast defined active
  · exact hv

/-- What the Annunciation Unit's entry into RUN leaves (R79): a defined window with an active source is FAST. -/
theorem annEnterRun : s.enters (annEnterRun u) :=
  h.entriesIntoFast.of_shown (redisplayAll_onlyShown _) (redisplayAll_lights _) (redisplayAll_phase _)

/-- After the entry exactly the defined windows with active sources are FAST. -/
theorem annEnterRun_state (w : Fin 192) : ((Machine.annEnterRun u).window w).state =
    if (s.window w).defn.isSome && decide (0 < (u.window w).count) then .fast else .dark := by
  have lit := h.lit w
  have after : ((Machine.annEnterRun u).window w).state =
      (if (u.window w).defn.isSome = true then (u.window w).alarmed else u.window w).state := by
    rw [annEnterRun_eq, (redisplayAll_onlyShown _).sequence.state, entriesIntoFast_window]
  rw [after, h.defn]
  unfold Window.alarmed
  by_cases defined : (s.window w).defn.isSome = true
  · rw [if_pos defined, defined, Bool.true_and]
    by_cases active : 0 < (u.window w).count
    · rw [if_pos active, decide_eq_true active]; rfl
    · rw [if_neg active, decide_eq_false active]
      exact lit.resolve_right fun fast => active fast.2.2
  · rw [if_neg defined, Bool.not_eq_true _ |>.mp defined, Bool.false_and]
    exact lit.resolve_right fun fast => defined fast.2.1

end State.enters

theorem annEnterRun_count (w : Fin 192) (u : State) : ((annEnterRun u).window w).count = (u.window w).count := by
  rw [annEnterRun_eq, (redisplayAll_onlyShown _).sequence.count, entriesIntoFast_window]
  unfold Window.alarmed
  split
  · split
    · rfl
    · rfl
  · rfl

/-! ### The points announced (R23) -/

/-- A point with this definition and announced condition is an active source of the window (R9). -/
def sourceActive (w : Fin 192) (defn : Option PointDef) (announced : Condition) : Bool :=
  match defn with
  | some d => decide (d.window = some w ∧ announced = .alarm)
  | none => false

/-- The point is announced in ALARM and names the window. -/
def alarmsAt (s : State) (w : Fin 192) (p : Fin 1024) : Bool := sourceActive w (s.point p).defn (s.point p).announced

theorem alarmsAt_of_defined {p : Fin 1024} {d : PointDef} (defined : (s.point p).defn = some d) (w : Fin 192) :
    alarmsAt s w p = decide (d.window = some w ∧ (s.point p).announced = .alarm) := by
  unfold alarmsAt
  rw [defined]
  rfl

theorem alarmsAt_congr {p : Fin 1024} (same : t.point p = s.point p) (w : Fin 192) : alarmsAt t w p = alarmsAt s w p := by
  unfold alarmsAt
  rw [same]

/-- The points announced in ALARM that name a window. -/
def State.alarms (s : State) (w : Fin 192) : Nat := (List.finRange 1024).countP (alarmsAt s w)

/-- On the way into RUN from `s`: each point as it was or announced, and one active source more for each point in ALARM. -/
structure State.announces (s u : State) : Prop extends s.enters u where
  point : ∀ p, u.point p = s.point p ∨ u.point p = (s.point p).reannounced .run
  count : ∀ w, (u.window w).count = (s.window w).count + u.alarms w

theorem State.announces.start (dark : ∀ w, (s.window w).state = .dark)
    (normal : ∀ p d, (s.point p).defn = some d → (s.point p).announced = .normal) : s.announces s where
  toenters := .start dark
  point := fun _ => .inl rfl
  count := fun w => by
    have quiet : s.alarms w = 0 := List.countP_eq_zero.mpr fun p _ alarms => by
      rcases Option.eq_none_or_eq_some (s.point p).defn with undefined | ⟨d, defined⟩
      · unfold alarmsAt at alarms
        rw [undefined] at alarms
        cases alarms
      · rw [alarmsAt_of_defined defined, normal p d defined] at alarms
        exact nomatch (of_decide_eq_true alarms).2
    rw [quiet]
    rfl

/-- The activation that a point's change to ALARM delivers (R9, R23). -/
theorem reannounce_rises {p : Fin 1024} {d : PointDef} (run : s.mode = .run) (defined : (s.point p).defn = some d)
    (normal : (s.point p).announced = .normal) (rises : d.announce (s.point p) .normal = .alarm) :
    reannounce .standing p s = activateAt d.window none (s.setPoint p { s.point p with announced := .alarm }) := by
  unfold reannounce
  rw [defined, normal]
  dsimp only
  rw [rises, if_neg]
  · rfl
  · rw [run]; rintro (h | h) <;> cases h

theorem reannounce_rests {p : Fin 1024} (rests : ∀ d, (s.point p).defn = some d → d.announce (s.point p) (s.point p).announced = (s.point p).announced)
    (how : Announcing) : reannounce how p s = s := by
  unfold reannounce
  split
  · rename_i d defined
    exact if_pos (.inr (rests d defined))
  · rfl

/-- A point's step keeps the count. -/
theorem State.announces.reannounce (h : s.announces u) (run : s.mode = .run)
    (normal : ∀ p d, (s.point p).defn = some d → (s.point p).announced = .normal) (p : Fin 1024) : s.announces (reannounce .standing p u) := by
  have running : u.mode = .run := by rw [h.frame.mode, run]
  by_cases rests : ∀ d, (u.point p).defn = some d → d.announce (u.point p) (u.point p).announced = (u.point p).announced
  · rw [reannounce_rests rests]; exact h
  simp only [not_forall] at rests
  obtain ⟨d, defined, changes⟩ := rests
  have before : u.point p = s.point p := (h.point p).resolve_right fun after => changes (by
    rw [after] at defined ⊢
    exact ((Point.reannounced_announcedIn (m := .run) nofun (s.point p) d defined).2 nofun).symm)
  have was : (u.point p).announced = .normal := by rw [before] at defined ⊢; exact normal p d defined
  have rises : d.announce (u.point p) .normal = .alarm := by
    rw [was] at changes
    cases value : d.announce (u.point p) .normal with
    | alarm => rfl
    | normal => exact absurd value changes
  have turns := reannounce_turns .standing p u
  rw [reannounce_rises running defined was rises] at turns ⊢
  have placed : s.enters (u.setPoint p { u.point p with announced := .alarm }) := h.toenters.of_shown ⟨rfl, fun _ => rfl, rfl, rfl⟩ rfl rfl
  refine ⟨placed.activateAt d.window, fun j => ?_, fun w => ?_⟩
  · rw [turns.2]
    split
    · rename_i at_p; rw [at_p, ← before, running]; exact .inr rfl
    · exact h.point j
  · have sources := activateAt_count d.window w (u.setPoint p { u.point p with announced := .alarm })
    generalize activateAt d.window none (u.setPoint p { u.point p with announced := .alarm }) = v at *
    have more := countP_of_one (p := alarmsAt u w) (q := alarmsAt v w) (w := p) (List.nodup_finRange 1024) (List.mem_finRange p)
      fun j away => alarmsAt_congr (by rw [turns.2, if_neg away]) w
    have announced : (v.point p).announced = .alarm := by
      rw [turns.2, if_pos rfl, Point.reannounced_of_defined defined, running]
      exact was ▸ rises
    rw [alarmsAt_of_defined defined, was, decide_eq_false (fun both => nomatch both.2),
      alarmsAt_of_defined (d := d) (by rw [turns.2, if_pos rfl, Point.reannounced_defn]; exact defined), announced] at more
    rw [sources]
    change (u.window w).count + _ = _
    rw [h.count w]
    unfold State.alarms
    by_cases named : d.window = some w
    · rw [decide_eq_true ⟨named, rfl⟩] at more
      rw [if_pos named]
      simp only [Bool.toNat_false, Bool.toNat_true] at more
      omega
    · rw [decide_eq_false fun both => named both.1] at more
      rw [if_neg named]
      simp only [Bool.toNat_false] at more
      omega

/-- The whole of the points' announcement (R23). -/
theorem State.announces.pointsToRun (dark : ∀ w, (s.window w).state = .dark) (run : s.mode = .run)
    (normal : ∀ p d, (s.point p).defn = some d → (s.point p).announced = .normal) :
    { s with decay := some s.settings.chatterInterval }.announces (pointsToRun s) :=
  State.each_keeps (P := fun u => State.announces { s with decay := some s.settings.chatterInterval } u)
    (fun p _ h => h.reannounce run normal p) s.definedPoints _ (.start (s := { s with decay := some s.settings.chatterInterval }) dark normal)

end Sys2Proof.Machine

/-! The entry into RUN as a whole: what each of its steps touches (R23, R38, R43, R79, R122, R141, R181). -/

namespace Sys2Proof.Machine

variable {s t u : State}

/-! ### Output modules stay -/

/-- No output module differs. -/
def State.keepsOutputs (s t : State) : Prop := t.trip.outputs = s.trip.outputs

theorem State.keepsOutputs.refl (s : State) : s.keepsOutputs s := rfl
theorem State.keepsOutputs.trans (h : s.keepsOutputs t) (k : t.keepsOutputs u) : s.keepsOutputs u := Eq.trans k h

theorem State.onlyAnnunciation.keepsOutputs (h : s.onlyAnnunciation t) : s.keepsOutputs t := by
  unfold State.onlyAnnunciation at h
  unfold State.keepsOutputs
  rw [h]

theorem setChannel_outputs (c : Fin 16) (v : Channel) (s : State) : s.keepsOutputs (s.setChannel c v) := rfl

theorem joinTrip_outputs (k : Fin 8) (s : State) : s.keepsOutputs (joinTrip k s) := by
  unfold joinTrip
  split
  · rfl
  · rfl

theorem judgeLine_outputs (l : Fin 2) (s : State) : s.keepsOutputs (judgeLine l s) := by
  unfold judgeLine
  split
  · rfl
  · rfl

theorem channelMoved_outputs (kind : RecordKind) (c : Fin 16) (v : Channel) (s : State) :
    s.keepsOutputs (channelRecord kind c (s.setChannel c v)) :=
  (setChannel_outputs c v s).trans (channelRecord_touches kind c _).ann.keepsOutputs

theorem outputChanged_outputs (c : Fin 16) (asserted : Bool) (s : State) : s.keepsOutputs (outputChanged c asserted s) := by
  unfold outputChanged
  split
  · dsimp only
    refine .trans ?_ (judgeLine_outputs _ _)
    split
    · exact (joinTrip_outputs _ s).trans (activateAt_touches _ _ _).keepsOutputs
    · exact (joinTrip_outputs _ s).trans (clearAt_touches _ _).keepsOutputs
  · exact .refl s

theorem gainDemand_outputs (c : Fin 16) (s : State) : s.keepsOutputs (gainDemand c s) := by
  unfold gainDemand
  split
  · exact (channelMoved_outputs _ c _ s).trans (outputChanged_outputs c true _)
  · exact .refl s
  · exact channelMoved_outputs _ c _ s

theorem loseDemand_outputs (c : Fin 16) (s : State) : s.keepsOutputs (loseDemand c s) := by
  unfold loseDemand
  split
  · split
    · exact channelMoved_outputs _ c _ s
    · exact (channelMoved_outputs _ c _ s).trans (outputChanged_outputs c false _)
  · exact .refl s

theorem deliverDemand_outputs (taking : Taking) (asserted : Bool) (c : Fin 16) (s : State) :
    s.keepsOutputs (deliverDemand taking asserted c s) := by
  have counted := setChannel_outputs c { s.channel c with
    demand := if asserted then (s.channel c).demand + 1 else (s.channel c).demand - 1 } s
  have moved (t : State) (h : s.keepsOutputs t) : s.keepsOutputs (if taking = .countsOnly ∨ (t.channel c).defn = none then t
      else if asserted ∧ (s.channel c).demand = 0 then gainDemand c t
      else if ¬ asserted ∧ (s.channel c).demand = 1 then loseDemand c t else t) := by
    split
    · exact h
    split
    · exact h.trans (gainDemand_outputs c t)
    split
    · exact h.trans (loseDemand_outputs c t)
    · exact h
  exact moved _ counted

theorem elementsToRun_outputs (s : State) : s.keepsOutputs (elementsToRun s) :=
  State.each_rel State.keepsOutputs.refl State.keepsOutputs.trans
    (evaluateElement_rel State.keepsOutputs.refl State.keepsOutputs.trans (fun _ _ _ => rfl) (fun h => h.ann.keepsOutputs)
      (deliverDemand_outputs .moves)) _ s

/-! ### Points and modules -/

theorem pointsToRun_frame (s : State) : pointsToRun s = { s with
    decay := some s.settings.chatterInterval
    points := (pointsToRun s).points
    ann := (pointsToRun s).ann } := by
  refine State.each_rel (R := fun s t : State => t = { s with points := t.points, ann := t.ann }) (fun _ => rfl) (fun {s t u} h k => ?_)
    reannounce_standing s.definedPoints { s with decay := some s.settings.chatterInterval }
  rw [k, h]

theorem pointsToRun_point (run : s.mode = .run) (p : Fin 1024) : (pointsToRun s).point p = (s.point p).reannounced .run := by
  have all := State.each_updates_in (get := State.point) (φ := Point.reannounced) (fun p u => (reannounce_turns .standing p u).1)
    (fun p j u => (reannounce_turns .standing p u).2 j) Point.reannounced_again s.definedPoints
    { s with decay := some s.settings.chatterInterval } p
  refine all.trans ?_
  simp only [mem_definedPoints]
  change (if (s.point p).defn.isSome = true then (s.point p).reannounced s.mode else s.point p) = _
  rw [run]
  split
  · rfl
  · rename_i undefined
    rw [Bool.not_eq_true, Option.isSome_eq_false_iff, Option.isNone_iff_eq_none] at undefined
    exact (Point.reannounced_of_undefined undefined _).symm

/-- A module whose supervision the entry into RUN restarts where it is UNSEEN (R38). -/
def InputModule.restarted (v : InputModule) : InputModule :=
  if v.state = .unseen then
    match v.defn with
    | some d => { v with supervision := some d.supervision }
    | none => v
  else v

theorem InputModule.restarted_of_enabled {v : InputModule} {d : ModuleDef} (enabled : v.defn = some d) :
    v.restarted = if v.state = .unseen then { v with supervision := some d.supervision } else v := by
  cases v
  cases enabled
  rfl

theorem InputModule.restarted_of_disabled {v : InputModule} (disabled : v.defn = none) : v.restarted = v := by
  unfold InputModule.restarted
  rw [disabled]
  exact ite_self _

theorem restartUnseen_eq (m : Fin 16) (s : State) : restartUnseen m s = s ∧ (s.inputModule m).restarted = s.inputModule m ∨
    restartUnseen m s = s.setInputModule m (s.inputModule m).restarted := by
  unfold restartUnseen
  split
  · rename_i d enabled
    rw [InputModule.restarted_of_enabled enabled]
    split
    · exact .inr rfl
    · exact .inl ⟨rfl, rfl⟩
  · rename_i disabled
    exact .inl ⟨rfl, InputModule.restarted_of_disabled disabled⟩

theorem restartUnseen_module (m j : Fin 16) (s : State) :
    (restartUnseen m s).inputModule j = if j = m then (s.inputModule m).restarted else s.inputModule j := by
  rcases restartUnseen_eq m s with ⟨same, rests⟩ | restarts
  · rw [same, rests]
    split
    · rename_i at_m; rw [at_m]
    · rfl
  · rw [restarts]
    exact State.setInputModule_inputModule s m j _

theorem InputModule.restarted_again (v : InputModule) : v.restarted.restarted = v.restarted := by
  rcases Option.eq_none_or_eq_some v.defn with disabled | ⟨d, enabled⟩
  · rw [InputModule.restarted_of_disabled disabled, InputModule.restarted_of_disabled disabled]
  · rw [InputModule.restarted_of_enabled enabled]
    split
    · rename_i unseen
      exact (InputModule.restarted_of_enabled (v := { v with supervision := some d.supervision }) enabled).trans (if_pos unseen)
    · rename_i seen
      exact (InputModule.restarted_of_enabled enabled).trans (if_neg seen)

theorem modulesToRun_frame (s : State) : modulesToRun s = { s with modules := (modulesToRun s).modules } := by
  refine State.each_rel (R := fun s t : State => t = { s with modules := t.modules }) (fun _ => rfl) (fun {s t u} h k => ?_)
    (fun m u => ?_) s.enabledModules s
  · rw [k, h]
  · rcases restartUnseen_eq m u with ⟨same, _⟩ | restarts
    · rw [same]
    · rw [restarts]; rfl

theorem modulesToRun_module (s : State) (m : Fin 16) : (modulesToRun s).inputModule m = (s.inputModule m).restarted := by
  have all := State.each_updates (get := State.inputModule) (φ := InputModule.restarted) restartUnseen_module
    InputModule.restarted_again s.enabledModules s m
  refine all.trans ?_
  split
  · rfl
  · rename_i unlisted
    refine (InputModule.restarted_of_disabled ?_).symm
    by_contra enabled
    obtain ⟨d, enabled⟩ := Option.ne_none_iff_exists'.mp enabled
    exact unlisted (mem_enabledModules enabled)

end Sys2Proof.Machine

/-! O54: SET MODE RUN from CONFIGURING (R79, R122, R179 to R181). -/

namespace Sys2Proof.Machine

variable {s t u : State}

/-! ### Definitions of windows and groups -/

/-- No window and no group is defined otherwise. -/
structure State.sameDefinitions (s t : State) : Prop where
  window : ∀ w, (t.window w).defn = (s.window w).defn
  group : ∀ g, (t.group g).defn = (s.group g).defn

theorem State.sameDefinitions.refl (s : State) : s.sameDefinitions s := ⟨fun _ => rfl, fun _ => rfl⟩

theorem State.sameDefinitions.trans (h : s.sameDefinitions t) (k : t.sameDefinitions u) : s.sameDefinitions u :=
  ⟨fun w => (k.window w).trans (h.window w), fun g => (k.group g).trans (h.group g)⟩

theorem State.sameSequence.definitions (h : s.sameSequence t) : s.sameDefinitions t := ⟨h.defn, h.group⟩

theorem State.onlyShown.definitions (h : s.onlyShown t) : s.sameDefinitions t := h.sequence.definitions

theorem setWindow_definitions {w : Fin 192} {v : Window} (same : v.defn = (s.window w).defn) : s.sameDefinitions (s.setWindow w v) :=
  ⟨fun j => by
    rw [State.setWindow_window]
    split
    · rename_i at_w; rw [at_w, same]
    · rfl, fun _ => rfl⟩

theorem enterFast_definitions (w : Fin 192) (s : State) : s.sameDefinitions (enterFast w s) :=
  ⟨fun j => by
    rw [enterFast_window]
    split
    · rename_i at_w; rw [at_w]
    · rfl, fun g => by rw [enterFast_group]⟩

theorem activate_definitions (w : Fin 192) (capture : Option (Fin 1024 × Nat)) (s : State) : s.sameDefinitions (activate w capture s) := by
  have counted : s.sameDefinitions (countActivation w s) := setWindow_definitions rfl
  cases runs : sequenceRuns s w with
  | false => exact counted.trans (activate_rest_onlyShown runs capture).definitions
  | true => exact (counted.trans (enterFast_definitions w _)).trans (activate_sequence runs capture).definitions

theorem goDark_definitions (w : Fin 192) (s : State) : s.sameDefinitions (goDark w s) :=
  (setWindow_definitions (v := { s.window w with state := .dark }) rfl).trans (goDark_sequence w s).definitions

theorem joinAscending_definitions (before : List (Fin 6)) (s : State) : s.sameDefinitions (joinAscending before s) :=
  ⟨fun _ => rfl, fun _ => rfl⟩

theorem clearSource_definitions (w : Fin 192) (s : State) : s.sameDefinitions (clearSource w s) := by
  have counted : s.sameDefinitions (countClear w s) := setWindow_definitions rfl
  unfold clearSource
  dsimp only
  generalize countClear w s = t at *
  split
  · split
    · split
      · exact (counted.trans (setWindow_definitions (v := { t.window w with state := .slow }) rfl)).trans
          (redisplay_onlyShown w _).definitions
      · exact (counted.trans (goDark_definitions w t)).trans (redisplay_onlyShown w _).definitions
    · exact counted.trans (redisplay_onlyShown w t).definitions
  · exact counted.trans (redisplay_onlyShown w t).definitions

theorem sameDefinitions_alarms (s : State) : KeptByAlarms s.sameDefinitions where
  seen := fun hs windows groups _ _ _ => hs.trans ⟨fun w => by rw [State.window, windows]; rfl, fun g => by rw [State.group, groups]; rfl⟩
  activate := fun w capture _ hs => hs.trans (activate_definitions w capture _)
  clearSource := fun w _ hs => hs.trans (clearSource_definitions w _)

theorem annEnterRun_definitions (s : State) : s.sameDefinitions (annEnterRun s) := by
  refine .trans ?_ (redisplayAll_onlyShown (entriesIntoFast s)).definitions
  refine State.each_rel State.sameDefinitions.refl State.sameDefinitions.trans (fun w u => ?_) _ s
  split
  · exact enterFast_definitions w u
  · exact .refl u

/-! ### The steps of the entry -/

/-- The records of the mode change (R152, R157). -/
def runOffered (s : State) : State := queueOverflow (offerModeChange .run { s with mode := .run })

/-- The part in RUN before its elements are evaluated (R23, R38, R79). -/
def runReady (s : State) : State := modulesToRun (annEnterRun (pointsToRun (runOffered s)))

theorem enterRun_joined (s : State) : enterRun s = joinAscending s.ann.waiting (judgeLines (elementsToRun (runReady s))) := rfl

theorem runOffered_frame (s : State) : runOffered s = { s with mode := .run, events := (runOffered s).events } := by
  have touches := (offerModeChange_touches .run { s with mode := .run }).trans (queueOverflow_touches _)
  exact touches

theorem runReady_frame (s : State) : runReady s = { s with
    mode := .run
    decay := some s.settings.chatterInterval
    modules := (runReady s).modules
    points := (runReady s).points
    ann := (runReady s).ann
    events := (runOffered s).events } := by
  have offered := runOffered_frame s
  have points := pointsToRun_frame (runOffered s)
  have panel := annEnterRun_panel (pointsToRun (runOffered s))
  have modules := modulesToRun_frame (annEnterRun (pointsToRun (runOffered s)))
  unfold runReady
  unfold State.onlyPanel at panel
  generalize runOffered s = v at *
  generalize pointsToRun v = p at *
  generalize annEnterRun p = a at *
  generalize modulesToRun a = u at *
  rw [modules, panel, points, offered]

theorem runReady_module (s : State) (m : Fin 16) : (runReady s).inputModule m = (s.inputModule m).restarted := by
  have offered := runOffered_frame s
  have points := pointsToRun_frame (runOffered s)
  have panel := annEnterRun_panel (pointsToRun (runOffered s))
  unfold runReady
  unfold State.onlyPanel at panel
  rw [modulesToRun_module]
  generalize runOffered s = v at *
  generalize pointsToRun v = p at *
  generalize annEnterRun p = a at *
  unfold State.inputModule
  rw [panel, points, offered]

theorem runReady_point (s : State) (p : Fin 1024) : (runReady s).point p = (s.point p).reannounced .run := by
  have offered := runOffered_frame s
  have keeps := (annEnterRun_touches (pointsToRun (runOffered s))).keepsPoints.trans (modulesToRun_keepsPoints _)
  have points : (runOffered s).point p = s.point p := by rw [offered]; rfl
  rw [runReady, keeps.point, pointsToRun_point (by rw [offered]), points]

/-- The state when the elements have been evaluated: nothing but the Trip Matrix and what it reaches differs (R122). -/
theorem elementsToRun_frame (s : State) : elementsToRun s = { s with
    elements := (elementsToRun s).elements
    trip := (elementsToRun s).trip
    ann := (elementsToRun s).ann
    events := (elementsToRun s).events } := elementsToRun_touches s

/-- The entry into RUN: lines judged and drivers in ascending order, after the elements (R141, log entry 21). -/
theorem enterRun_last (s : State) : enterRun s = { elementsToRun (runReady s) with
    trip := { (elementsToRun (runReady s)).trip with
      bkt0 := lineCondition (elementsToRun (runReady s)) 0
      bkt1 := lineCondition (elementsToRun (runReady s)) 1 }
    ann := (elementsToRun (runReady s)).ann.joinedAfter s.ann.waiting } := by
  rw [enterRun_joined]
  generalize elementsToRun (runReady s) = v
  have waits (y : State) : joinAscending s.ann.waiting y = { y with ann := (joinAscending s.ann.waiting y).ann } := rfl
  rw [waits, joinAscending_ann, Annunciator.joinedAfter]
  rfl

theorem enterRun_frame (s : State) : enterRun s = { s with
    mode := .run
    modules := (enterRun s).modules
    points := (enterRun s).points
    decay := some s.settings.chatterInterval
    ann := (enterRun s).ann
    elements := (enterRun s).elements
    trip := (enterRun s).trip
    events := (enterRun s).events } := by
  have last := enterRun_last s
  have elements := elementsToRun_frame (runReady s)
  have ready := runReady_frame s
  generalize enterRun s = t at *
  generalize elementsToRun (runReady s) = v at *
  generalize runReady s = u at *
  rw [last, elements, ready]

theorem enterRun_module (s : State) (m : Fin 16) : (enterRun s).inputModule m = (s.inputModule m).restarted := by
  have elements := elementsToRun_frame (runReady s)
  have same : (enterRun s).modules = (runReady s).modules := by rw [enterRun_last, elements]
  rw [← runReady_module]
  unfold State.inputModule
  rw [same]

theorem enterRun_points (s : State) : (enterRun s).points = (runReady s).points := by
  rw [enterRun_last, elementsToRun_frame (runReady s)]

theorem enterRun_point (s : State) (p : Fin 1024) : (enterRun s).point p = (s.point p).reannounced .run := by
  rw [← runReady_point]
  unfold State.point
  rw [enterRun_points]

theorem enterRun_definitions (s : State) : s.sameDefinitions (enterRun s) := by
  have kept := (sameDefinitions_alarms s).deliveries
  have offered : s.sameDefinitions (runOffered s) := by rw [runOffered_frame]; exact ⟨fun _ => rfl, fun _ => rfl⟩
  have entered := kept.runEntered (s := s) ((kept.pointsToRun offered).trans (annEnterRun_definitions _))
  rw [enterRun_eq]
  exact entered.trans (joinAscending_definitions _ _)

theorem enterRun_begins (s : State) : (enterRun s).beginsWith (offerModeChange .run { s with mode := .run }).events.records := by
  have offered : (runOffered s).beginsWith (offerModeChange .run { s with mode := .run }).events.records := (State.beginsWith.refl _).overflowed
  generalize (offerModeChange .run { s with mode := .run }).events.records = r at *
  have deliveries := beginsWith_deliveries r
  have shown := deliveries.pointsToRun offered
  have ready : (runReady s).beginsWith r :=
    deliveries.modulesToRun (shown.of_events (State.onlyPanel.events (annEnterRun_panel _)))
  rw [enterRun_joined]
  exact (deliveries.judgeLines (deliveries.elementsToRun ready)).of_events (State.onlyPanel.events (joinAscending_panel _ _))

theorem runReady_trip (s : State) : (runReady s).trip = s.trip := by
  have ready := runReady_frame s
  generalize runReady s = u at *
  rw [ready]

theorem enterRun_outputs (s : State) : (enterRun s).trip.outputs = s.trip.outputs := by
  have last := enterRun_last s
  have kept := elementsToRun_outputs (runReady s)
  unfold State.keepsOutputs at kept
  rw [runReady_trip] at kept
  generalize elementsToRun (runReady s) = v at *
  rw [last]
  exact kept

theorem enterRun_channel (s : State) (c : Fin 16) : (enterRun s).channel c = (elementsToRun (runReady s)).channel c := by
  unfold State.channel
  rw [enterRun_last]

theorem enterRun_lines (s : State) (l : Fin 2) : (enterRun s).bktDrivenLow l = true ↔ ∃ c : Fin 16, halfOf c = l ∧
    ((enterRun s).channel c).state.asserted = true ∧ ((enterRun s).channel c).confirmation = .missing := by
  have drives : (enterRun s).bktDrivenLow l = lineCondition (elementsToRun (runReady s)) l := by
    rw [enterRun_last]
    generalize elementsToRun (runReady s) = v
    match l with
    | 0 => rfl
    | 1 => rfl
  have run : (elementsToRun (runReady s)).mode = .run := by rw [elementsToRun_frame, runReady_frame]
  simp only [enterRun_channel]
  rw [drives, lineCondition_iff, and_iff_right run]

end Sys2Proof.Machine

/-! O54, continued: the part as it stands when its elements are evaluated, and the obligation. -/

namespace Sys2Proof.Machine

variable {s t u : State}

/-- The part in RUN before any point is announced. -/
def runStarted (s : State) : State := { runOffered s with decay := some (runOffered s).settings.chatterInterval }

theorem runStarted_ann (s : State) : (runStarted s).ann = s.ann := by
  unfold runStarted
  rw [runOffered_frame]

theorem runStarted_window (s : State) (w : Fin 192) : (runStarted s).window w = s.window w := by
  unfold State.window
  rw [runStarted_ann]

theorem runStarted_horn (s : State) (h : Fin 4) : (runStarted s).horn h = s.horn h := by
  unfold State.horn
  rw [runStarted_ann]

theorem runStarted_hornOf (s : State) (w : Fin 192) : hornOfWindow (runStarted s) w = hornOfWindow s w :=
  hornOfWindow_congr (by rw [runStarted_window]) fun _ _ => by unfold State.group; rw [runStarted_ann]

theorem runReady_eq (s : State) : runReady s = { annEnterRun (pointsToRun (runOffered s)) with modules := (runReady s).modules } :=
  modulesToRun_frame _

theorem runReady_events (s : State) : (runReady s).events = (runOffered s).events := by
  have ready := runReady_frame s
  generalize runReady s = u at *
  rw [ready]

theorem runReady_panel (s : State) : (runReady s).ann = (annEnterRun (pointsToRun (runOffered s))).ann := by rw [runReady_eq]

theorem runReady_lit (s : State) (w : Fin 192) : (runReady s).window w = (annEnterRun (pointsToRun (runOffered s))).window w := by
  unfold State.window
  rw [runReady_panel]

theorem State.patternsDerived.modules (h : u.patternsDerived) (ms : Table 16 InputModule) : State.patternsDerived { u with modules := ms } := h

theorem runReady_patterns (s : State) : (runReady s).patternsDerived := by
  rw [runReady_eq]
  exact (annEnterRun_patternsDerived _).modules _

section
variable (configuring : s.mode = .configuring) (sound : s.windowsSound) (announced : s.announcedDerived)
include configuring sound announced

/-- The announcement of the points of a part at rest (R22, R23, R77). -/
theorem points_announced : (runStarted s).announces (pointsToRun (runOffered s)) := by
  have offered := runOffered_frame s
  have window (w : Fin 192) : (runOffered s).window w = s.window w := by rw [offered]; rfl
  have point (p : Fin 1024) : (runOffered s).point p = s.point p := by rw [offered]; rfl
  refine State.announces.pointsToRun (fun w => ?_) (by rw [offered]) fun p d defined => ?_
  · rw [window]; exact (sound.1 configuring w).1
  · rw [point] at defined ⊢; exact (announced p d defined).1 configuring

theorem runReady_enters : (runStarted s).enters (runReady s) := by
  have entered := (points_announced configuring sound announced).toenters.annEnterRun
  rw [runReady_eq]
  exact entered.modules _

theorem runReady_ann : (runReady s).ann = { s.ann with
    windows := (runReady s).ann.windows
    horns := (runReady s).ann.horns
    waiting := (runReady s).ann.waiting
    phaseWaiting := (runReady s).ann.phaseWaiting } := by
  have frame := (runReady_enters configuring sound announced).frame
  have started := runStarted_ann s
  generalize runReady s = u at *
  unfold State.onlyLights at frame
  rw [started] at frame
  exact congrArg State.ann frame

/-- One active source more for each point announced in ALARM (R61). -/
theorem runReady_count (w : Fin 192) : ((runReady s).window w).count = (s.window w).count + (runReady s).alarms w := by
  have keeps : (pointsToRun (runOffered s)).keepsPoints (runReady s) :=
    (annEnterRun_touches (pointsToRun (runOffered s))).keepsPoints.trans (modulesToRun_keepsPoints _)
  have same : (runReady s).alarms w = (pointsToRun (runOffered s)).alarms w := by
    unfold State.alarms
    rw [show alarmsAt (runReady s) w = alarmsAt (pointsToRun (runOffered s)) w from funext fun p => alarmsAt_congr (keeps.point p) w]
  have counted := (points_announced configuring sound announced).count w
  rw [runStarted_window, ← annEnterRun_count] at counted
  rw [same, ← counted, runReady_lit]

theorem runReady_state (w : Fin 192) : ((runReady s).window w).state =
    if (s.window w).defn.isSome && decide (0 < ((runReady s).window w).count) then .fast else .dark := by
  have lit := (points_announced configuring sound announced).annEnterRun_state w
  rw [runStarted_window, ← annEnterRun_count] at lit
  rw [runReady_lit]
  exact lit

theorem runReady_window (w : Fin 192) : (runReady s).window w = { s.window w with
    state := if (s.window w).defn.isSome && decide (0 < ((runReady s).window w).count) then .fast else .dark
    count := (s.window w).count + (runReady s).alarms w
    shown := derivedPattern (runReady s) w } := by
  have window := (runReady_enters configuring sound announced).window w
  have shown : ((runReady s).window w).shown = derivedPattern (runReady s) w := runReady_patterns s w
  rw [runStarted_window] at window
  rw [← runReady_state configuring sound announced w, ← runReady_count configuring sound announced w, ← shown]
  exact window

/-- The entries of a horn: its windows with active sources (R95, R99). -/
theorem runReady_entries (h : Fin 4) : (runReady s).entries h = ((List.finRange 192).filter fun w =>
    (s.window w).defn.isSome && decide (0 < ((runReady s).window w).count) && decide (hornOfWindow s w = some h)).length := by
  unfold State.entries
  rw [List.countP_eq_length_filter]
  refine congrArg List.length (List.filter_congr fun w _ => ?_)
  have hornOf := (runReady_enters configuring sound announced).hornOf w
  rw [runStarted_hornOf] at hornOf
  have state := runReady_state configuring sound announced w
  unfold fastFor
  rw [hornOf, state, Bool.decide_and]
  refine congrArg (· && _) ?_
  split
  · rename_i entering; rw [entering]; rfl
  · rename_i stays; rw [Bool.not_eq_true _ |>.mp stays]; rfl

theorem runReady_horn (h : Fin 4) : (runReady s).horn h = (s.horn h).entered ((runReady s).entries h) := by
  have horn := (runReady_enters configuring sound announced).horn h
  rw [runStarted_horn] at horn
  exact horn

theorem runReady_phase : (runReady s).ann.phaseWaiting = true ↔ s.ann.phaseWaiting = true ∨
    ∃ h, 0 < (runReady s).entries h ∧ (s.horn h).state ≠ .sounding := by
  have phase := (runReady_enters configuring sound announced).phase
  simp only [runStarted_ann, runStarted_horn] at phase
  exact phase

end

/-- The points in ALARM as the entry into RUN leaves them. -/
theorem runReady_alarms (s : State) (w : Fin 192) : (runReady s).alarms w =
    ((List.finRange 1024).filter fun p => sourceActive w (s.point p).defn ((enterRun s).point p).announced).length := by
  unfold State.alarms
  rw [List.countP_eq_length_filter]
  refine congrArg List.length (List.filter_congr fun p _ => ?_)
  have same : (enterRun s).point p = (runReady s).point p := by unfold State.point; rw [enterRun_points]
  have defn : ((runReady s).point p).defn = (s.point p).defn := by rw [runReady_point, Point.reannounced_defn]
  unfold alarmsAt
  rw [same, defn]

/-! ### The elements and the drivers -/

/-- Every defined element is evaluated, by rising number (R122). -/
theorem elementsToRun_ascending (canonical : s.canonical = true) : elementsToRun (runReady s) =
    State.each ((List.finRange 64).filter fun e => (s.element e).defn.isSome) (evaluateElement .moves) (runReady s) := by
  have elements : (runReady s).elements = s.elements := by
    have ready := runReady_frame s
    generalize runReady s = u at *
    rw [ready]
  unfold elementsToRun
  rw [definedElements_eq (by rw [elements]; exact canonical_elements canonical)]
  unfold State.element
  rw [elements]

/-- Before the elements: all but the Trip Matrix, the Annunciation Unit and the queue is as the entry leaves it. -/
theorem runReady_of_enterRun (s : State) : runReady s = { enterRun s with
    elements := s.elements
    trip := s.trip
    ann := (runReady s).ann
    events := (runReady s).events } := by
  have last := enterRun_last s
  have elements := elementsToRun_frame (runReady s)
  have ready := runReady_frame s
  generalize enterRun s = t at *
  generalize elementsToRun (runReady s) = v at *
  generalize runReady s = u at *
  rw [last, elements, ready]

/-! ### The command -/

theorem setModeRun_run (run : s.mode = .run) : setModeRun s = accept s := by
  unfold setModeRun
  rw [run]

theorem setModeRun_inconsistent {table : TableId} {k : Nat} (configuring : s.mode = .configuring)
    (fails : consistencyFailure s = some (table, k)) :
    setModeRun s = { status := .inconsistent, data := [table.code] ++ bytesOfNat 2 k, state := s } := by
  unfold setModeRun
  rw [configuring, fails]

theorem setModeRun_consistent (configuring : s.mode = .configuring) (consistent : consistencyFailure s = none) :
    setModeRun s = accept (enterRun s) := by
  unfold setModeRun
  rw [configuring, consistent]

/-- Settles O54. -/
theorem setModeRunEntersService : Obligations.SetModeRunEntersService := by
  refine ⟨fun src s ready => ⟨fun run => ?_, fun table k configuring fails => ?_, fun configuring consistent => ?_⟩,
    fun s canonical => ⟨consistencyFailure_of_clean canonical, fun n table fails k item failing first before =>
      consistencyFailure_of_first canonical item failing first before⟩⟩
  · rw [exec_of_ready (c := .setModeRun src) rfl ready]
    dsimp only
    rw [setModeRun_run run]
    rfl
  · rw [exec_of_ready (c := .setModeRun src) rfl ready]
    dsimp only
    rw [setModeRun_inconsistent configuring fails]
    rfl
  refine ⟨enterRun s, ?_, enterRun_frame s, enterRun_module s, enterRun_point s, (enterRun_definitions s).window,
    (enterRun_definitions s).group, enterRun_begins s, enterRun_outputs s, enterRun_lines s, fun canonical sound announced =>
      ⟨runReady s, ?_⟩⟩
  · rw [exec_of_ready (c := .setModeRun src) rfl ready]
    dsimp only
    rw [setModeRun_consistent configuring consistent]
    rfl
  intro v entering entries
  have value : v = elementsToRun (runReady s) := (elementsToRun_ascending canonical).symm
  clear_value v
  have counts (h : Fin 4) : entries h = (runReady s).entries h := (runReady_entries configuring sound announced h).symm
  clear_value entries
  have last := enterRun_last s
  rw [← value] at last
  refine ⟨by rw [last], by rw [last], by rw [last], by rw [last], by rw [last]; rfl, runReady_of_enterRun s, ?_,
    runReady_ann configuring sound announced, by rw [last]; rfl, fun w => ?_, fun h => ?_, ?_⟩
  · exact runReady_events s
  · have window := runReady_window configuring sound announced w
    rw [runReady_alarms] at window
    exact window
  · rw [counts]
    exact runReady_horn configuring sound announced h
  · simp only [counts]
    exact runReady_phase configuring sound announced

end Sys2Proof.Machine
